-- ==== Sys2Proof/Word.lean ====
section
/-! DEFINITION. The word and number types of the BF-716 (spec/00_scope.md, 3.2). Quantities of the audio path are the stored
integers themselves, as every formula of the spec is written on them; bytes and counters that wrap are bit vectors. -/

namespace Sys2Proof

/-- A byte of the host link, of a record or of the delay memory. -/
abbrev Byte := BitVec 8

/-- An arrival stamp or the sample counter: 32 bits, modulo 2^32 (R119). -/
abbrev Stamp := BitVec 32

/-- The smallest sample (3.2). -/
def sampleMin : Int := -8388608

/-- The largest sample (3.2). -/
def sampleMax : Int := 8388607

/-- One pair of samples (stored integers): IN-A and IN-B, or left and right. -/
abbrev Pair := Int × Int

end Sys2Proof
end

