-- ==== Sys2Proof/Config.lean ====
section
/-! DEFINITION. The numbers that the spec fixes for the part, gathered in one place, each with the rule that states it. -/

namespace Sys2Proof.Config

/-- Samples of one block (3.4). -/
def blockSamples : Nat := 48

/-- Positions of one delay line (spec/03, 3.1). -/
def lineLength : Nat := 131072

/-- Bytes of one delay line in the delay memory (3.1). -/
def lineBytes : Nat := 393216

/-- Line inputs kept by the recent window (R50). -/
def windowLength : Nat := 64

/-- Samples a read or write FIFO holds (R51, R52). -/
def fifoLength : Nat := 32

/-- Samples of one burst (R51, R52). -/
def burstLength : Nat := 16

/-- Samples of a cutting trail's fade (R49). -/
def fadeSamples : Nat := 256

/-- The chain engine's budget per block in units (R95). -/
def budget : Nat := 128

/-- The most units a record may cost (R66). -/
def recordBudget : Nat := 96

/-- Units of a running trail (R96). -/
def trailCost : Nat := 6

/-- The most records the outbound queue holds (R182). -/
def queueLength : Nat := 24

/-- The queue length below which a report is still posted (R182). -/
def reportRoom : Nat := 22

/-- Payload bytes the request input keeps (R177). -/
def maxPayload : Nat := 250

/-- Bytes of a preset record area (R104), and of the upload buffer (R71). -/
def recordArea : Nat := 1024

/-- Bytes of a table record (R106). -/
def tableRecordBytes : Nat := 771

/-- Bytes of the setup record. DESIGN CHOICE (log entry 8): its layout is internal to the flash (R106) and no
command shows its length. -/
def setupRecordBytes : Nat := 215

/-- Cues the cue input queue holds (R133). -/
def cueQueueLength : Nat := 16

/-- Entries the cue FIFO holds (R142). -/
def cueFifoLength : Nat := 32

/-- The shortest and the longest beat (R146). -/
def beatMin : Nat := 12000
def beatMax : Nat := 144000

/-- The beat length after a reset (R146). -/
def beatDefault : Nat := 24000

/-- The tempo unit's loss timer (R153). -/
def clockLoss : Nat := 24000

/-- The pattern that the probe writes to the j-th of the eight positions it probes (R58). The spec says only that it is
distinct: a free value (log entry 25). -/
opaque probePattern : Nat → BitVec 24

/-- The tuner's loss timer (R172). -/
def tunerLoss : Nat := 9600

/-- The shortest and the longest valid period, in 256ths of a sample (R167). -/
def periodMin : Nat := 8778
def periodMax : Nat := 614400

end Sys2Proof.Config
end

