-- ==== Sys2Proof/Syntax.lean ====
section
/-! DEFINITION. The commands of the BF-716: one constructor per row of spec/opcode_table.json. The table gives its rows no
operands; the operands here are what each step takes from outside the part (DESIGN CHOICE, log entry 3). -/

namespace Sys2Proof

/-- A request frame as the link controller received it (R177, R194): the bytes clocked in after the kind byte, in their order.
The row's constructor stands for the kind byte. Sys2Proof/Decode.lean takes the tag, the length field and the payload from
them. -/
structure Frame where
  bytes : List Byte
  deriving DecidableEq, Repr

/-- What one frame of the audio port and the pins show the part (R196, R120, R124): the four slots on ADIN, each by its 32 bits with
the first of them as bit 31, the levels of FS0..FS7 (bit n, 1 for high) and the 10-bit readings of EXP0..EXP3. -/
structure FrameInputs where
  adin : Vector (BitVec 32) 4
  contacts : BitVec 8
  pedals : Vector (BitVec 10) 4
  deriving DecidableEq, Repr

/-- How far a read transaction goes in this command (R180): the whole of it with `clocked` bytes clocked out after the 'R';
its start only, with the status byte clocked out; or its release, with `clocked` bytes of the record clocked out. -/
inductive ReadEvent where
  | whole (clocked : Nat)
  | start
  | release (clocked : Nat)
  deriving DecidableEq, Repr

/-- The commands. -/
inductive Instr where
  | resetnAssert
  | resetnRelease
  | directoryScan
  | setupLoad
  | bankLoad
  /-- bit j is 1 when the j-th of the eight probed positions read back as written (R58) -/
  | memoryProbe (readBack : BitVec 8)
  | memoryClear
  | audioFrame (inputs : FrameInputs)
  | readBurstComplete
  | writeBurstComplete
  | tunerRunComplete
  | tunerLossExpiry
  | beatEvent
  | clockLossExpiry
  | blockBoundary
  /-- a gate of the incoming (true) or playing (false) context, by stage position -/
  | gateHoldEnd (incoming : Bool) (stage : Fin 12)
  | trailOwnEnd (line : Fin 4)
  | trailFadeEnd (line : Fin 4)
  | loadRead
  | loadComplete
  | switchPoint
  | dipIn
  | switchEnd
  | eraseComplete
  /-- whether the bytes read back agreed with the write image (R112 step 4) -/
  | writeComplete (verified : Bool)
  | switchDebounce (switch : Fin 8)
  | switchHold (switch : Fin 8)
  | pedalScan
  | pedalUnplug (pedal : Fin 4)
  | pedalPlug (pedal : Fin 4)
  /-- a byte of the control port without framing error -/
  | controlFrame (byte : Byte)
  /-- a byte of the control port, with or without framing error; a break is one byte with framing error (R130) -/
  | controlDiscard (byte : Byte) (framingError : Bool)
  | cueTaken
  | clockLock
  | clockUpdate
  | readRecord (event : ReadEvent)
  /-- the whole bytes that the host sent in the transaction; none when chip-select rose in the first (R176) -/
  | ignoredTransaction (bytes : List Byte)
  /-- the number of header bytes received after 'W', fewer than four (R177) -/
  | incompleteFrame (headerBytes : Fin 4)
  | unknownRequest (kind : Byte) (frame : Frame)
  | ident (frame : Frame)
  | status (frame : Frame)
  | recallScene (frame : Frame)
  | cancel (frame : Frame)
  | edit (frame : Frame)
  | getParam (frame : Frame)
  | setLatch (frame : Frame)
  | getLatches (frame : Frame)
  | sendCue (frame : Frame)
  | setFilter (frame : Frame)
  | setMask (frame : Frame)
  | readCues (frame : Frame)
  | uploadOpen (frame : Frame)
  | uploadData (frame : Frame)
  | uploadCheck (frame : Frame)
  | store (frame : Frame)
  | erase (frame : Frame)
  | readSlot (frame : Frame)
  | list (frame : Frame)
  | tableWrite (frame : Frame)
  | tableRead (frame : Frame)
  | tableSave (frame : Frame)
  | tunerSet (frame : Frame)
  | tunerRead (frame : Frame)
  | tempoSet (frame : Frame)
  | tempoRead (frame : Frame)
  | pedalSet (frame : Frame)
  | pedalRead (frame : Frame)
  | switchSet (frame : Frame)
  | setupSave (frame : Frame)
  | reports (frame : Frame)
  | reset (frame : Frame)
  /-- a byte of the control port without framing error -/
  | controlFrameByte (byte : Byte)
  deriving DecidableEq, Repr

end Sys2Proof
end

