-- ==== Sys2Proof/WellFormed.lean ====
section
/-! DEFINITION. Which commands are well formed: the operands agree with the row's own name. Whether a request's frame and
fields are right is not judged here, since the part itself judges them and answers (R178). -/

namespace Sys2Proof

/-- The kind byte is one of the request kinds of the catalogue, 0x01..0x20 (R190). -/
def isRequestKind (kind : Byte) : Bool :=
  decide (1 ≤ kind.toNat) && decide (kind.toNat ≤ 32)

/-- The first byte does not select a write or a read (R176). -/
def ignoredFirst (bytes : List Byte) : Bool :=
  bytes.head? != some 0x57 && bytes.head? != some 0x52

/-- The operands of a command agree with its row: an unknown request's kind is not in the catalogue (R178), an ignored
transaction's first byte is neither 'W' nor 'R' (R176), and the fourth byte of a control-port frame is unmarked (R131). -/
def Instr.wellFormed : Instr → Bool
  | .unknownRequest kind _ => !isRequestKind kind
  | .ignoredTransaction bytes => ignoredFirst bytes
  | .controlFrame byte => !byte.msb
  | _ => true

end Sys2Proof
end

