-- ==== Sys2Proof/Decode.lean ====
section
/-! DEFINITION. What the bytes of a link transaction spell (R176, R177, R194), and Sys2Proof.decodeTableWord. The rows of
spec/opcode_table.json are steps of the part, not words of an encoding: no row gives bits, so no word spells a command. -/

namespace Sys2Proof

/-! ## The request frame (R177, R194): after the 'W', kind at byte 0, tag at 1, length at 2 and 3, payload from 4 -/

/-- Splits the bytes after the 'W' into the kind byte and the rest of the frame; none when the header of four bytes is
incomplete (R177). -/
def splitFrame : List Byte → Option (Byte × Frame)
  | kind :: tag :: l0 :: l1 :: payload => some (kind, { bytes := tag :: l0 :: l1 :: payload })
  | _ => none

/-- The header of the frame is complete: tag and both length bytes follow the kind byte (R177). -/
def Frame.complete (f : Frame) : Bool := decide (3 ≤ f.bytes.length)

/-- The tag (R194): byte 1 of the frame. -/
def Frame.tag (f : Frame) : Byte := f.bytes.getD 0 0

/-- The length field (R194): bytes 2 and 3 of the frame, the low byte first. -/
def Frame.length (f : Frame) : BitVec 16 := BitVec.ofNat 16 ((f.bytes.getD 1 0).toNat + 256 * (f.bytes.getD 2 0).toNat)

/-- The payload bytes received (R177, R194): from byte 4 of the frame on. -/
def Frame.payload (f : Frame) : List Byte := f.bytes.drop 3

/-! ## The transaction (R176) -/

/-- What a transaction is by its first byte (R176): the write of a frame whose header may be incomplete, a read with the number
of bytes that the host clocks after the 'R', or ignored. -/
inductive Transaction where
  | request (kind : Byte) (frame : Frame)
  | incomplete
  | read (clocked : Nat)
  | ignored
  deriving DecidableEq, Repr

/-- The bytes after a 'W' (R177). -/
def writeOf (bytes : List Byte) : Transaction :=
  match splitFrame bytes with
  | some (kind, f) => .request kind f
  | none => .incomplete

/-- The transaction that the bytes sent by the host select (R176): 'W' is 0x57, 'R' is 0x52. -/
def transactionOf : List Byte → Transaction
  | [] => .ignored
  | first :: rest => if first = 0x57 then writeOf rest else if first = 0x52 then .read rest.length else .ignored

/-! ## The opcode table -/

/-- The command a word spells by the table's bits. The table gives no row any bits ("fields": [] throughout), so every word
is refused. -/
def decodeTableWord (_nbits _w : Nat) : Option Instr :=
  none

end Sys2Proof
end

