-- ==== Sys2Proof/Machine/Types.lean ====
section
/-! DEFINITION. The parts of State: plain data, one structure or inductive per thing the spec names. Ranges that a field's
type does not carry are stated in its comment and gathered in Sys2Proof/Safety.lean. -/

namespace Sys2Proof.Machine

/-! ## Contexts, stages and bindings (spec/01 1.2, spec/04, spec/05 5.1) -/

/-- The six stage kinds (R62). -/
inductive StageKind where
  | gain | biquad | shaper | gate | delay | output
  deriving DecidableEq, Repr

/-- A context's input select (R4). -/
inductive InputSel where
  | a | b | sum
  deriving DecidableEq, Repr

/-- The timing of a switch point (R92). -/
inductive Timing where
  | now | beat
  deriving DecidableEq, Repr

/-- Where a recall came from (R75). -/
inductive Origin where
  | link | cue
  deriving DecidableEq, Repr

/-- Where a record is read from (R75, R82). -/
inductive Source where
  | slot (n : Fin 128)
  | upload
  | passthrough
  deriving DecidableEq, Repr

/-- The states of a GATE (R14). -/
inductive GateState where
  | closed | opening | opened | holding | closing
  deriving DecidableEq, Repr

/-- The running state of a BIQUAD: the previous two inputs and outputs (R7). -/
structure BiquadRun where
  x1 : Int
  x2 : Int
  y1 : Int
  y2 : Int
  deriving DecidableEq, Repr

/-- The running state of a GATE (R14..R16): its state, the gain `gg` of the last sample computed, the gains between which the
block's ramp runs, the hold counter, the peak of the block's computed samples and whether any sample was computed. -/
structure GateRun where
  state : GateState
  gg : Int
  ggStart : Int
  ggEnd : Int
  hold : Nat
  peak : Int
  computed : Bool
  deriving DecidableEq, Repr

/-- The running state of a DELAY (R40, R43): current offset D, tone state w, the line (none while the memory is absent) and
the value r took at the previous sample. -/
structure DelayRun where
  offset : Nat
  w : Int
  line : Option (Fin 4)
  r : Int
  deriving DecidableEq, Repr

/-- A stage's running state, by kind (spec/01, 1.2). -/
inductive Running where
  | none
  | biquad (b : BiquadRun)
  | gate (g : GateRun)
  | delay (d : DelayRun)
  deriving DecidableEq, Repr

/-- A stage record (spec/01, 1.2; R31..R33). Parameters stand by id (R63): `params` as stored, `current` as in force over the
block, `previous` as they were at the end of the block before (R5). `target` is the engage target of the block (R32) and
`m` the ramp position, 0..256 (R33). -/
structure Stage where
  kind : StageKind
  engage : BitVec 8
  latch : Fin 8
  default : Bool
  params : List Int
  current : List Int
  previous : List Int
  target : Bool
  m : Nat
  run : Running
  deriving DecidableEq, Repr

/-- The modes of a LATCH binding (R28). -/
inductive LatchMode where
  | toggle | momentary | set | clear | threshold
  deriving DecidableEq, Repr

/-- A binding's target (R64). -/
inductive Target where
  | latch (latch : Fin 8) (mode : LatchMode)
  | param (stage : Nat) (id : Nat) (low : Int) (high : Int)
  deriving DecidableEq, Repr

/-- A binding entry: its number 0..15 and its target (R64). -/
structure Binding where
  number : Nat
  target : Target
  deriving DecidableEq, Repr

/-- The latch field of a record (R61): the latches named and their values. -/
structure LatchField where
  mask : BitVec 8
  values : BitVec 8
  deriving DecidableEq, Repr

/-- The three optional parts of a record or context (R61); a part that is `none` is absent, and its "inherits" flag is set. -/
structure Parts where
  input : Option InputSel
  tempo : Option Nat
  latches : Option LatchField
  deriving DecidableEq, Repr

/-- A context (R75). -/
structure Context where
  source : Source
  number : BitVec 8
  origin : Origin
  timingOverride : Option Timing
  fadeOverride : Option (BitVec 8)
  name : List Byte
  fade : BitVec 8
  timing : Timing
  parts : Parts
  input : InputSel
  cost : Nat
  delays : Nat
  stages : List Stage
  bindings : List Binding
  edited : Bool
  deriving DecidableEq, Repr

/-- A stage entry of a preset record (R62). -/
structure StageEntry where
  kind : StageKind
  engage : BitVec 8
  latch : Fin 8
  default : Bool
  params : List Int
  deriving DecidableEq, Repr

/-- A preset record's fields (R60). -/
structure Record where
  name : List Byte
  fade : BitVec 8
  timing : Timing
  parts : Parts
  stages : List StageEntry
  bindings : List Binding
  deriving DecidableEq, Repr

/-- The reasons of validation, with NO_SLOT for SCENE FAILED alone (R67, R195). -/
inductive Reason where
  | length | version | name | stageCount | kind | noOutput | range | tooManyDelays | binding | overBudget | noSlot
  deriving DecidableEq, Repr

/-- The result of validation (R67): OK with cost and DELAY count, or the first fault's reason and offset. -/
inductive Verdict where
  | ok (cost : Nat) (delays : Nat)
  | bad (reason : Reason) (offset : Nat)
  deriving DecidableEq, Repr

/-! ## Scene manager (spec/05) -/

/-- How far a load has come (R87..R90): held until start-up step 9 (R198), about to read, waiting for a flash write (R113), or
holding its validated copy and finding lines (R89). -/
inductive LoadPhase where
  | held
  | toRead
  | waiting
  | lines (copy : Record)
  deriving DecidableEq, Repr

/-- A queued recall (R85). -/
structure QueuedRecall where
  source : Source
  origin : Origin
  timingOverride : Option Timing
  fadeOverride : Option (BitVec 8)
  number : BitVec 8
  deriving DecidableEq, Repr

/-- The scene state with what it holds (R81). `beat` says that a beat event was taken while ARMED (R92). The phase of a DIP is
the mixer's (R20). -/
inductive Scene where
  | steady
  | loading (incoming : Context) (phase : LoadPhase)
  | armed (incoming : Context) (beat : Bool)
  | crossfade (incoming : Context) (queued : Option QueuedRecall)
  | dip (incoming : Context) (queued : Option QueuedRecall)
  deriving DecidableEq, Repr

/-- A trail's state (R48, R49): RUNNING; CUTTING with its fade not yet begun, until the next boundary; CUTTING at fade sample
j, where j = 256 means that the fade has ended and the trail is about to leave. -/
inductive TrailState where
  | running
  | cutWait
  | cutting (j : Nat)
  deriving DecidableEq, Repr

/-- A trail (R46): its line and what it took from its stage, its state, and its accounts (R48). -/
structure Trail where
  line : Fin 4
  offset : Nat
  w : Int
  r : Int
  tone : Int
  feedback : Int
  wet : Int
  gainL : Int
  gainR : Int
  state : TrailState
  age : Nat
  quiet : Nat
  peak : Int
  deriving DecidableEq, Repr

/-- The scene manager (R76). -/
structure SceneManager where
  playing : Context
  scene : Scene
  trails : List Trail
  lastRecall : BitVec 8
  deriving DecidableEq, Repr

/-! ## Chain engine (spec/01) -/

/-- A shaper bank: entries T[0..256] (R9). -/
abbrev Table := Vector Int 257

/-- The mixer's phases (R18..R20). -/
inductive MixPhase where
  | single | crossfade | dipOut | dipIn
  deriving DecidableEq, Repr

/-- The mixer: its phase, the samples of the phase rendered so far, 0..length, and the phase's length in samples (R18). -/
structure Mixer where
  phase : MixPhase
  k : Nat
  length : Nat
  deriving DecidableEq, Repr

/-- The chain engine. `hasContext` and `handover`: a context is rendered, or handed over and waiting for a boundary (R2, R198).
`clipRose`: a flag went from clear to set in this block; `levelsCatchUp`: LEVELS was enabled since the last boundary (R23).
`history`: the inputs of the last 48 frames, oldest first (R196). `blockClosed`, `boundaryTaken`: how much of the boundary that
stands here has been taken (R3). -/
structure Chain where
  hasContext : Bool
  handover : Bool
  banks : Vector Table 8
  stageClip : BitVec 12
  mainClip : Bool
  clipRose : Bool
  levelsCatchUp : Bool
  mixer : Mixer
  history : List Pair
  blockClosed : Bool
  boundaryTaken : Bool
  deriving DecidableEq, Repr

/-! ## Latch set (spec/02) -/

/-- A hold record: the cue source and index it names (spec/02, 2.1). -/
structure Hold where
  source : BitVec 4
  index : BitVec 8
  deriving DecidableEq, Repr

/-- A latch: its value and its hold record, if present (R25). -/
structure Latch where
  value : Bool
  hold : Option Hold
  deriving DecidableEq, Repr

/-! ## Delay memory controller (spec/03) -/

/-- A line's holder (spec/03, 3.1). -/
inductive Holder where
  | free
  | playing (stage : Nat)
  | incoming (stage : Nat)
  | trail
  | cutting
  deriving DecidableEq, Repr

/-- A line of the line table (spec/03, 3.1). FIFO entries are positions with their samples, oldest first; the window holds the
newest line input first. -/
structure Line where
  holder : Holder
  wp : Nat
  span : Nat
  underruns : Nat
  overruns : Nat
  readFifo : List (Nat × Int)
  writeFifo : List (Nat × Int)
  window : List Int
  deriving DecidableEq, Repr

/-- A burst in flight on the memory port (R54, R55). A read keeps the positions whose samples are still wanted; a write carries
its own entries, and `stale` says that its allocation has ended (R39). -/
inductive Burst where
  | read (line : Fin 4) (wanted : List Nat)
  | write (line : Fin 4) (entries : List (Nat × Int)) (stale : Bool)
  deriving DecidableEq, Repr

/-- The delay memory controller: memory-present flag, line table, port (burst in flight and the last FIFO served, in the ring
R0, W0, .. W3 numbered 0..7) and the memory's contents. -/
structure DelayMemory where
  present : Bool
  lines : Vector Line 4
  burst : Option Burst
  lastServed : Fin 8
  mem : List Host.Cell
  deriving DecidableEq, Repr

/-! ## Preset store (spec/06) -/

/-- A preset slot of the flash: state marker, header length and record bytes (R104). -/
structure FlashSlot where
  valid : Bool
  length : Nat
  bytes : List Byte
  deriving DecidableEq, Repr

/-- A table slot of the flash (R106). -/
structure TableSlot where
  valid : Bool
  length : Nat
  entries : Table
  deriving DecidableEq, Repr

/-- The actions of a filter, with the argument of those that take one (R136). -/
inductive Action where
  | none
  | bind (n : Fin 16)
  | startRecall (arg : Fin 128)
  | tap
  | clock
  | tuner
  deriving DecidableEq, Repr

/-- A filter's mask select (R136). -/
inductive MaskSel where
  | mask (n : Fin 4)
  | exact
  deriving DecidableEq, Repr

/-- A filter entry (R136). -/
structure Filter where
  enable : Bool
  identifier : BitVec 16
  mask : MaskSel
  action : Action
  copy : Bool
  deriving DecidableEq, Repr

/-- The tuner's sources and modes (R158). -/
inductive TunerSource where
  | a | b
  deriving DecidableEq, Repr

inductive TunerMode where
  | off | silent | mute
  deriving DecidableEq, Repr

/-- The six tuner settings of the setup (R106, R158); `toggle` is SILENT or MUTE. -/
structure TunerSettings where
  source : TunerSource
  toggle : TunerMode
  reference : Nat
  window : Nat
  runLength : Nat
  threshold : Int
  deriving DecidableEq, Repr

/-- A pedal's settings (R106, R124). -/
structure PedalSettings where
  enabled : Bool
  lo : Nat
  hi : Nat
  deadband : Nat
  deriving DecidableEq, Repr

/-- The settings that the setup keeps (R106), other than the power-on preset. -/
structure Settings where
  tuner : TunerSettings
  debounceMs : Nat
  holdMs : Nat
  scanMs : Nat
  pedals : Vector PedalSettings 4
  filters : Vector Filter 24
  masks : Vector (BitVec 16) 4
  watermark : Nat
  deriving DecidableEq, Repr

/-- The setup record (R106); no power-on preset stands for NONE. -/
structure SetupRecord where
  powerOn : Option (Fin 128)
  settings : Settings
  deriving DecidableEq, Repr

/-- The setup slot of the flash (R106). -/
structure SetupSlot where
  valid : Bool
  length : Nat
  record : SetupRecord
  deriving DecidableEq, Repr

/-- A VALID directory entry: the record's length and name (R105). -/
structure DirEntry where
  length : Nat
  name : List Byte
  deriving DecidableEq, Repr

/-- An operation of the write engine with its target (R107). -/
inductive StoreOp where
  | store (slot : Fin 128)
  | erase (slot : Fin 128)
  | tableSave (bank : Fin 8)
  | setupSave
  deriving DecidableEq, Repr

/-- The phases of a write (R107). -/
inductive WritePhase where
  | erasing | programming
  deriving DecidableEq, Repr

/-- The write image (R107). -/
inductive WriteImage where
  | empty
  | preset (bytes : List Byte)
  | table (entries : Table)
  | setup (record : SetupRecord)
  deriving DecidableEq, Repr

/-- The write engine (R107). -/
inductive WriteEngine where
  | idle
  | writing (op : StoreOp) (phase : WritePhase) (image : WriteImage)
  deriving DecidableEq, Repr

/-- The preset store: flash, directory (`none` is EMPTY, R105) and write engine. -/
structure Store where
  presets : Vector FlashSlot 128
  tables : Vector TableSlot 8
  setup : SetupSlot
  directory : Vector (Option DirEntry) 128
  engine : WriteEngine
  deriving DecidableEq, Repr

/-! ## Cue unit (spec/07) -/

/-- The kinds of a cue (R118). -/
inductive CueKind where
  | switchDown | switchUp | switchHold | control | program | clock | tap
  deriving DecidableEq, Repr

/-- A cue (R118). -/
structure Cue where
  source : BitVec 4
  kind : CueKind
  index : BitVec 8
  value : BitVec 10
  stamp : Stamp
  deriving DecidableEq, Repr

/-- A switch's debounced state (R120). -/
inductive SwitchState where
  | released | pressed | unknown
  deriving DecidableEq, Repr

/-- A switch (R120..R122): debounced state, debounce count, whether the last reading was pressed, hold count and whether it
runs, and whether a debounce or a hold was completed by the last reading and waits to be taken. -/
structure Switch where
  state : SwitchState
  count : Nat
  last : Option Bool
  hold : Nat
  holdRunning : Bool
  debounceDue : Bool
  holdDue : Bool
  deriving DecidableEq, Repr

/-- A pedal (R124): its settings, plug state, run count, last raw reading, value and last value sent. -/
structure Pedal where
  settings : PedalSettings
  plugged : Bool
  run : Nat
  raw : Nat
  value : Nat
  lastSent : Option Nat
  deriving DecidableEq, Repr

/-- An entry of the cue FIFO (R142). -/
structure FifoEntry where
  cue : Cue
  filter : Fin 24
  deriving DecidableEq, Repr

/-- The cue unit. `countdown` is the samples left to the next scan, 0 when it is due; `scanAt` is the pedal whose plug change
waits to be taken before the scan goes on; `frame` is the control-port bytes of a partial frame, first byte first. -/
structure CueUnit where
  queue : List Cue
  lost : Bool
  filters : Vector Filter 24
  masks : Vector (BitVec 16) 4
  fifo : List FifoEntry
  overflow : Bool
  watermark : Nat
  switches : Vector Switch 8
  debounceMs : Nat
  holdMs : Nat
  pedals : Vector Pedal 4
  scanMs : Nat
  countdown : Nat
  scanAt : Option (Fin 4)
  frame : List Byte
  discards : Nat
  deriving DecidableEq, Repr

/-! ## Tempo unit (spec/08) -/

/-- The tempo sources (R146). -/
inductive TempoSource where
  | default | preset | tap | clock | link | held
  deriving DecidableEq, Repr

/-- The tempo unit (R146). `loss` is the samples left on the loss timer, `none` when it is stopped and `some 0` when it has
expired and the expiry waits to be taken; `beatDue` is a beat event that waits to be taken (R147). -/
structure Tempo where
  beat : Nat
  position : Nat
  restart : Bool
  source : TempoSource
  locked : Bool
  tapLast : Option Stamp
  tapRun : List Nat
  clockLast : Option Stamp
  clockFirst : Option Nat
  clockRun : List Nat
  clockCount : Nat
  loss : Option Nat
  beatDue : Bool
  deriving DecidableEq, Repr

/-! ## Tuner (spec/09) -/

/-- The measurement states (R158). -/
inductive Measure where
  | off | seeking | tracking
  deriving DecidableEq, Repr

/-- A reading (R158). -/
structure Reading where
  note : Nat
  cents : Int
  inTune : Bool
  period : Nat
  deriving DecidableEq, Repr

/-- The last reported reading (R158): none yet, NO_SIGNAL, or a reading. -/
inductive LastReport where
  | none
  | noSignal
  | reading (r : Reading)
  deriving DecidableEq, Repr

/-- The tuner (R158). `positive` is the comparator at POS; `latest` is `none` for NO_SIGNAL; `loss` is as in Tempo. -/
structure Tuner where
  settings : TunerSettings
  mode : TunerMode
  measure : Measure
  y : Int
  positive : Bool
  lastCrossing : Option Nat
  first : Option Nat
  count : Nat
  sum : Nat
  loss : Option Nat
  latest : Option Reading
  reported : LastReport
  deriving DecidableEq, Repr

/-! ## Link controller (spec/10) -/

/-- A record the part sends (R194): kind, tag, status or sub-kind, and payload. -/
structure OutRecord where
  kind : Byte
  tag : Byte
  status : Byte
  payload : List Byte
  deriving DecidableEq, Repr

/-- The coalesced slots (R184). -/
inductive Slot where
  | tuner | levels | cues
  deriving DecidableEq, Repr

/-- The head record that a read transaction in progress has fixed (R180): a record of the queue, a coalesced report with
whether its slot has been given a newer report since, or nothing. -/
inductive ReadHead where
  | queue (record : OutRecord)
  | slot (slot : Slot) (record : OutRecord) (replaced : Bool)
  | nothing
  deriving DecidableEq, Repr

/-- The link controller (R181..R186). `reading` is a read transaction in progress whose status byte has been clocked out. -/
structure Link where
  queue : List OutRecord
  tuner : Option OutRecord
  levels : Option OutRecord
  cues : Option OutRecord
  dropped : Bool
  lost : Bool
  mask : BitVec 16
  reading : Option ReadHead
  deriving DecidableEq, Repr

/-! ## Start-up and pins (spec/11) -/

/-- The step of the start-up sequence whose work is awaited (R198), reset held by RESETn, or requests accepted. -/
inductive StartPhase where
  | held
  | directory
  | setup
  | banks
  | probe
  | clear
  | running
  deriving DecidableEq, Repr

/-- The start-up sequence. `powerOn` says that RESETn began it, so that step 5 probes (R197); the rest is what STARTED tells
(R199). -/
structure StartUp where
  phase : StartPhase
  powerOn : Bool
  setupValid : Bool
  tablesLoaded : BitVec 8
  preset : Option (Fin 128)
  deriving DecidableEq, Repr

/-- The pins: the samples OUT-L and OUT-R on DAOUT (R196; `State.daout` gives the whole frame), the contact levels and pedal readings of the last frame (R120, R124), and
the bytes that MISO has sent in the last link transaction, the first byte at its head (R176, R180). Every byte of the transaction
beyond the list is 0x00, so a write or an ignored transaction leaves the list empty (R176; log entry 17). -/
structure Pins where
  outL : Int
  outR : Int
  contacts : BitVec 8
  pedals : Vector (BitVec 10) 4
  sent : List Byte
  deriving DecidableEq, Repr

end Sys2Proof.Machine
end

