-- ==== Sys2Proof/Machine/ResetValues.lean ====
section
/-! DEFINITION. The values each block takes at a reset, and the defaults of the settings, from the rules of the owning chapters.
Both resets (R197) and State.reset are made of them. -/

namespace Sys2Proof.Machine

/-- The passthrough record (R65). -/
def passthroughRecord : Record where
  name := []
  fade := 0
  timing := .now
  parts := { input := some .a, tempo := none, latches := none }
  stages := [{ kind := .output, engage := 0x55, latch := 0, default := false, params := [4096, 4096] }]
  bindings := []

/-- The OUTPUT stage built from the passthrough record (R2, R65). Its ramp position and engage target are set when the context is
handed to the chain engine (R33); the m = 0 and the target not engaged that they hold until then are the model's choice (DESIGN
CHOICE, log entry 29). -/
def passthroughStage : Stage where
  kind := .output
  engage := 0x55
  latch := 0
  default := false
  params := [4096, 4096]
  current := [4096, 4096]
  previous := [4096, 4096]
  target := false
  m := 0
  run := .none

/-- The playing context of a reset: the passthrough record, recall number 0, origin LINK, input select A, not edited (R76). -/
def passthroughContext : Context where
  source := .passthrough
  number := 0
  origin := .link
  timingOverride := none
  fadeOverride := none
  name := []
  fade := 0
  timing := .now
  parts := { input := some .a, tempo := none, latches := none }
  input := .a
  cost := 2
  delays := 0
  stages := [passthroughStage]
  bindings := []
  edited := false

/-- The scene manager after a reset (R76). -/
def sceneReset : SceneManager where
  playing := passthroughContext
  scene := .steady
  trails := []
  lastRecall := 0

/-- A shaper bank before start-up step 4 loads it. DESIGN CHOICE (log entry 10). -/
def blankTable : Table := Vector.replicate 257 0

/-- A frame of silence (log entry 9). -/
def silence : List Pair := List.replicate 48 (0, 0)

/-- The chain engine after a reset (R2, R22), with the banks and the inputs of the last 48 frames that it is given. -/
def chainReset (banks : Vector Table 8) (history : List Pair) : Chain where
  hasContext := false
  handover := false
  banks := banks
  stageClip := 0
  mainClip := false
  clipRose := false
  levelsCatchUp := false
  mixer := { phase := .single, k := 0, length := 0 }
  history := history
  blockClosed := false
  boundaryTaken := false

/-- The latch set after a reset (R25). -/
def latchesReset : Vector Latch 8 := Vector.replicate 8 { value := false, hold := none }

/-- A line after a reset (R37). -/
def lineReset : Line where
  holder := .free
  wp := 0
  span := 0
  underruns := 0
  overruns := 0
  readFifo := []
  writeFifo := []
  window := []

/-- The delay memory controller after a reset (R37, R54), with the memory-present flag and the contents it is given (R58). -/
def delayReset (present : Bool) (mem : List Host.Cell) : DelayMemory where
  present := present
  lines := Vector.replicate 4 lineReset
  burst := none
  lastServed := 7
  mem := mem

/-- The tuner's default settings (R158). -/
def tunerDefaults : TunerSettings where
  source := .a
  toggle := .mute
  reference := 4400
  window := 20
  runLength := 4
  threshold := 65536

/-- A pedal's default settings (R124). -/
def pedalDefaults : PedalSettings where
  enabled := true
  lo := 32
  hi := 991
  deadband := 4

/-- The default filter entry of each number (R136). -/
def filterDefault (n : Fin 24) : Filter :=
  if n.val < 8 then
    { enable := true, identifier := BitVec.ofNat 16 n.val, mask := .exact, action := .bind (Fin.ofNat 16 n.val), copy := false }
  else if n.val < 16 then
    { enable := true, identifier := BitVec.ofNat 16 (0x100 + (n.val - 8)), mask := .exact,
      action := .bind (Fin.ofNat 16 (n.val - 8)), copy := false }
  else if n.val < 20 then
    { enable := true, identifier := BitVec.ofNat 16 (0x1300 + (n.val - 16)), mask := .exact,
      action := .bind (Fin.ofNat 16 (8 + (n.val - 16))), copy := false }
  else if n.val = 20 then
    { enable := true, identifier := 0x0400, mask := .mask 1, action := .startRecall 0, copy := false }
  else
    { enable := false, identifier := 0, mask := .exact, action := .none, copy := false }

/-- The defaults of all the settings of the setup (R120, R124, R136, R142, R158). -/
def settingsDefault : Settings where
  tuner := tunerDefaults
  debounceMs := 8
  holdMs := 600
  scanMs := 2
  pedals := Vector.replicate 4 pedalDefaults
  filters := Vector.ofFn filterDefault
  masks := #v[0x0FFF, 0x0F00, 0xFF00, 0x0000]
  watermark := 1

/-- A switch after a reset (R120). -/
def switchReset : Switch where
  state := .unknown
  count := 0
  last := none
  hold := 0
  holdRunning := false
  debounceDue := false
  holdDue := false

/-- A pedal after a reset, with its settings (R124). -/
def pedalReset (settings : PedalSettings) : Pedal where
  settings := settings
  plugged := true
  run := 0
  raw := 0
  value := 0
  lastSent := none

/-- The cue unit after a reset (R120, R124, R130, R133, R136, R142). That its settings (filters, masks, watermark, debounce, hold and
scan times, the pedals' settings) hold the defaults until start-up step 3 is the model's choice (DESIGN CHOICE, log entry 10). -/
def cuesReset : CueUnit where
  queue := []
  lost := false
  filters := settingsDefault.filters
  masks := settingsDefault.masks
  fifo := []
  overflow := false
  watermark := settingsDefault.watermark
  switches := Vector.replicate 8 switchReset
  debounceMs := settingsDefault.debounceMs
  holdMs := settingsDefault.holdMs
  pedals := Vector.replicate 4 (pedalReset pedalDefaults)
  scanMs := settingsDefault.scanMs
  countdown := 0
  scanAt := none
  frame := []
  discards := 0

/-- The tempo unit after a reset (R146). -/
def tempoReset : Tempo where
  beat := Config.beatDefault
  position := 0
  restart := false
  source := .default
  locked := false
  tapLast := none
  tapRun := []
  clockLast := none
  clockFirst := none
  clockRun := []
  clockCount := 0
  loss := none
  beatDue := false

/-- The tuner after a reset (R158). That its six settings hold the defaults until start-up step 3 is the model's choice (DESIGN
CHOICE, log entry 10). -/
def tunerReset : Tuner where
  settings := tunerDefaults
  mode := .off
  measure := .off
  y := 0
  positive := false
  lastCrossing := none
  first := none
  count := 0
  sum := 0
  loss := none
  latest := none
  reported := .none

/-- The link controller after a reset, with the enable mask that stands (R176, R181, R182, R184, R186). -/
def linkReset (mask : BitVec 16) : Link where
  queue := []
  tuner := none
  levels := none
  cues := none
  dropped := false
  lost := false
  mask := mask
  reading := none

/-- The enable mask after a power-on reset: all nine bits (R186). -/
def maskDefault : BitVec 16 := 0x01FF

/-- The start-up sequence as a reset leaves it, waiting for the directory scan of step 2 (R198). -/
def startUpReset (powerOn : Bool) : StartUp where
  phase := .directory
  powerOn := powerOn
  setupValid := false
  tablesLoaded := 0
  preset := none

/-- The directory before step 2: no VALID slot (R198). -/
def directoryReset : Vector (Option DirEntry) 128 := Vector.replicate 128 none

/-- A setup slot whose sector is erased (R106, R112): no command shows what its blank record reads as (log entry 5). -/
def blankSetup : SetupSlot where
  valid := false
  length := 0
  record := { powerOn := none, settings := settingsDefault }

/-- Erased flash (R104): the flash of State.reset. DESIGN CHOICE (log entry 5). -/
def erasedStore : Store where
  presets := Vector.replicate 128 { valid := false, length := 0, bytes := [] }
  tables := Vector.replicate 8 { valid := false, length := 0, entries := blankTable }
  setup := blankSetup
  directory := directoryReset
  engine := .idle

/-- The pins of State.reset. DESIGN CHOICE for the inputs (log entry 9): contacts open, jacks empty. -/
def pinsReset : Pins where
  outL := 0
  outR := 0
  contacts := 0xFF
  pedals := Vector.replicate 4 1023
  sent := []

end Sys2Proof.Machine
end

