-- ==== Sys2Proof/Machine/State.lean ====
section
/-! DEFINITION. State: all that the spec gives the BF-716, block by block, and the queue of commands that wait. -/

namespace Sys2Proof.Machine

/-- The state of the part. `sampleCounter` is R119's; `upload` is the upload buffer's record: the bytes appended at the cursor
(R71), whose number is the cursor, every byte beyond being 0 (log entry 26). `pending` is the model's own: the commands that wait,
first in, first out (log entry 1). -/
structure State where
  sampleCounter : Stamp
  startUp : StartUp
  pins : Pins
  chain : Chain
  latches : Vector Latch 8
  delay : DelayMemory
  scenes : SceneManager
  store : Store
  upload : List Byte
  cues : CueUnit
  tempo : Tempo
  tuner : Tuner
  link : Link
  pending : List Instr
  deriving DecidableEq, Repr

/-- Why a command stops with a fault: no reason exists. The spec gives every event and request of the BF-716 an effect, a
status code or no effect, so no meaning of this model ends in a fault (safe: nothing is cut short). -/
inductive Fault where
  deriving DecidableEq, Repr

/-- Why a command has no meaning. -/
inductive Refusal where
  /-- Raised by exec's arms alone, for a row whose meaning is not written; no arm of this model raises it (safe). -/
  | notModelled (mnemonic : String)
  deriving DecidableEq, Repr

/-- The machine right after a power-on reset (R197): every block at its reset value, the start-up sequence at step 1 with the
directory scan awaited, flash erased (log entry 5) and no command waiting. -/
def State.reset : State where
  sampleCounter := 0
  startUp := startUpReset true
  pins := pinsReset
  chain := chainReset (Vector.replicate 8 blankTable) silence
  latches := latchesReset
  delay := delayReset false []
  scenes := sceneReset
  store := erasedStore
  upload := []
  cues := cuesReset
  tempo := tempoReset
  tuner := tunerReset
  link := linkReset maskDefault
  pending := []

/-- What a step answers. -/
abbrev Outcome := Host.Outcome State Fault Refusal

end Sys2Proof.Machine
end

