-- ==== Sys2Proof/Machine/Arith.lean ====
section
/-! DEFINITION. Rounding, saturation and clamping (spec/00_scope.md, 3.3), the samples in the slots of the audio port (R196) and the byte order
of the link (R191). -/

namespace Sys2Proof.Machine

/-- `sat` of 3.3: clamps to the sample range. -/
def sat (x : Int) : Int := max sampleMin (min sampleMax x)

/-- A saturation that changes the value it is given, and so sets a clip flag (R1). -/
def clips (x : Int) : Bool := sat x != x

/-- `Clamp` of 3.3, to lo..hi. -/
def clampTo (lo hi x : Int) : Int := max lo (min hi x)

/-- The same on natural numbers. -/
def clampNat (lo hi x : Nat) : Nat := max lo (min hi x)

/-- Round by 12, 22 and 23 bits (3.3): half toward plus infinity. -/
def round12 (x : Int) : Int := (x + 2048) / 4096

def round22 (x : Int) : Int := (x + 2097152) / 4194304

def round23 (x : Int) : Int := (x + 4194304) / 8388608

/-- Round half up of the quotient a/b, for b other than 0 (3.3). -/
def divHalfUp (a b : Int) : Int :=
  if b < 0 then (2 * -a + -b) / (2 * -b) else (2 * a + b) / (2 * b)

/-- The ceiling of a/b for b above 0 (R16). -/
def divCeil (a b : Int) : Int := (a + (b - 1)) / b

/-- A step of a linear ramp over a block: from `old` to `new`, at sample k of 0..47 (R5, R16). -/
def rampAt (old new : Int) (k : Nat) : Int := old + (new - old) * ((k : Int) + 1) / 48

/-- The blend of a stage's input x and output y at ramp position m (R34). -/
def blendAt (x y : Int) (m : Nat) : Int := x + ((y - x) * (m : Int) + 128) / 256

/-- Scaling by a ramp position (R35, R44, R49). -/
def scaleAt (x : Int) (m : Nat) : Int := (x * (m : Int) + 128) / 256

/-- The sample that a slot carries in the first 24 of its 32 bits, most significant first; the slot's first bit is bit 31 (R196). -/
def ofSlot (slot : BitVec 32) : Int := (slot.extractLsb' 8 24).toInt

/-- The slot that carries a sample: its 24 bits, most significant first, then eight bits 0 (R196). -/
def toSlot (x : Int) : BitVec 32 := BitVec.ofInt 24 x ++ 0#8

/-- The n low bytes of a number, least significant first (R191). -/
def bytesLE : Nat → Nat → List Byte
  | 0, _ => []
  | n + 1, v => BitVec.ofNat 8 v :: bytesLE n (v / 256)

/-- A signed number in n bytes, two's complement, least significant byte first (R191). -/
def bytesSignedLE (n : Nat) (v : Int) : List Byte := bytesLE n (v % (256 ^ n : Nat)).toNat

/-- The number that bytes spell, least significant first (R191). -/
def ofBytesLE : List Byte → Nat
  | [] => 0
  | b :: bs => b.toNat + 256 * ofBytesLE bs

/-- The signed number that n bytes spell (R191). -/
def ofBytesSignedLE (n : Nat) (bs : List Byte) : Int :=
  let v := ofBytesLE bs
  if 2 * v < 256 ^ n then v else (v : Int) - (256 ^ n : Nat)

/-- The unsigned number of n bytes at an offset. -/
def numAt (bs : List Byte) (offset n : Nat) : Nat := ofBytesLE ((bs.drop offset).take n)

/-- The signed number of n bytes at an offset. -/
def signedAt (bs : List Byte) (offset n : Nat) : Int := ofBytesSignedLE n ((bs.drop offset).take n)

/-- One byte at an offset, as a number. -/
def byteAt (bs : List Byte) (offset : Nat) : Nat := (bs.getD offset 0).toNat

/-- A flag as the part writes it (R191). -/
def flagByte (b : Bool) : Byte := if b then 1 else 0

/-- A number below 256 as a byte. -/
def byteOf (n : Nat) : Byte := BitVec.ofNat 8 n

/-- An increment that saturates at 65,535, for the counts of R37 and R130. -/
def countUp (n : Nat) : Nat := min 65535 (n + 1)

end Sys2Proof.Machine
end

