-- ==== Sys2Proof/Machine/Operands.lean ====
section
/-! DEFINITION. The operands of requests, records and bindings: the parameters of each stage kind with their ids, ranges and
places (R63, R192), and the codes of the fields (R191). -/

namespace Sys2Proof.Machine

/-- One parameter of a kind: its range (R63), its place in a stage entry (R192), and whether a change of it is spread over a
block (R5). -/
structure ParamSpec where
  lo : Int
  hi : Int
  offset : Nat
  width : Nat
  signed : Bool
  ramped : Bool
  deriving DecidableEq, Repr

/-- The parameters of each kind in id order (R63, R192, R5). -/
def paramSpecs : StageKind → List ParamSpec
  | .gain => [⟨0, 65535, 4, 2, false, true⟩, ⟨0, 1, 6, 1, false, false⟩]
  | .biquad => [⟨-8388608, 8388607, 4, 3, true, false⟩, ⟨-8388608, 8388607, 7, 3, true, false⟩,
      ⟨-8388608, 8388607, 10, 3, true, false⟩, ⟨-8388608, 8388607, 13, 3, true, false⟩, ⟨-8388608, 8388607, 16, 3, true, false⟩]
  | .shaper => [⟨0, 65535, 4, 2, false, true⟩, ⟨-4194304, 4194304, 6, 3, true, false⟩, ⟨0, 7, 9, 1, false, false⟩,
      ⟨0, 65535, 10, 2, false, true⟩]
  | .gate => [⟨0, 8388607, 4, 3, false, false⟩, ⟨0, 8388607, 7, 3, false, false⟩, ⟨1, 64, 10, 1, false, false⟩,
      ⟨0, 255, 11, 1, false, false⟩, ⟨1, 255, 12, 1, false, false⟩, ⟨0, 4096, 13, 2, false, false⟩]
  | .delay => [⟨0, 1, 4, 1, false, false⟩, ⟨1, 131071, 5, 3, false, false⟩, ⟨0, 7, 8, 1, false, false⟩,
      ⟨0, 4095, 9, 2, false, true⟩, ⟨0, 8388607, 11, 3, false, false⟩, ⟨0, 65535, 14, 2, false, true⟩,
      ⟨0, 65535, 16, 2, false, true⟩, ⟨0, 4800, 18, 2, false, false⟩, ⟨0, 1, 20, 1, false, false⟩]
  | .output => [⟨0, 65535, 4, 2, false, true⟩, ⟨0, 65535, 6, 2, false, true⟩]

/-- The render cost of a kind (R66). -/
def StageKind.cost : StageKind → Nat
  | .gain => 2
  | .biquad => 5
  | .shaper => 9
  | .gate => 3
  | .delay => 12
  | .output => 2

/-- The code of a kind (R191). -/
def StageKind.code : StageKind → Nat
  | .gain => 0
  | .biquad => 1
  | .shaper => 2
  | .gate => 3
  | .delay => 4
  | .output => 5

/-- The kind a code stands for, if any (R191). -/
def kindOf : Nat → Option StageKind
  | 0 => some .gain
  | 1 => some .biquad
  | 2 => some .shaper
  | 3 => some .gate
  | 4 => some .delay
  | 5 => some .output
  | _ => none

/-- An id is one of the kind's own, or an engage field's (R63). -/
def paramExists (kind : StageKind) (id : Nat) : Bool :=
  decide (id < (paramSpecs kind).length) || id == 16 || id == 17 || id == 18

/-- The stored value of a parameter or engage field (R63, R79). -/
def Stage.value (st : Stage) (id : Nat) : Int :=
  if id = 16 then st.engage.toNat
  else if id = 17 then (st.latch.val : Int)
  else if id = 18 then (if st.default then 1 else 0)
  else st.params.getD id 0

/-- The value of a parameter in force over the block (R3). -/
def Stage.inForce (st : Stage) (id : Nat) : Int := st.current.getD id 0

/-- The list of a GATE's parameters after a write, with close held at or below open (R14). -/
def gateRule (kind : StageKind) (id : Nat) (params : List Int) : List Int :=
  if kind = .gate ∧ (id = 0 ∨ id = 1) ∧ params.getD 0 0 < params.getD 1 0 then params.set 1 (params.getD 0 0) else params

/-- A write of a parameter by EDIT or a binding: clamped to its range, with the rule of R14 and, through the range, the
feedback limit of R40 (R78). -/
def Stage.write (st : Stage) (id : Nat) (v : Int) : Stage :=
  if id = 16 then { st with engage := BitVec.ofInt 8 (clampTo 0 255 v) }
  else if id = 17 then { st with latch := Fin.ofNat 8 (clampTo 0 7 v).toNat }
  else if id = 18 then { st with default := decide (1 ≤ v) }
  else match (paramSpecs st.kind)[id]? with
    | some spec => { st with params := gateRule st.kind id (st.params.set id (clampTo spec.lo spec.hi v)) }
    | none => st

/-- The numerator and denominator of a DELAY's division (R41). -/
def divisionRatio : Nat → Nat × Nat
  | 0 => (1, 1)
  | 1 => (3, 4)
  | 2 => (2, 3)
  | 3 => (1, 2)
  | 4 => (3, 8)
  | 5 => (1, 3)
  | 6 => (1, 4)
  | _ => (1, 6)

/-! ## Codes (R191, R195) -/

def Source.code : Source → Byte
  | .slot n => byteOf n.val
  | .upload => 128
  | .passthrough => 129

def sourceOf (b : Nat) : Option Source :=
  if h : b < 128 then some (.slot ⟨b, h⟩)
  else if b = 128 then some .upload
  else if b = 129 then some .passthrough
  else none

def Timing.code : Timing → Byte
  | .now => 0
  | .beat => 1

def timingOf : Nat → Option Timing
  | 0 => some .now
  | 1 => some .beat
  | _ => none

/-- A timing override: the outer `none` is a bad code, the inner one PRESET (R82, R191). -/
def timingOverrideOf : Nat → Option (Option Timing)
  | 0 => some (some .now)
  | 1 => some (some .beat)
  | 2 => some none
  | _ => none

/-- A fade override: the outer `none` is a bad value, the inner one NONE (R82, R191). -/
def fadeOverrideOf (v : Nat) : Option (Option (BitVec 8)) :=
  if v < 256 then some (some (BitVec.ofNat 8 v)) else if v = 0xFFFF then some none else none

def Origin.code : Origin → Byte
  | .link => 0
  | .cue => 1

def InputSel.code : InputSel → Byte
  | .a => 0
  | .b => 1
  | .sum => 2

def inputOf : Nat → Option InputSel
  | 0 => some .a
  | 1 => some .b
  | 2 => some .sum
  | _ => none

def LatchMode.code : LatchMode → Byte
  | .toggle => 0
  | .momentary => 1
  | .set => 2
  | .clear => 3
  | .threshold => 4

def latchModeOf : Nat → Option LatchMode
  | 0 => some .toggle
  | 1 => some .momentary
  | 2 => some .set
  | 3 => some .clear
  | 4 => some .threshold
  | _ => none

def Reason.code : Reason → Byte
  | .length => 1
  | .version => 2
  | .name => 3
  | .stageCount => 4
  | .kind => 5
  | .noOutput => 6
  | .range => 7
  | .tooManyDelays => 8
  | .binding => 9
  | .overBudget => 10
  | .noSlot => 11

def CueKind.code : CueKind → Nat
  | .switchDown => 0
  | .switchUp => 1
  | .switchHold => 2
  | .control => 3
  | .program => 4
  | .clock => 5
  | .tap => 6

def cueKindOf : Nat → Option CueKind
  | 0 => some .switchDown
  | 1 => some .switchUp
  | 2 => some .switchHold
  | 3 => some .control
  | 4 => some .program
  | 5 => some .clock
  | 6 => some .tap
  | _ => none

def maskSelOf (b : Nat) : Option MaskSel :=
  if h : b < 4 then some (.mask ⟨b, h⟩) else if b = 4 then some .exact else none

/-- An action with its argument; `none` for a bad code or argument (R137). -/
def actionOf (code arg : Nat) : Option Action :=
  match code with
  | 0 => some .none
  | 1 => if h : arg < 16 then some (.bind ⟨arg, h⟩) else none
  | 2 => if h : arg < 128 then some (.startRecall ⟨arg, h⟩) else none
  | 3 => some .tap
  | 4 => some .clock
  | 5 => some .tuner
  | _ => none

def TunerSource.code : TunerSource → Byte
  | .a => 0
  | .b => 1

def tunerSourceOf : Nat → Option TunerSource
  | 0 => some .a
  | 1 => some .b
  | _ => none

def TunerMode.code : TunerMode → Byte
  | .off => 0
  | .silent => 1
  | .mute => 2

def tunerModeOf : Nat → Option TunerMode
  | 0 => some .off
  | 1 => some .silent
  | 2 => some .mute
  | _ => none

/-- A toggle mode: SILENT or MUTE alone (R161). -/
def toggleOf : Nat → Option TunerMode
  | 1 => some .silent
  | 2 => some .mute
  | _ => none

def TempoSource.code : TempoSource → Byte
  | .default => 0
  | .preset => 1
  | .tap => 2
  | .clock => 3
  | .link => 4
  | .held => 5

def Measure.code : Measure → Byte
  | .off => 0
  | .seeking => 1
  | .tracking => 2

/-- The operation and target bytes of STORE_DONE and STATUS (R195). -/
def StoreOp.codes : StoreOp → Byte × Byte
  | .store n => (0, byteOf n.val)
  | .erase n => (1, byteOf n.val)
  | .tableSave n => (2, byteOf n.val)
  | .setupSave => (3, 0)

/-- A power-on preset byte (R191). -/
def presetByte : Option (Fin 128) → Byte
  | some n => byteOf n.val
  | none => 0xFF

end Sys2Proof.Machine
end

