-- ==== Sys2Proof/Machine/Records.lean ====
section
/-! DEFINITION. Preset records: their layout (R192), their validation (R67..R70), reading one into its fields and writing one from
its fields. -/

namespace Sys2Proof.Machine

/-! ## Places (R192) -/

/-- Presence flags of a record: input select, tempo, latch field. -/
def hasInput (bs : List Byte) : Bool := byteAt bs 4 % 2 == 1
def hasTempo (bs : List Byte) : Bool := byteAt bs 4 / 2 % 2 == 1
def hasLatches (bs : List Byte) : Bool := byteAt bs 4 / 4 % 2 == 1

def inputAt (bs : List Byte) : Nat := 7 + byteAt bs 1
def tempoAt (bs : List Byte) : Nat := inputAt bs + if hasInput bs then 1 else 0
def latchesAt (bs : List Byte) : Nat := tempoAt bs + if hasTempo bs then 3 else 0
def stagesAt (bs : List Byte) : Nat := latchesAt bs + if hasLatches bs then 2 else 0

/-- The offset of stage entry i. -/
def stageAt (bs : List Byte) (i : Nat) : Nat := stagesAt bs + 24 * i

/-- The offset of binding entry j. -/
def bindingAt (bs : List Byte) (j : Nat) : Nat := stageAt bs (byteAt bs 5) + 20 * j

/-- The length that the header implies (R192). -/
def impliedLength (bs : List Byte) : Nat := bindingAt bs (byteAt bs 6)

/-- The kind of stage entry i, if its code is one. -/
def kindAt (bs : List Byte) (i : Nat) : Option StageKind := kindOf (byteAt bs (stageAt bs i))

/-- A parameter of the entry that starts at `base` (R192). -/
def entryParam (bs : List Byte) (base : Nat) (spec : ParamSpec) : Int :=
  if spec.signed then signedAt bs (base + spec.offset) spec.width else numAt bs (base + spec.offset) spec.width

/-! ## Validation (R67..R70): each check answers the reason and offset of its fault, or none -/

def inRange (spec : ParamSpec) (v : Int) : Bool := decide (spec.lo ≤ v) && decide (v ≤ spec.hi)

def checkLength (bs : List Byte) : Option (Reason × Nat) :=
  if 1024 < bs.length then some (.length, 1024)
  else if bs.length < 7 then some (.length, bs.length)
  else if bs.length < impliedLength bs then some (.length, bs.length)
  else if impliedLength bs < bs.length then some (.length, impliedLength bs)
  else none

def checkVersion (bs : List Byte) : Option (Reason × Nat) :=
  if byteAt bs 0 = 1 then none else some (.version, 0)

def checkName (bs : List Byte) : Option (Reason × Nat) :=
  if 16 < byteAt bs 1 then some (.name, 1)
  else (List.range (byteAt bs 1)).findSome? fun i =>
    if 0x20 ≤ byteAt bs (7 + i) ∧ byteAt bs (7 + i) ≤ 0x7E then none else some (.name, 7 + i)

def checkStageCount (bs : List Byte) : Option (Reason × Nat) :=
  if byteAt bs 5 = 0 ∨ 12 < byteAt bs 5 then some (.stageCount, 5) else none

def checkKind (bs : List Byte) : Option (Reason × Nat) :=
  (List.range (byteAt bs 5)).findSome? fun i =>
    if (kindAt bs i).isSome then none else some (.kind, stageAt bs i)

def checkNoOutput (bs : List Byte) : Option (Reason × Nat) :=
  ((List.range (byteAt bs 5 - 1)).findSome? fun i =>
    if kindAt bs i = some .output then some (.noOutput, stageAt bs i) else none).or
  (if kindAt bs (byteAt bs 5 - 1) = some .output then none else some (.noOutput, stageAt bs (byteAt bs 5 - 1)))

/-- The faults of one stage entry's fields, in the order of R68. -/
def stageRangeFault (bs : List Byte) (base : Nat) (kind : StageKind) : Option (Reason × Nat) :=
  if 7 < byteAt bs (base + 2) then some (.range, base + 2)
  else if 1 < byteAt bs (base + 3) then some (.range, base + 3)
  else (List.range (paramSpecs kind).length).findSome? fun id =>
    match (paramSpecs kind)[id]? with
    | none => none
    | some spec =>
      if !inRange spec (entryParam bs base spec) then some (.range, base + spec.offset)
      else if kind = .gate ∧ id = 1 ∧ numAt bs (base + 4) 3 < numAt bs (base + 7) 3 then some (.range, base + 7)
      else none

def partsRangeFault (bs : List Byte) : Option (Reason × Nat) :=
  if hasInput bs ∧ 2 < byteAt bs (inputAt bs) then some (.range, inputAt bs)
  else if hasTempo bs ∧ (numAt bs (tempoAt bs) 3 < Config.beatMin ∨ Config.beatMax < numAt bs (tempoAt bs) 3) then
    some (.range, tempoAt bs)
  else none

def checkRange (bs : List Byte) : Option (Reason × Nat) :=
  if 1 < byteAt bs 3 then some (.range, 3)
  else (partsRangeFault bs).or
    ((List.range (byteAt bs 5)).findSome? fun i =>
      match kindAt bs i with
      | some kind => stageRangeFault bs (stageAt bs i) kind
      | none => none)

/-- The positions of the DELAY entries, in list order. -/
def delayPositions (bs : List Byte) : List Nat :=
  (List.range (byteAt bs 5)).filter fun i => kindAt bs i == some .delay

def checkDelays (bs : List Byte) : Option (Reason × Nat) :=
  match (delayPositions bs)[2]? with
  | some i => some (.tooManyDelays, stageAt bs i)
  | none => none

/-- The fault of the binding entry at `base`, in the order of R69. -/
def bindingFault (bs : List Byte) (base : Nat) : Option (Reason × Nat) :=
  if 15 < byteAt bs base then some (.binding, base)
  else if byteAt bs (base + 1) = 0 then
    if 7 < byteAt bs (base + 2) then some (.binding, base + 2)
    else if 4 < byteAt bs (base + 3) then some (.binding, base + 3)
    else none
  else if byteAt bs (base + 1) = 1 then
    if byteAt bs 5 ≤ byteAt bs (base + 2) then some (.binding, base + 2)
    else match (kindAt bs (byteAt bs (base + 2))).bind fun kind => (paramSpecs kind)[byteAt bs (base + 3)]? with
      | none => some (.binding, base + 3)
      | some spec =>
        if !inRange spec (signedAt bs (base + 4) 4) then some (.binding, base + 4)
        else if !inRange spec (signedAt bs (base + 8) 4) then some (.binding, base + 8)
        else none
  else some (.binding, base + 1)

def checkBinding (bs : List Byte) : Option (Reason × Nat) :=
  if 16 < byteAt bs 6 then some (.binding, 6)
  else (List.range (byteAt bs 6)).findSome? fun j => bindingFault bs (bindingAt bs j)

/-- The sum of the costs of the first n stages (R66). -/
def costUpTo (bs : List Byte) : Nat → Nat
  | 0 => 0
  | n + 1 => costUpTo bs n + ((kindAt bs n).map StageKind.cost).getD 0

def checkBudget (bs : List Byte) : Option (Reason × Nat) :=
  (List.range (byteAt bs 5)).findSome? fun i =>
    if Config.recordBudget < costUpTo bs (i + 1) then some (.overBudget, stageAt bs i) else none

/-- The ten checks in order (R67). -/
def checks : List (List Byte → Option (Reason × Nat)) :=
  [checkLength, checkVersion, checkName, checkStageCount, checkKind, checkNoOutput, checkRange, checkDelays, checkBinding,
    checkBudget]

/-- Validation of a record, its length being that of the bytes given (R67). -/
def validate (bs : List Byte) : Verdict :=
  match checks.findSome? fun check => check bs with
  | some (reason, offset) => .bad reason offset
  | none => .ok (costUpTo bs (byteAt bs 5)) (delayPositions bs).length

def Verdict.isOk : Verdict → Bool
  | .ok _ _ => true
  | .bad _ _ => false

/-! ## Reading (R60..R64, R192) -/

def readParts (bs : List Byte) : Parts where
  input := if hasInput bs then inputOf (byteAt bs (inputAt bs)) else none
  tempo := if hasTempo bs then some (numAt bs (tempoAt bs) 3) else none
  latches := if hasLatches bs then
      some { mask := bs.getD (latchesAt bs) 0, values := bs.getD (latchesAt bs + 1) 0 }
    else none

def readStage (bs : List Byte) (base : Nat) : StageEntry :=
  let kind := (kindOf (byteAt bs base)).getD .output
  { kind := kind
    engage := bs.getD (base + 1) 0
    latch := Fin.ofNat 8 (byteAt bs (base + 2))
    default := byteAt bs (base + 3) == 1
    params := (paramSpecs kind).map (entryParam bs base) }

def readBinding (bs : List Byte) (base : Nat) : Binding where
  number := byteAt bs base
  target :=
    if byteAt bs (base + 1) = 0 then
      .latch (Fin.ofNat 8 (byteAt bs (base + 2))) ((latchModeOf (byteAt bs (base + 3))).getD .toggle)
    else .param (byteAt bs (base + 2)) (byteAt bs (base + 3)) (signedAt bs (base + 4) 4) (signedAt bs (base + 8) 4)

/-- The name of a record. -/
def readName (bs : List Byte) : List Byte := (bs.drop 7).take (byteAt bs 1)

/-- The fields of a record that passed validation. -/
def readRecord (bs : List Byte) : Record where
  name := readName bs
  fade := bs.getD 2 0
  timing := (timingOf (byteAt bs 3)).getD .now
  parts := readParts bs
  stages := (List.range (byteAt bs 5)).map fun i => readStage bs (stageAt bs i)
  bindings := (List.range (byteAt bs 6)).map fun j => readBinding bs (bindingAt bs j)

/-! ## Writing (R62, R109, R192): unused bytes are 0 -/

/-- Bytes padded with zeros, or cut, to n. -/
def padTo (n : Nat) (bs : List Byte) : List Byte := (bs ++ List.replicate n 0).take n

/-- The bytes of a stage's parameters, in id order, from entry offset 4. -/
def writeParams : List ParamSpec → List Int → List Byte
  | [], _ => []
  | spec :: specs, vs => bytesSignedLE spec.width (vs.headD 0) ++ writeParams specs vs.tail

def writeStage (e : StageEntry) : List Byte :=
  padTo 24 ([byteOf e.kind.code, e.engage, byteOf e.latch.val, flagByte e.default] ++ writeParams (paramSpecs e.kind) e.params)

def writeBinding (b : Binding) : List Byte :=
  padTo 20 (match b.target with
    | .latch l mode => [byteOf b.number, 0, byteOf l.val, mode.code]
    | .param stage id low high =>
      [byteOf b.number, 1, byteOf stage, byteOf id] ++ bytesSignedLE 4 low ++ bytesSignedLE 4 high)

def presenceFlags (p : Parts) : Byte :=
  byteOf ((if p.input.isSome then 1 else 0) + (if p.tempo.isSome then 2 else 0) + (if p.latches.isSome then 4 else 0))

def writeParts (p : Parts) : List Byte :=
  (p.input.map fun i => [i.code]).getD [] ++ (p.tempo.map fun t => bytesLE 3 t).getD [] ++
    (p.latches.map fun l => [l.mask, l.values &&& l.mask]).getD []

/-- A preset record of format version 1 (R109, R192). -/
def writeRecord (r : Record) : List Byte :=
  [1, byteOf r.name.length, r.fade, r.timing.code, presenceFlags r.parts, byteOf r.stages.length, byteOf r.bindings.length] ++
    r.name ++ writeParts r.parts ++ r.stages.flatMap writeStage ++ r.bindings.flatMap writeBinding

/-- The stored fields of a stage as a record entry (R109). -/
def Stage.entry (st : Stage) : StageEntry where
  kind := st.kind
  engage := st.engage
  latch := st.latch
  default := st.default
  params := st.params

/-- The record that STORE PLAY makes of a context (R109): F and timing as they are in force, parts by their inherits flags,
stored values. -/
def Context.record (c : Context) : Record where
  name := c.name
  fade := c.fade
  timing := c.timing
  parts := c.parts
  stages := c.stages.map Stage.entry
  bindings := c.bindings

end Sys2Proof.Machine
end

