-- ==== Sys2Proof/Machine/Flags.lean ====
section
/-! DEFINITION. The flags and conditions of the part: the engage condition (R31), the thirteen clip flags (R22, R23), the status
byte of a read transaction (R181), ATTN (R185) and the output pins (R196, R197). -/

namespace Sys2Proof.Machine

/-! ## Engage condition -/

/-- The tuner-mute condition T (R159). -/
def Tuner.muting (t : Tuner) : Bool := t.mode == .mute

/-- The index of a stage's engage table that D, L and T select (R31). -/
def engageIndex (d l t : Bool) : Nat := (if d then 4 else 0) + (if l then 2 else 0) + (if t then 1 else 0)

/-- A stage is engaged exactly when bit 4D + 2L + T of its engage table is 1 (R31). -/
def Stage.engaged (st : Stage) (latches : Vector Latch 8) (t : Bool) : Bool :=
  st.engage.getLsbD (engageIndex st.default latches[st.latch].value t)

/-! ## Clip flags -/

/-- A mask of stage positions 0..11 from the positions at which a saturation acted. -/
def clipMask : List Bool → BitVec 12
  | [] => 0
  | c :: cs => (clipMask cs <<< 1) ||| (if c then 1 else 0)

/-- Sets stage and main clip flags, and notes whether one of them went from clear to set (R22, R23). -/
def Chain.raise (c : Chain) (stages : BitVec 12) (main : Bool) : Chain :=
  { c with
    stageClip := c.stageClip ||| stages
    mainClip := c.mainClip || main
    clipRose := c.clipRose || (c.stageClip ||| stages) != c.stageClip || (main && !c.mainClip) }

/-- One or more of the thirteen flags is set. -/
def Chain.anyClip (c : Chain) : Bool := c.stageClip != 0 || c.mainClip

/-- The payload of a LEVELS report: stage positions 0..11 in bits 0..11, the main flag in bit 12 (R195). -/
def Chain.levelsPayload (c : Chain) : List Byte :=
  bytesLE 2 (c.stageClip.toNat + if c.mainClip then 4096 else 0)

/-! ## Status byte, ATTN and the output pins -/

/-- A coalesced slot holds a report (R184). -/
def Link.pendingSlot (l : Link) : Bool := l.tuner.isSome || l.levels.isSome || l.cues.isSome

/-- The status byte (R181). -/
def Link.statusByte (l : Link) : Byte :=
  byteOf (l.queue.length + (if l.pendingSlot then 32 else 0) + (if l.dropped then 64 else 0) + (if l.lost then 128 else 0))

/-- The part is held in reset by RESETn (R197). -/
def State.inReset (s : State) : Bool := s.startUp.phase == .held

/-- The start-up sequence has reached the point at which requests are accepted (R198 step 9). -/
def State.ready (s : State) : Bool := s.startUp.phase == .running

/-- ATTN (R185, R197). -/
def State.attn (s : State) : Bool := !s.inReset && (!s.link.queue.isEmpty || s.link.pendingSlot)

/-- Byte i of the last link transaction on MISO, the first byte being number 0; none while RESETn is low, when MISO is at high
impedance (R176, R180, R197). -/
def State.miso (s : State) (i : Nat) : Option Byte := if s.inReset then none else some (s.pins.sent.getD i 0)

/-- The four slots of the frame on DAOUT: slots 0 and 1 are driven 0, slot 2 carries OUT-L and slot 3 OUT-R (R196). -/
def State.daout (s : State) : Vector (BitVec 32) 4 := #v[0, 0, toSlot s.pins.outL, toSlot s.pins.outR]

/-- The level of DAOUT at a bit clock 0..31 of a slot, the most significant bit first (R196). -/
def State.daoutBit (s : State) (slot : Fin 4) (clock : Fin 32) : Bool := s.daout[slot].getMsbD clock

/-- The clocks of the audio port and of the delay memory port run; else they are stopped and driven low (R196, R197). -/
def State.portClocksRun (s : State) : Bool := !s.inReset

end Sys2Proof.Machine
end

