-- ==== Sys2Proof/Machine/Ops.lean ====
section
/-! DEFINITION. The operations that commands share: writing one block of State, posting a report (R183), answering a request
(R178, R179), and running only while RESETn is high (R197). -/

namespace Sys2Proof.Machine

/-! ## Writing one block of State -/

def State.withCounter (s : State) (v : Stamp) : State := { s with sampleCounter := v }
def State.withStartUp (s : State) (v : StartUp) : State := { s with startUp := v }
def State.withPins (s : State) (v : Pins) : State := { s with pins := v }
def State.withChain (s : State) (v : Chain) : State := { s with chain := v }
def State.withLatches (s : State) (v : Vector Latch 8) : State := { s with latches := v }
def State.withDelay (s : State) (v : DelayMemory) : State := { s with delay := v }
def State.withScenes (s : State) (v : SceneManager) : State := { s with scenes := v }
def State.withStore (s : State) (v : Store) : State := { s with store := v }
def State.withUpload (s : State) (v : List Byte) : State := { s with upload := v }
def State.withCues (s : State) (v : CueUnit) : State := { s with cues := v }
def State.withTempo (s : State) (v : Tempo) : State := { s with tempo := v }
def State.withTuner (s : State) (v : Tuner) : State := { s with tuner := v }
def State.withLink (s : State) (v : Link) : State := { s with link := v }

/-- A command acts only while RESETn is high: while it is low the clocks are stopped and nothing changes (R197; log entry 16). -/
def whilePowered (s : State) (act : State → State) : Outcome :=
  .next (if s.inReset then s else act s)

/-! ## Reports (R183, R194) -/

/-- The report kinds (R194). -/
inductive ReportKind where
  | scene | storeDone | tuner | levels | cues | pedal | tempo | delay | started
  deriving DecidableEq, Repr

/-- The kind's bit in the enable mask (R186). -/
def ReportKind.bit : ReportKind → Nat
  | .scene => 0
  | .storeDone => 1
  | .tuner => 2
  | .levels => 3
  | .cues => 4
  | .pedal => 5
  | .tempo => 6
  | .delay => 7
  | .started => 8

/-- The kind's code (R194): SCENE 0x41 and on, in the order of the mask's bits. -/
def ReportKind.code (k : ReportKind) : Byte := byteOf (0x41 + k.bit)

/-- The slot of a coalesced kind (R184). -/
def ReportKind.slot : ReportKind → Option Slot
  | .tuner => some .tuner
  | .levels => some .levels
  | .cues => some .cues
  | _ => none

/-- A report kind is enabled by REPORTS (R186). -/
def Link.enabled (l : Link) (k : ReportKind) : Bool := l.mask.getLsbD k.bit

/-- A read transaction in progress learns that its slot has a newer report (R180). -/
def ReadHead.replace (slot : Slot) : ReadHead → ReadHead
  | .slot s r replaced => .slot s r (replaced || s == slot)
  | other => other

/-- Places a report in its slot; an unread one there is gone (R184). -/
def Link.place (l : Link) (slot : Slot) (r : OutRecord) : Link :=
  match slot with
  | .tuner => { l with tuner := some r, reading := l.reading.map (ReadHead.replace .tuner) }
  | .levels => { l with levels := some r, reading := l.reading.map (ReadHead.replace .levels) }
  | .cues => { l with cues := some r, reading := l.reading.map (ReadHead.replace .cues) }

/-- Posting a report (R183): nothing when its kind is disabled, its slot when coalesced, the queue while it holds 21 records or
fewer, else discarded with the reports-lost flag set. -/
def Link.post (l : Link) (k : ReportKind) (sub : Byte) (payload : List Byte) : Link :=
  if !l.enabled k then l
  else match k.slot with
    | some slot => l.place slot { kind := k.code, tag := 0, status := sub, payload := payload }
    | none =>
      if l.queue.length < Config.reportRoom then
        { l with queue := l.queue ++ [{ kind := k.code, tag := 0, status := sub, payload := payload }] }
      else { l with lost := true }

/-- A block posts a report. -/
def State.post (s : State) (k : ReportKind) (sub : Byte) (payload : List Byte) : State :=
  s.withLink (s.link.post k sub payload)

/-! ## Requests (R177..R179, R189) -/

/-- The status codes (R189). -/
inductive Status where
  | ok | accepted | badLength | badKind | badField | notReady | noSlot | noStage | busy | inUse | invalid | locked | tooLate
  deriving DecidableEq, Repr

def Status.code : Status → Byte
  | .ok => 0
  | .accepted => 1
  | .badLength => 2
  | .badKind => 3
  | .badField => 4
  | .notReady => 5
  | .noSlot => 6
  | .noStage => 7
  | .busy => 8
  | .inUse => 9
  | .invalid => 10
  | .locked => 11
  | .tooLate => 12

/-- What a request's block answers: the state its effects leave, the status and the reply's payload (R178, R179). -/
structure Answer where
  state : State
  status : Status
  payload : List Byte

/-- A refusal with an empty payload: it changes nothing (R179). -/
def State.refuse (s : State) (status : Status) : Answer := { state := s, status := status, payload := [] }

/-- An answer of OK. -/
def State.okay (s : State) (payload : List Byte) : Answer := { state := s, status := .ok, payload := payload }

/-- The reply record of a request: its kind with bit 7 set, its tag, the status (R179, R194). -/
def replyRecord (kind : Byte) (tag : Byte) (status : Status) (payload : List Byte) : OutRecord where
  kind := kind ||| 0x80
  tag := tag
  status := status.code
  payload := payload

/-- The reply joins the young end of the outbound queue (R179). -/
def Answer.post (a : Answer) (kind tag : Byte) : State :=
  a.state.withLink { a.state.link with queue := a.state.link.queue ++ [replyRecord kind tag a.status a.payload] }

/-- A new link transaction finds the one before it released, and MISO sends 0x00 in its first byte (R176; log entry 17). -/
def State.endRead (s : State) : State := (s.withPins { s.pins with sent := [] }).withLink { s.link with reading := none }

/-- A frame whose header is incomplete is not a request; the requests-dropped flag is set (R177). -/
def State.dropFrame (s : State) : State := s.endRead.withLink { s.endRead.link with dropped := true }

/-- Check 1 of R178: the length field is 0..250 and equals the number of payload bytes received. -/
def frameLengthOk (f : Frame) : Bool :=
  decide (f.length.toNat ≤ Config.maxPayload) && f.length.toNat == f.payload.length

/-- A write transaction ends (R177, R178): no request arrives from a frame whose header is incomplete; a request is dropped when
the queue holds 24 records, else executed and answered once. `early` marks IDENT and STATUS; `known` is check 2; `fits` is the
catalogue's payload length (check 4); `body` is the owning block's part (check 5). MISO sends 0x00 throughout (R176). -/
def State.request (s : State) (kind : Byte) (f : Frame) (known early : Bool) (fits : Nat → Bool)
    (body : State → List Byte → Answer) : State :=
  let s := s.endRead
  if !f.complete || decide (Config.queueLength ≤ s.link.queue.length) then s.withLink { s.link with dropped := true }
  else
    (if !frameLengthOk f then s.refuse .badLength
     else if !known then s.refuse .badKind
     else if !s.ready && !early then s.refuse .notReady
     else if !fits f.payload.length then s.refuse .badLength
     else body s f.payload).post kind f.tag

end Sys2Proof.Machine
end

