-- ==== Sys2Proof/Machine/DelayLines.lean ====
section
/-! DEFINITION. The delay memory controller (spec/03): the delay memory's contents, the line table, reads and writes of a line, and
the arbitrated memory port. -/

namespace Sys2Proof.Machine

/-! ## The delay memory: bytes at addresses, in one canonical form -/

/-- One byte of the delay memory. An address that is not listed reads as 0: R58 clears the memory before any line is allocated
(log entry 6). -/
def Memory.read : List Host.Cell → Nat → Byte
  | [], _ => 0
  | (k, b) :: rest, a => if k = a then b else Memory.read rest a

/-- Writes one byte, keeping addresses strictly rising and no byte 0 listed. -/
def Memory.write : List Host.Cell → Nat → Byte → List Host.Cell
  | [], a, v => if v = 0 then [] else [(a, v)]
  | (k, b) :: rest, a, v =>
    if k < a then (k, b) :: Memory.write rest a v
    else if k = a then (if v = 0 then rest else (a, v) :: rest)
    else (if v = 0 then (k, b) :: rest else (a, v) :: (k, b) :: rest)

/-- The canonical form: addresses strictly rising, no listed byte equal to what an unlisted address reads as. -/
def Memory.wf : List Host.Cell → Bool
  | [] => true
  | [(_, b)] => b != 0
  | (k, b) :: (k', b') :: rest => b != 0 && decide (k < k') && Memory.wf ((k', b') :: rest)

/-- The address of the first byte of a line's position (spec/03, 3.1). -/
def sampleAddress (line : Fin 4) (pos : Nat) : Nat := Config.lineBytes * line.val + 3 * pos

/-- The sample at a position of a line. DESIGN CHOICE (log entry 7): least significant byte at the lowest address. -/
def Memory.sample (m : List Host.Cell) (line : Fin 4) (pos : Nat) : Int :=
  let a := sampleAddress line pos
  ofBytesSignedLE 3 [Memory.read m a, Memory.read m (a + 1), Memory.read m (a + 2)]

/-- Writes bytes at consecutive addresses. -/
def Memory.writeBytes (m : List Host.Cell) (a : Nat) : List Byte → List Host.Cell
  | [] => m
  | b :: bs => Memory.writeBytes (Memory.write m a b) (a + 1) bs

/-- Writes a sample at a position of a line. -/
def Memory.writeSample (m : List Host.Cell) (line : Fin 4) (pos : Nat) (v : Int) : List Host.Cell :=
  Memory.writeBytes m (sampleAddress line pos) (bytesSignedLE 3 v)

/-! ## The line table -/

def DelayMemory.setLine (d : DelayMemory) (line : Fin 4) (v : Line) : DelayMemory :=
  { d with lines := d.lines.set line v }

/-- The position that lies `age` samples behind a write position (R43). -/
def positionAt (wp : Nat) (age : Int) : Nat := (((wp : Int) - age) % 131072).toNat

/-- Changes a line's holder alone (R38). -/
def DelayMemory.hold (d : DelayMemory) (line : Fin 4) (h : Holder) : DelayMemory :=
  d.setLine line { d.lines[line] with holder := h }

/-- A burst in flight of a line whose allocation ends: a read's samples enter no FIFO, a write's still reach the memory (R39). -/
def Burst.orphan (line : Fin 4) : Burst → Burst
  | .read l wanted => if l = line then .read l [] else .read l wanted
  | .write l entries stale => .write l entries (stale || l == line)

/-- Release of a line (R39). -/
def DelayMemory.release (d : DelayMemory) (line : Fin 4) : DelayMemory :=
  let d := d.setLine line
    { d.lines[line] with holder := .free, readFifo := [], writeFifo := [], window := [] }
  { d with burst := d.burst.map (Burst.orphan line) }

/-- The lowest-numbered FREE line (R38). -/
def DelayMemory.lowestFree (d : DelayMemory) : Option (Fin 4) :=
  (List.finRange 4).find? fun l => d.lines[l].holder == .free

/-- Allocation of the lowest-numbered FREE line for stage n of the incoming context; nothing changes when none is FREE (R38). -/
def DelayMemory.allocate (d : DelayMemory) (stage : Nat) : Option (Fin 4) × DelayMemory :=
  match d.lowestFree with
  | some l =>
    (some l, d.setLine l { d.lines[l] with
      holder := .incoming stage, wp := 0, span := 0, readFifo := [], writeFifo := [], window := [] })
  | none => (none, d)

def DelayMemory.countHolders (d : DelayMemory) (p : Holder → Bool) : Nat :=
  ((List.finRange 4).filter fun l => p d.lines[l].holder).length

/-- The number of FREE lines, and of lines in CUTTING (R89). -/
def DelayMemory.freeLines (d : DelayMemory) : Nat := d.countHolders (· == .free)
def DelayMemory.cuttingLines (d : DelayMemory) : Nat := d.countHolders (· == .cutting)

/-- Incoming lines become playing lines at the end of a switch (R99). -/
def DelayMemory.promote (d : DelayMemory) : DelayMemory :=
  { d with lines := Vector.ofFn fun (l : Fin 4) =>
      match d.lines[l].holder with
      | .incoming n => { d.lines[l] with holder := .playing n }
      | _ => d.lines[l] }

/-- Both counts of every line set to 0 (R57). -/
def DelayMemory.clearCounts (d : DelayMemory) : DelayMemory :=
  { d with lines := Vector.ofFn fun (l : Fin 4) => { d.lines[l] with underruns := 0, overruns := 0 } }

/-! ## Reading and writing a line, once per sample -/

/-- A read passes a position: an in-flight burst no longer owes it (R55). -/
def Burst.pass (line : Fin 4) (pos : Nat) : Burst → Burst
  | .read l wanted => if l = line then .read l (wanted.filter (· != pos)) else .read l wanted
  | other => other

/-- The value a read of a line at an age delivers, and whether it underran (R43, R50, R51, R56). -/
def Line.deliver (ln : Line) (age : Int) (prev : Int) : Int × Bool :=
  if age ≤ 0 ∨ (ln.span : Int) < age then (0, false)
  else if age ≤ Config.windowLength then (ln.window.getD (age.toNat - 1) 0, false)
  else match ln.readFifo with
    | (p, v) :: _ => if p = positionAt ln.wp age then (v, false) else (prev, true)
    | [] => (prev, true)

/-- A read of a line at an age, with the value r took before (R43): the value, the underrun counted, and the position passed in
the FIFO and in a burst in flight. -/
def DelayMemory.readLine (d : DelayMemory) (line : Fin 4) (age : Int) (prev : Int) : Int × DelayMemory :=
  let ln := d.lines[line]
  let pos := positionAt ln.wp age
  let got := ln.deliver age prev
  let d := d.setLine line { ln with
    underruns := if got.2 then countUp ln.underruns else ln.underruns
    readFifo := ln.readFifo.filter fun e => e.1 != pos }
  (got.1, { d with burst := d.burst.map (Burst.pass line pos) })

/-- A line input is written (R44, R50, R52): into the window, and into the write FIFO or lost with the overrun counted; wp and
the span advance. -/
def Line.input (ln : Line) (v : Int) : Line :=
  { ln with
    wp := (ln.wp + 1) % Config.lineLength
    span := min Config.lineLength (ln.span + 1)
    window := (v :: ln.window).take Config.windowLength
    writeFifo := if ln.writeFifo.length < Config.fifoLength then ln.writeFifo ++ [(ln.wp, v)] else ln.writeFifo
    overruns := if ln.writeFifo.length < Config.fifoLength then ln.overruns else countUp ln.overruns }

def DelayMemory.writeLine (d : DelayMemory) (line : Fin 4) (v : Int) : DelayMemory :=
  d.setLine line (d.lines[line].input v)

/-- An offset change empties the read FIFO, and a read burst in flight for it is discarded (R51). -/
def DelayMemory.refetch (d : DelayMemory) (line : Fin 4) : DelayMemory :=
  let d := d.setLine line { d.lines[line] with readFifo := [] }
  { d with burst := d.burst.map fun b => match b with
      | .read l wanted => if l = line then .read l [] else .read l wanted
      | other => other }

/-! ## The memory port (R51..R55) -/

/-- What the arbiter sees of a line's reader: the age of its next read while it is rendered, whether that read comes after one more
line input (between this sample's read and its write, R43, R44), and whether a cutting trail's fade lets the rest of the write FIFO
go (R49, R51). -/
structure Reader where
  age : Option Int
  ahead : Bool
  remainder : Bool
  deriving DecidableEq, Repr

/-- The reader of a line that nothing reads. -/
def Reader.idle : Reader := { age := none, ahead := false, remainder := false }

/-- A position lies in the recent window (R51). -/
def Line.inWindow (ln : Line) (pos : Nat) : Bool :=
  let age := (ln.wp + Config.lineLength - pos) % Config.lineLength
  decide (1 ≤ age) && decide (age ≤ ln.window.length)

/-- The next position the reader will read, at an age (R43, R51). -/
def Line.nextPosition (ln : Line) (reader : Reader) (age : Int) : Nat :=
  positionAt (if reader.ahead then ln.wp + 1 else ln.wp) age

/-- The positions a read burst would fetch now (R51): up to 16, from the one after the last held, none in the window. -/
def Line.fetchable (ln : Line) (reader : Reader) : List Nat :=
  match reader.age with
  | none => []
  | some age =>
    if age ≤ Config.windowLength then []
    else
      let start := match ln.readFifo.getLast? with
        | some e => e.1 + 1
        | none => ln.nextPosition reader age
      ((List.range Config.burstLength).map fun i => (start + i) % Config.lineLength).takeWhile fun p => !ln.inWindow p

/-- A read FIFO's request: none, or its urgency (R53). -/
def Line.readRequest (ln : Line) (reader : Reader) : Option Bool :=
  if ln.readFifo.length ≤ 16 ∧ ln.fetchable reader ≠ [] then some (decide (ln.readFifo.length ≤ 8)) else none

/-- A write FIFO's request: none, or its urgency (R53). -/
def Line.writeRequest (ln : Line) (reader : Reader) : Option Bool :=
  if 16 ≤ ln.writeFifo.length ∨ (reader.remainder ∧ ln.writeFifo ≠ []) then some (decide (24 ≤ ln.writeFifo.length)) else none

/-- The line of a ring position, and whether it is its write FIFO: R0, W0, R1, .. W3 (R54). -/
def ringLine (i : Fin 8) : Fin 4 := Fin.ofNat 4 (i.val / 2)
def ringIsWrite (i : Fin 8) : Bool := i.val % 2 == 1

/-- The request standing at a ring position. -/
def DelayMemory.ringRequest (d : DelayMemory) (readers : Vector Reader 4) (i : Fin 8) : Option Bool :=
  let l := ringLine i
  if ringIsWrite i then d.lines[l].writeRequest readers[l] else d.lines[l].readRequest readers[l]

/-- The ring from the one after the last served (R54). -/
def DelayMemory.ring (d : DelayMemory) : List (Fin 8) :=
  (List.range 8).map fun i => Fin.ofNat 8 (d.lastServed.val + 1 + i)

/-- The FIFO that the arbiter serves next: the first urgent request in the ring, else the first request (R54). -/
def DelayMemory.nextServed (d : DelayMemory) (readers : Vector Reader 4) : Option (Fin 8) :=
  (d.ring.find? fun i => d.ringRequest readers i == some true).or
    (d.ring.find? fun i => (d.ringRequest readers i).isSome)

/-- The burst that a grant to a ring position issues (R51, R52). -/
def DelayMemory.issue (d : DelayMemory) (readers : Vector Reader 4) (i : Fin 8) : Burst :=
  let l := ringLine i
  if ringIsWrite i then .write l (d.lines[l].writeFifo.take Config.burstLength) false
  else .read l (d.lines[l].fetchable readers[l])

/-- The arbiter grants an idle port at once when a request stands (R54). -/
def DelayMemory.arbitrate (d : DelayMemory) (readers : Vector Reader 4) : DelayMemory :=
  match d.burst, d.nextServed readers with
  | none, some i => { d with burst := some (d.issue readers i), lastServed := i }
  | _, _ => d

/-! ## The port while a sample is rendered (R54): the arbiter looks after every read and every write of a line -/

/-- The delay memory controller while a sample is rendered, with the lines' readers as the sample's reads and writes leave them. -/
structure Port where
  delay : DelayMemory
  readers : Vector Reader 4

/-- The arbiter looks at the requests that stand (R54). -/
def Port.look (p : Port) : Port := { p with delay := p.delay.arbitrate p.readers }

/-- A line is read at an age, with the value r took before (R43), and its reader goes on to `next`. -/
def Port.read (p : Port) (line : Fin 4) (age : Int) (prev : Int) (next : Reader) : Int × Port :=
  let got := p.delay.readLine line age prev
  (got.1, Port.look { delay := got.2, readers := p.readers.set line next })

/-- A line input is written (R44), and the line's reader is at its next sample. -/
def Port.write (p : Port) (line : Fin 4) (v : Int) (next : Reader) : Port :=
  Port.look { delay := p.delay.writeLine line v, readers := p.readers.set line next }

/-- A reader that reads and writes at every sample, at a constant age: before its read, and between its read and its write. -/
def readerAt (age : Int) : Reader := { age := some age, ahead := false, remainder := false }

def readerBetween (age : Int) : Reader := { age := some age, ahead := true, remainder := false }

/-- The reader of a cutting trail that will read at sample j of its fade (R49). -/
def readerCutting (offset : Nat) (j : Nat) : Reader :=
  if j < Config.fadeSamples then { age := some ((offset : Int) - j), ahead := false, remainder := true } else Reader.idle

/-- The samples a write burst carries reach the memory (R52). -/
def Memory.writeEntries (m : List Host.Cell) (line : Fin 4) : List (Nat × Int) → List Host.Cell
  | [] => m
  | (p, v) :: rest => Memory.writeEntries (Memory.writeSample m line p v) line rest

/-- A read burst completes: the samples still wanted join its FIFO in position order (R55). -/
def DelayMemory.completeRead (d : DelayMemory) : DelayMemory :=
  match d.burst with
  | some (.read l wanted) =>
    { d.setLine l { d.lines[l] with
        readFifo := d.lines[l].readFifo ++ wanted.map fun p => (p, Memory.sample d.mem l p) } with burst := none }
  | _ => d

/-- A write burst completes: its samples reach the memory and leave their FIFO, unless their allocation has ended (R39, R55). -/
def DelayMemory.completeWrite (d : DelayMemory) : DelayMemory :=
  match d.burst with
  | some (.write l entries stale) =>
    { d.setLine l { d.lines[l] with
        writeFifo := if stale then d.lines[l].writeFifo else d.lines[l].writeFifo.drop entries.length } with
      burst := none, mem := Memory.writeEntries d.mem l entries }
  | _ => d

end Sys2Proof.Machine
end

