-- ==== Sys2Proof/Machine/Stages.lean ====
section
/-! DEFINITION. The arithmetic of the stages, sample by sample (spec/01 1.4..1.9, spec/02 2.4, spec/03 3.2), and what a block
boundary does to a stage. -/

namespace Sys2Proof.Machine

/-! ## The kinds' own arithmetic: the output and whether a saturation acted (R1) -/

/-- A ramped parameter's value at sample k of the block (R5). -/
def Stage.rampedAt (st : Stage) (id k : Nat) : Int := rampAt (st.previous.getD id 0) (st.current.getD id 0) k

/-- GAIN (R6). -/
def gainOut (g : Int) (invert : Bool) (x : Int) : Int × Bool :=
  let x' := if invert then sat (-x) else x
  (sat (round12 (x' * g)), (invert && clips (-x)) || clips (round12 (x' * g)))

/-- The exact accumulator of a BIQUAD with coefficients b0, b1, b2, a1, a2 (R7). -/
def biquadAcc (c : List Int) (b : BiquadRun) (x : Int) : Int :=
  c.getD 0 0 * x + c.getD 1 0 * b.x1 + c.getD 2 0 * b.x2 - c.getD 3 0 * b.y1 - c.getD 4 0 * b.y2

/-- BIQUAD (R7). -/
def biquadOut (c : List Int) (b : BiquadRun) (x : Int) : (Int × Bool) × BiquadRun :=
  let v := round22 (biquadAcc c b x)
  ((sat v, clips v), { x1 := x, x2 := b.x1, y1 := sat v, y2 := b.y1 })

/-- An entry of a shaper bank. -/
def Table.entry (t : Table) (i : Nat) : Int := t[i]?.getD 0

/-- The curve read at u by linear interpolation (R9 steps 2 to 4). -/
def Table.curve (t : Table) (u : Int) : Int :=
  let n := (u + 8388608).toNat
  let i := n / 65536
  let f : Int := (n % 65536 : Nat)
  Table.entry t i + ((Table.entry t (i + 1) - Table.entry t i) * f + 32768) / 65536

/-- SHAPER (R9). -/
def shaperOut (t : Table) (gp bias gq : Int) (x : Int) : Int × Bool :=
  let v := round12 (x * gp)
  let w := sat v + bias
  let y := round12 (Table.curve t (sat w) * gq)
  (sat y, clips v || clips w || clips y)

/-- |x| with −8,388,608 counting as 8,388,607 (R15). -/
def peakOf (x : Int) : Int := min sampleMax x.natAbs

/-- GATE: the gain of sample k of the block, and the output (R16); the peak takes |x| (R15). -/
def gateOut (g : GateRun) (k : Nat) (x : Int) : Int × GateRun :=
  let gg := rampAt g.ggStart g.ggEnd k
  (sat (round12 (x * gg)), { g with gg := gg, peak := max g.peak (peakOf x), computed := true })

/-- The tone filter (R44 step 1, R47). -/
def toneStep (w r k : Int) : Int := sat (w + round23 ((r - w) * k))

/-- What one sample of a stage leaves: the stage, the port, its output, an OUTPUT's pair, and whether a saturation in it acted. -/
structure StageOut where
  stage : Stage
  port : Port
  out : Int
  pair : Pair
  clip : Bool

/-- What a DELAY feeds its line with from its input x (R44 step 2, R45). -/
def Stage.feed (st : Stage) (x : Int) : Int :=
  if st.inForce 8 = 1 then scaleAt x st.m else if st.m = 0 then 0 else x

/-- DELAY with its line (R43, R44, R45), at ramp position m. -/
def delayOut (st : Stage) (dr : DelayRun) (line : Fin 4) (k : Nat) (p : Port) (x : Int) : StageOut :=
  let got := p.read line dr.offset dr.r (readerBetween dr.offset)
  let w := toneStep dr.w got.1 (st.inForce 4)
  let s := st.feed x + round12 (w * st.rampedAt 3 k)
  let y := round12 (x * st.rampedAt 5 k) + round12 (w * st.rampedAt 6 k)
  { stage := { st with run := .delay { dr with w := w, r := got.1 } }
    port := got.2.write line (sat s) (readerAt dr.offset)
    out := if st.inForce 8 = 1 then sat y else blendAt x (sat y) st.m
    pair := (0, 0)
    clip := clips s || clips y }

/-- DELAY without the memory (R59). -/
def delayDry (st : Stage) (k : Nat) (p : Port) (x : Int) : StageOut :=
  let y := round12 (x * st.rampedAt 5 k)
  { stage := st, port := p, out := blendAt x (sat y) st.m, pair := (0, 0), clip := clips y }

/-! ## The engage ramp (R33, R36) -/

/-- The gate at its floor, closed (R2, R14, R36). -/
def gateAtFloor (floor : Int) : GateRun where
  state := .closed
  gg := floor
  ggStart := floor
  ggEnd := floor
  hold := 0
  peak := 0
  computed := false

def biquadZero : BiquadRun := { x1 := 0, x2 := 0, y1 := 0, y2 := 0 }

/-- The fresh start of a stage that leaves m = 0 (R36); a DELAY keeps its state (R45). -/
def Stage.fresh (st : Stage) : Stage :=
  match st.run with
  | .biquad _ => { st with run := .biquad biquadZero }
  | .gate _ => { st with run := .gate (gateAtFloor (st.inForce 5)) }
  | _ => st

/-- The ramp position moves one step toward the engage target (R33). -/
def Stage.stepRamp (st : Stage) : Stage :=
  let moved := { st with m := if st.target then min 256 (st.m + 1) else st.m - 1 }
  if st.m = 0 ∧ st.target then moved.fresh else moved

/-! ## One sample of a stage and of a stage list (R4) -/

/-- A computed stage's output before its engage ramp, and its running state after (R6, R7, R9, R16). -/
def Stage.compute (st : Stage) (banks : Vector Table 8) (k : Nat) (x : Int) : (Int × Bool) × Running :=
  match st.kind, st.run with
  | .gain, run => (gainOut (st.rampedAt 0 k) (st.inForce 1 == 1) x, run)
  | .biquad, .biquad b => let o := biquadOut st.current b x; (o.1, .biquad o.2)
  | .shaper, run =>
    (shaperOut banks[Fin.ofNat 8 (st.inForce 2).toNat] (st.rampedAt 0 k) (st.inForce 1) (st.rampedAt 3 k) x, run)
  | .gate, .gate g => let o := gateOut g k x; ((o.1, false), .gate o.2)
  | _, run => ((x, false), run)

/-- OUTPUT: the pair through the engage ramp, and whether a saturation acted (R17, R35). -/
def outputPair (st : Stage) (k : Nat) (x : Int) : Pair × Bool :=
  let l := round12 (x * st.rampedAt 0 k)
  let r := round12 (x * st.rampedAt 1 k)
  ((scaleAt (sat l) st.m, scaleAt (sat r) st.m), clips l || clips r)

/-- One sample of a stage: its ramp moves, then it is computed unless m = 0, DELAY stages always (R4, R33..R35, R44). -/
def Stage.render (st : Stage) (banks : Vector Table 8) (k : Nat) (p : Port) (x : Int) : StageOut :=
  let st := st.stepRamp
  match st.kind, st.run with
  | .delay, .delay dr =>
    match dr.line with
    | some line => delayOut st dr line k p x
    | none => delayDry st k p x
  | .output, _ =>
    if st.m = 0 then { stage := st, port := p, out := x, pair := (0, 0), clip := false }
    else let o := outputPair st k x; { stage := st, port := p, out := x, pair := o.1, clip := o.2 }
  | _, _ =>
    if st.m = 0 then { stage := st, port := p, out := x, pair := (0, 0), clip := false }
    else
      let o := st.compute banks k x
      { stage := { st with run := o.2 }, port := p, out := blendAt x o.1.1 st.m, pair := (0, 0), clip := o.1.2 }

/-- What one sample of a stage list leaves; the pair is the OUTPUT's. -/
structure StagesOut where
  stages : List Stage
  port : Port
  pair : Pair
  clips : List Bool

/-- The stages run in list order, each on the output of the one before (R4). -/
def renderStages (banks : Vector Table 8) (k : Nat) : List Stage → Port → Int → StagesOut
  | [], p, _ => { stages := [], port := p, pair := (0, 0), clips := [] }
  | st :: rest, p, x =>
    let o := st.render banks k p x
    let more := renderStages banks k rest o.port o.out
    { stages := o.stage :: more.stages
      port := more.port
      pair := if st.kind = .output then o.pair else more.pair
      clips := o.clip :: more.clips }

/-- A context's input of this sample, and whether its SUM saturated (R4). -/
def InputSel.take : InputSel → Pair → Int × Bool
  | .a, ab => (ab.1, false)
  | .b, ab => (ab.2, false)
  | .sum, ab => (sat (ab.1 + ab.2), clips (ab.1 + ab.2))

/-! ## Trails, sample by sample (R47, R49) -/

/-- What one sample of a trail leaves, with its contributions to L and R. -/
structure TrailOut where
  trail : Trail
  port : Port
  pair : Pair

def Trail.share (t : Trail) (v : Int) : Pair := (round12 (v * t.gainL), round12 (v * t.gainR))

/-- A trail that still runs (R47); one whose cut waits for the next block runs as RUNNING too (R49). -/
def Trail.renderRunning (t : Trail) (p : Port) : TrailOut :=
  let got := p.read t.line t.offset t.r (readerBetween t.offset)
  let w := toneStep t.w got.1 t.tone
  let v := round12 (w * t.wet)
  { trail := { t with w := w, r := got.1, peak := max t.peak v.natAbs }
    port := got.2.write t.line (sat (round12 (w * t.feedback))) (readerAt t.offset)
    pair := t.share v }

/-- Sample j of a trail's fade (R49). -/
def Trail.renderCutting (t : Trail) (j : Nat) (p : Port) : TrailOut :=
  let got := p.read t.line ((t.offset : Int) - j) t.r (readerCutting t.offset (j + 1))
  let v := round12 (got.1 * t.wet)
  { trail := { t with r := got.1, state := .cutting (j + 1) }
    port := got.2
    pair := t.share (scaleAt v (256 - j)) }

/-- One sample of a trail; one whose fade has ended contributes nothing (R49). -/
def Trail.render (t : Trail) (p : Port) : TrailOut :=
  match t.state with
  | .cutting j => if j < Config.fadeSamples then t.renderCutting j p else { trail := t, port := p, pair := (0, 0) }
  | _ => t.renderRunning p

/-- One sample of the trail list, with the sum of the contributions (R21). -/
def renderTrails : List Trail → Port → List Trail × Port × Pair
  | [], p => ([], p, (0, 0))
  | t :: rest, p =>
    let o := t.render p
    let more := renderTrails rest o.port
    (o.trail :: more.1, more.2.1, (o.pair.1 + more.2.2.1, o.pair.2 + more.2.2.2))

/-! ## What a block boundary does to a stage -/

/-- A GATE's transition at the boundary that ends a block in which it was computed (R15), with the thresholds and hold that are
in force from this boundary. A hold counter that reaches 0 leaves the gate HOLDING with counter 0, for GATE_HOLD_END. -/
def gateTransition (params : List Int) (g : GateRun) : GateRun :=
  let isOpen : Bool := decide (params.getD 0 0 ≤ g.peak)
  let isBelow : Bool := decide (g.peak < params.getD 1 0)
  match g.state with
  | .closed => if isOpen then { g with state := .opening } else g
  | .opening => if g.gg = 4096 then { g with state := .opened } else g
  | .opened =>
    if !isBelow then g
    else if 1 ≤ params.getD 3 0 then { g with state := .holding, hold := (params.getD 3 0).toNat }
    else { g with state := .closing }
  | .holding => if !isBelow then { g with state := .opened } else { g with hold := g.hold - 1 }
  | .closing =>
    if isOpen then { g with state := .opening } else if g.gg = params.getD 5 0 then { g with state := .closed } else g

/-- The end of a block for a GATE (R15): one transition if it was computed in the block; the peak starts afresh. -/
def gateClose (params : List Int) (g : GateRun) : GateRun :=
  let g' := if g.computed then gateTransition params g else g
  { g' with peak := 0, computed := false }

/-- The gain a GATE will reach at the end of the next block (R16). -/
def gateGoal (params : List Int) (g : GateRun) : Int :=
  let floor := params.getD 5 0
  let sa := max 1 (divCeil (4096 - floor) (params.getD 2 0))
  let sr := max 1 (divCeil (4096 - floor) (params.getD 4 0))
  match g.state with
  | .opening => min 4096 (g.gg + sa)
  | .closing => max floor (g.gg - sr)
  | .opened => 4096
  | .holding => 4096
  | .closed => floor

/-- A GATE fixes the gains between which its next block's ramp runs (R16). -/
def gateFix (params : List Int) (g : GateRun) : GateRun := { g with ggStart := g.gg, ggEnd := gateGoal params g }

/-- A GATE whose hold counter has reached 0 waits for GATE_HOLD_END (R15). -/
def GateRun.holdEnded (g : GateRun) : Bool := g.state == .holding && g.hold == 0

/-- GATE_HOLD_END: the gate enters CLOSING and fixes its gain from there (R15, R16). -/
def gateHoldEnd (params : List Int) (g : GateRun) : GateRun :=
  if g.holdEnded then gateFix params { g with state := .closing } else g

/-- The end of a block for a stage. -/
def Stage.closeBlock (st : Stage) : Stage :=
  match st.run with
  | .gate g => { st with run := .gate (gateClose st.params g) }
  | _ => st

/-- GATE_HOLD_END for a stage, with the release and floor in force in the block that the boundary began: an edit after that
boundary does not alter the block (R3). -/
def Stage.holdEnd (st : Stage) : Stage :=
  match st.run with
  | .gate g => { st with run := .gate (gateHoldEnd st.current g) }
  | _ => st

/-- The target offset of a DELAY from its parameters and the beat length (R41). -/
def targetOffset (params : List Int) (beat : Nat) : Nat :=
  let ratio := divisionRatio (params.getD 2 0).toNat
  clampNat 1 131071 (if params.getD 0 0 = 0 then (params.getD 1 0).toNat else beat * ratio.1 / ratio.2)

/-- One boundary of a glide from D toward a target, by at most G (R42). -/
def glide (d target g : Nat) : Nat :=
  if g = 0 ∨ (max d target - min d target) ≤ g then target else if d < target then d + g else d - g

/-- The parameters taken at a boundary: spread over the block by a rendered context, whole in one that is not (R3, R5). In the
16-sample block at the sample counter's wrap the ramp reaches sample 15 alone, where R5 takes a block to have 48; that the next block
starts from the whole new value, and not from the value of sample 15, is the model's choice (DESIGN CHOICE, log entry 12). -/
def Stage.takeParams (st : Stage) (rendered : Bool) : Stage :=
  { st with previous := if rendered then st.current else st.params, current := st.params }

/-- The start of a block for a stage: parameters (R5), and in a rendered context the engage target (R32), a GATE's gain (R16)
and a DELAY's glide (R42). A stored parameter comes into force here alone. In the block in which a dip of odd F turns from OUT to IN at
sample 24 (R20), R97 has an EDIT of the OUT phase in force when the IN phase begins, and R3 from the next boundary; that an EDIT taken
in samples 0..23 of that block waits for the next boundary is the model's choice (DESIGN CHOICE, log entry 37). -/
def Stage.openBlock (st : Stage) (rendered : Bool) (latches : Vector Latch 8) (muting : Bool) (beat : Nat) : Stage :=
  let st := st.takeParams rendered
  if !rendered then st
  else
    let st := { st with target := st.engaged latches muting }
    match st.run with
    | .gate g => { st with run := .gate (gateFix st.params g) }
    | .delay dr =>
      { st with run := .delay { dr with offset := glide dr.offset (targetOffset st.params beat) (st.params.getD 7 0).toNat } }
    | _ => st

/-- A stage's DELAY offset and line, if it holds one. -/
def Stage.lineOffset (st : Stage) : Option (Fin 4 × Nat) :=
  match st.run with
  | .delay dr => dr.line.map fun l => (l, dr.offset)
  | _ => none

/-- The read FIFOs of the lines whose offset a boundary changed are emptied (R51). -/
def refetchChanged (d : DelayMemory) : List Stage → List Stage → DelayMemory
  | old :: olds, new :: news =>
    let d := match old.lineOffset, new.lineOffset with
      | some (l, a), some (_, b) => if a = b then d else d.refetch l
      | _, _ => d
    refetchChanged d olds news
  | _, _ => d

/-- A trail's accounting at a boundary (R48). A trail that a load has cut between boundaries runs as RUNNING until the block whose
start begins its fade (R49); that the boundary there leaves its age, quiet count and peak as they stood is the model's choice (DESIGN
CHOICE, log entry 36). -/
def Trail.closeBlock (t : Trail) : Trail :=
  match t.state with
  | .running => { t with age := t.age + 1, quiet := if t.peak < 16 then t.quiet + 1 else 0, peak := 0 }
  | _ => t

/-- A running trail's own end has come (R48). -/
def Trail.ownEnd (t : Trail) : Bool := t.state == .running && (decide (48 ≤ t.quiet) || decide (10000 ≤ t.age))

end Sys2Proof.Machine
end

