-- ==== Sys2Proof/Machine/Tempo.lean ====
section
/-! DEFINITION. The tempo unit (spec/08): the beat, taps, the external clock, preset tempo and TEMPO reports. -/

namespace Sys2Proof.Machine

/-- The interval between two stamps, modulo 2^32 (R119, R149, R151). -/
def interval (later earlier : Stamp) : Nat := (later - earlier).toNat

/-- The tap run emptied (R148). -/
def Tempo.emptyTaps (t : Tempo) : Tempo := { t with tapLast := none, tapRun := [] }

/-- A TEMPO report: B, source and lock flag as they stand (R157, R195). -/
def Tempo.payload (t : Tempo) : List Byte :=
  bytesLE 4 t.beat ++ [t.source.code, flagByte t.locked]

def State.reportTempo (s : State) : State := s.post .tempo 0 s.tempo.payload

/-- A tempo change that posts a TEMPO report when it changes the source or the lock flag (R157). -/
def State.changeTempo (s : State) (t : Tempo) : State :=
  if t.source = s.tempo.source ∧ t.locked = s.tempo.locked then s.withTempo t else (s.withTempo t).reportTempo

/-- One sample (R147, R153): p moves, and wraps or restarts with a beat event; the loss timer counts down. -/
def Tempo.advance (t : Tempo) : Tempo :=
  let wraps : Bool := t.restart || decide (t.beat ≤ t.position + 1)
  { t with
    position := if wraps then 0 else t.position + 1
    restart := false
    beatDue := t.beatDue || wraps
    loss := t.loss.map (· - 1) }

/-- A tap (R149, R150). -/
def Tempo.tap (t : Tempo) (stamp : Stamp) : Tempo :=
  if t.locked then t
  else match t.tapLast with
    | none => { t with tapLast := some stamp, tapRun := [], restart := true }
    | some last =>
      let i := interval stamp last
      if i < Config.beatMin then t
      else if Config.beatMax < i then { t with tapLast := some stamp, tapRun := [], restart := true }
      else
        let run := (if 4 ≤ t.tapRun.length then t.tapRun.drop 1 else t.tapRun) ++ [i]
        { t with tapLast := some stamp, tapRun := run, beat := run.sum / run.length, restart := true, source := .tap }

/-- The clock run with its run discarded, the clock just taken staying as the last stamp (R151). -/
def Tempo.discardClock (t : Tempo) : Tempo := { t with clockFirst := none, clockRun := [], clockCount := 0 }

/-- A sum of eight intervals that makes a beat (R151). -/
def beatInRange (s : Nat) : Bool := decide (Config.beatMin ≤ s) && decide (s ≤ Config.beatMax)

/-- An interval joins the clock run or restarts it (R151). -/
def Tempo.joinClock (t : Tempo) (i : Nat) : Tempo :=
  match t.clockFirst with
  | none => { t with clockFirst := some i, clockRun := [i], clockCount := 1 }
  | some p1 =>
    if max i p1 - min i p1 ≤ p1 / 16 then
      { t with clockRun := (if 8 ≤ t.clockRun.length then t.clockRun.drop 1 else t.clockRun) ++ [i],
               clockCount := t.clockCount + 1 }
    else { t with clockFirst := some i, clockRun := [i], clockCount := 1 }

/-- A clock (R151, R152): the loss timer starts afresh; the interval acts on the run. Eight intervals whose sum makes no beat
discard an unlocked run; otherwise they wait for CLOCK_LOCK or CLOCK_UPDATE. -/
def Tempo.clock (t : Tempo) (stamp : Stamp) : Tempo :=
  let t := { t with loss := some Config.clockLoss }
  match t.clockLast with
  | none => { t with clockLast := some stamp, clockFirst := none, clockRun := [], clockCount := 0 }
  | some last =>
    let t := { t.joinClock (interval stamp last) with clockLast := some stamp }
    if t.clockCount = 8 ∧ !t.locked ∧ !beatInRange t.clockRun.sum then t.discardClock else t

/-- Eight intervals make an unlocked unit lock (R151). -/
def Tempo.lockDue (t : Tempo) : Bool := !t.locked && t.clockCount == 8 && beatInRange t.clockRun.sum

/-- The lock (R151). -/
def Tempo.lock (t : Tempo) : Tempo :=
  { t.emptyTaps with locked := true, beat := t.clockRun.sum, source := .clock, restart := true, clockCount := 0 }

/-- Eight intervals update a locked unit (R152). -/
def Tempo.updateDue (t : Tempo) : Bool := t.locked && t.clockCount == 8

/-- The update (R152). -/
def Tempo.update (t : Tempo) : Tempo :=
  { t.emptyTaps with beat := clampNat Config.beatMin Config.beatMax t.clockRun.sum, restart := true, clockCount := 0 }

/-- The loss timer has reached 0 (R153). -/
def Tempo.lossDue (t : Tempo) : Bool := t.loss == some 0

/-- The expiry of the loss timer (R153). -/
def Tempo.expire (t : Tempo) : Tempo :=
  let t := { t.discardClock with loss := none, clockLast := none }
  if t.locked then { t with locked := false, source := .held } else t

/-- B set by another cause than a tap or the clock: clamped, p kept, the tap run emptied (R148, R154, R155). -/
def Tempo.setBeat (t : Tempo) (v : Nat) (source : TempoSource) : Tempo :=
  { t.emptyTaps with beat := clampNat Config.beatMin Config.beatMax v, source := source }

/-- A preset tempo handed over at a switch point: ignored while locked (R154). -/
def Tempo.preset (t : Tempo) (v : Nat) : Tempo := if t.locked then t else t.setBeat v .preset

/-! ## The same on State -/

def State.takeClockLock (s : State) : State := if s.tempo.lockDue then s.changeTempo s.tempo.lock else s

def State.takeClockUpdate (s : State) : State := if s.tempo.updateDue then s.changeTempo s.tempo.update else s

def State.takeClockLoss (s : State) : State := if s.tempo.lossDue then s.changeTempo s.tempo.expire else s

/-- A tap handed over by the cue unit (R141, R149). -/
def State.takeTap (s : State) (stamp : Stamp) : State := s.changeTempo (s.tempo.tap stamp)

/-- A clock handed over by the cue unit (R141, R151); a lock or update that waits is taken before it. -/
def State.takeClock (s : State) (stamp : Stamp) : State :=
  let s := s.takeClockLock.takeClockUpdate
  s.changeTempo (s.tempo.clock stamp)

end Sys2Proof.Machine
end

