-- ==== Sys2Proof/Machine/Tuner.lean ====
section
/-! DEFINITION. The tuner (spec/09): conditioning, comparator, periods and runs, the note of a period, readings and reports. -/

namespace Sys2Proof.Machine

/-! ## From a period to a note (R169, R170) -/

/-- The table Tl[j] = round(65,536 log2(1 + j/64)), j = 0..64 (R169). -/
def logTable : List Nat :=
  [0, 1466, 2909, 4331, 5732, 7112, 8473, 9814, 11136, 12440, 13727, 14996, 16248]
  ++ [17484, 18704, 19909, 21098, 22272, 23433, 24579, 25711, 26830, 27936, 29029, 30109, 31178]
  ++ [32234, 33279, 34312, 35334, 36346, 37346, 38336, 39316, 40286, 41246, 42196, 43137, 44068]
  ++ [44990, 45904, 46809, 47705, 48593, 49472, 50344, 51207, 52063, 52911, 53751, 54584, 55410]
  ++ [56229, 57040, 57845, 58643, 59434, 60219, 60997, 61769, 62534, 63294, 64047, 64794, 65536]

/-- LG(x), for x of 1 or more, in units of 2^-16 octave (R169). -/
def lg (x : Nat) : Nat :=
  let e := Nat.log2 x
  let m16 := x * 65536 / 2 ^ e - 65536
  let kk := m16 / 1024
  e * 65536 + logTable.getD kk 0 + (logTable.getD (kk + 1) 0 - logTable.getD kk 0) * (m16 % 1024) / 1024

/-- The pitch of a period in units of 2^-16 semitone, note 69 at the reference (R170 steps 1 and 2). -/
def pitchOf (period reference : Nat) : Int :=
  12 * ((lg (122880000 / reference) : Int) - lg period) + 69 * 65536

/-- The in-tune flag (R170 step 6, R171). -/
def inTune (cents : Int) (window : Nat) : Bool := decide (cents.natAbs ≤ window)

/-- The reading of a measured period (R170). -/
def readingOf (period : Nat) (settings : TunerSettings) : Reading :=
  let s := pitchOf period settings.reference
  let note := (s + 32768) / 65536
  let d := s - note * 65536
  let cents := (1000 * d + 32768) / 65536
  { note := note.toNat, cents := cents, inTune := inTune cents settings.window, period := period }

/-! ## Runs (R167, R168) -/

/-- The run emptied: P1 none, count 0, sum 0. -/
def Tuner.emptyRun (t : Tuner) : Tuner := { t with first := none, count := 0, sum := 0 }

/-- A valid period joins the run or restarts it (R168). -/
def Tuner.offer (t : Tuner) (p : Nat) : Tuner :=
  match t.first with
  | none => { t with first := some p, count := 1, sum := p }
  | some p1 =>
    if max p p1 - min p p1 ≤ p1 / 16 then { t with count := t.count + 1, sum := t.sum + p }
    else { t with first := some p, count := 1, sum := p }

/-- A period is valid (R167). -/
def periodValid (p : Nat) : Bool := decide (Config.periodMin ≤ p) && decide (p ≤ Config.periodMax)

/-- The crossing time of a rising event at sample n, in 256ths of a sample modulo 2^40 (R166). -/
def crossingTime (n : Stamp) (h before after : Int) : Nat :=
  (256 * (n - 1).toNat + if h ≤ before then 0 else (256 * (h - before) / (after - before)).toNat) % 2 ^ 40

/-- A rising event: a period is formed and judged (R167). -/
def Tuner.rising (t : Tuner) (c : Nat) : Tuner :=
  let t' := match t.lastCrossing with
    | none => t
    | some c0 =>
      let p := (c + 2 ^ 40 - c0) % 2 ^ 40
      if periodValid p then t.offer p else t.emptyRun
  { t' with lastCrossing := some c }

/-- The comparator after y has moved to `after`: its new state, and whether it made a rising event (R165). -/
def comparator (positive : Bool) (h after : Int) : Bool × Bool :=
  if positive then (!(decide (after ≤ -h) && !decide (h ≤ after)), false)
  else
    let rises := decide (h ≤ after) && !decide (after ≤ -h)
    (rises, rises)

/-- A run that has reached its length waits for TUNER_RUN_COMPLETE (R168). -/
def Tuner.runDue (t : Tuner) : Bool := t.mode != .off && t.settings.runLength ≤ t.count

/-- One sample of the source (R164..R168), and the loss timer (R172). The timer counts here in every sample; the completion of a run
starts it afresh, so that it does not count at a sample in which a run completes, while a run that a TUNER_SET empties before its
completion is taken completes at no sample and holds nothing back. -/
def Tuner.sample (t : Tuner) (n : Stamp) (ab : Pair) : Tuner :=
  if t.mode = .off then t
  else
    let x := match t.settings.source with
      | .a => ab.1
      | .b => ab.2
    let y := t.y + (x - t.y) / 8
    let cmp := comparator t.positive t.settings.threshold y
    let t' := { t with y := y, positive := cmp.1 }
    let t' := if cmp.2 then t'.rising (crossingTime n t.settings.threshold t.y y) else t'
    { t' with loss := t'.loss.map (· - 1) }

/-! ## Readings and reports (R171..R174) -/

/-- The measured period of a complete run (R168). -/
def Tuner.measured (t : Tuner) : Nat := t.sum / t.settings.runLength

/-- A completed run makes a reading (R171). -/
def Tuner.completeRun (t : Tuner) : Tuner :=
  { t.emptyRun with
    latest := some (readingOf t.measured t.settings), measure := .tracking, loss := some Config.tunerLoss }

/-- The loss timer has reached 0 (R172), and no run that completes at this sample is about to start it afresh (R171). -/
def Tuner.lossDue (t : Tuner) : Bool := t.loss == some 0 && !t.runDue

/-- The expiry of the loss timer (R172). -/
def Tuner.expire (t : Tuner) : Tuner := { t with loss := none, measure := .seeking, latest := none }

/-- The latest reading differs from the last reported one in note, cents or in-tune flag, or is NO_SIGNAL against a last
reported reading that is not (R174; log entry 21). -/
def Tuner.unreported (t : Tuner) : Bool :=
  match t.latest, t.reported with
  | some r, .reading r' => r.note != r'.note || r.cents != r'.cents || r.inTune != r'.inTune
  | some _, _ => true
  | none, .noSignal => false
  | none, _ => true

/-- The latest reading as a last reported one. -/
def Tuner.asReported (t : Tuner) : LastReport :=
  match t.latest with
  | some r => .reading r
  | none => .noSignal

/-- The nine bytes of a tuner reading (R195). -/
def Tuner.readingBytes (t : Tuner) : List Byte :=
  match t.latest with
  | some r =>
    [t.measure.code, 1, byteOf r.note] ++ bytesSignedLE 2 r.cents ++ [flagByte r.inTune] ++ bytesLE 3 r.period
  | none => [t.measure.code, 0, 0, 0, 0, 0, 0, 0, 0]

/-- A TUNER report, and the last reported reading with it; nothing while the kind is disabled (R174). -/
def State.reportTuner (s : State) : State :=
  if s.link.enabled .tuner then
    (s.post .tuner 0 s.tuner.readingBytes).withTuner { s.tuner with reported := s.tuner.asReported }
  else s

def State.reportTunerIf (s : State) (cond : Bool) : State := if cond then s.reportTuner else s

def State.takeTunerRun (s : State) : State :=
  if s.tuner.runDue then
    let s := s.withTuner s.tuner.completeRun
    s.reportTunerIf s.tuner.unreported
  else s

def State.takeTunerLoss (s : State) : State :=
  if s.tuner.lossDue then
    let s := s.withTuner s.tuner.expire
    s.reportTunerIf (s.tuner.reported != .noSignal)
  else s

/-! ## Modes and settings (R159..R163) -/

/-- A change of mode: measurement starts or stops with a change out of or into OFF, and goes on otherwise (R159, R160). -/
def Tuner.setMode (t : Tuner) (m : TunerMode) : Tuner :=
  if t.mode = .off ∧ m ≠ .off then
    { t with mode := m, measure := .seeking, loss := some Config.tunerLoss, reported := .none }
  else if t.mode ≠ .off ∧ m = .off then
    { t.emptyRun with mode := m, measure := .off, loss := none, lastCrossing := none }
  else { t with mode := m }

/-- A toggle (R163). -/
def Tuner.toggled (t : Tuner) : Tuner := t.setMode (if t.mode = .off then t.settings.toggle else .off)

/-- A run length as it is stored: 2, 4, 8 or 16, the largest not above the value given (R161). -/
def storedRunLength (n : Nat) : Nat :=
  if 16 ≤ n then 16 else if 8 ≤ n then 8 else if 4 ≤ n then 4 else 2

/-- The numbers of a TUNER_SET clamped to their ranges (R161). -/
def TunerSettings.clamped (t : TunerSettings) : TunerSettings :=
  { t with
    reference := clampNat 4300 4500 t.reference
    window := clampNat 1 50 t.window
    runLength := storedRunLength t.runLength
    threshold := clampTo 0 8388607 t.threshold }

/-- New settings act on the measurement (R162). -/
def Tuner.setSettings (t : Tuner) (v : TunerSettings) : Tuner :=
  let moved := v.source ≠ t.settings.source ∨ v.threshold ≠ t.settings.threshold
  let t' := if moved ∨ v.runLength ≠ t.settings.runLength then t.emptyRun else t
  { t' with
    settings := v
    lastCrossing := if moved then none else t.lastCrossing
    latest := if v.window ≠ t.settings.window then t.latest.map fun r => { r with inTune := inTune r.cents v.window }
      else t.latest }

/-- The latest reading's flag differs from that of the last reported reading (R162, R174; log entry 21). -/
def Tuner.flagUnreported (t : Tuner) : Bool :=
  match t.latest, t.reported with
  | some r, .reading r' => r.inTune != r'.inTune
  | _, _ => false

/-- An accepted TUNER_SET (R161, R162, R160): the settings' effects with their report, then the mode's. -/
def State.setTuner (s : State) (v : TunerSettings) (m : TunerMode) : State :=
  let windowChanges : Bool := v.window != s.tuner.settings.window
  let s := s.withTuner (s.tuner.setSettings v)
  let s := s.reportTunerIf (windowChanges && s.tuner.flagUnreported)
  s.withTuner (s.tuner.setMode m)

/-- A toggle from the cue unit (R141, R163). -/
def State.toggleTuner (s : State) : State := s.withTuner s.tuner.toggled

end Sys2Proof.Machine
end

