-- ==== Sys2Proof/Machine/Scenes.lean ====
section
/-! DEFINITION. The scene manager (spec/05): contexts and the edit context, recall, cancel, loading, the switch point and the end of
a switch, and the trail list; and the latch set's part of them (R30). -/

namespace Sys2Proof.Machine

/-! ## Contexts -/

def Context.mapStages (c : Context) (f : Stage → Stage) : Context := { c with stages := c.stages.map f }

/-- The incoming context, which exists exactly while the state is LOADING, ARMED, CROSSFADE or DIP (R81). -/
def Scene.incoming : Scene → Option Context
  | .steady => none
  | .loading c _ => some c
  | .armed c _ => some c
  | .crossfade c _ => some c
  | .dip c _ => some c

def Scene.mapIncoming (f : Context → Context) : Scene → Scene
  | .steady => .steady
  | .loading c p => .loading (f c) p
  | .armed c b => .armed (f c) b
  | .crossfade c q => .crossfade (f c) q
  | .dip c q => .dip (f c) q

/-- The incoming context once it is built (R77, R90). -/
def Scene.built : Scene → Option Context
  | .steady => none
  | .loading _ _ => none
  | .armed c _ => some c
  | .crossfade c _ => some c
  | .dip c _ => some c

/-- The queued recall (R81, R85). -/
def Scene.queued : Scene → Option QueuedRecall
  | .crossfade _ q => q
  | .dip _ q => q
  | _ => none

/-- The edit context (R77): the incoming context in ARMED, CROSSFADE and DIP, else the playing one. -/
def SceneManager.editContext (m : SceneManager) : Context := m.scene.built.getD m.playing

/-- Replaces the edit context. -/
def SceneManager.setEdit (m : SceneManager) (c : Context) : SceneManager :=
  match m.scene.built with
  | some _ => { m with scene := m.scene.mapIncoming fun _ => c }
  | none => { m with playing := c }

/-- A write of a parameter of a stage of the edit context (R78). -/
def SceneManager.writeParam (m : SceneManager) (stage id : Nat) (v : Int) : SceneManager :=
  let c := m.editContext
  match c.stages[stage]? with
  | some st => m.setEdit { c with stages := c.stages.set stage (st.write id v) }
  | none => m

/-- A SHAPER stage names the bank it reads in the block and the one stored for the next (R13). -/
def Stage.names (st : Stage) (bank : Nat) : Bool :=
  st.kind == .shaper && (st.inForce 2 == bank || st.value 2 == bank)

/-- A bank is named by a stage of the playing context or of a built incoming one (R13). -/
def SceneManager.namesBank (m : SceneManager) (bank : Nat) : Bool :=
  m.playing.stages.any (·.names bank) || (m.scene.built.map fun c => c.stages.any (·.names bank)).getD false

/-! ## Trails and costs -/

/-- The number of RUNNING trails (R95). -/
def runningTrails (ts : List Trail) : Nat := (ts.filter fun t => t.state == .running).length

/-- The trails that count 6 units: until the boundary at which their fade begins (R96). -/
def Trail.counts (t : Trail) : Bool :=
  match t.state with
  | .cutting _ => false
  | _ => true

/-- The render-cost account (R96). -/
def SceneManager.account (m : SceneManager) : Nat :=
  let r := (m.trails.filter Trail.counts).length
  (match m.scene with
    | .crossfade c _ => m.playing.cost + c.cost
    | .dip c _ => max m.playing.cost c.cost
    | _ => m.playing.cost) + Config.trailCost * r

/-- The first RUNNING entry of the trail list put into CUTTING, with its line (R100). -/
def cutFirst (as : TrailState) : List Trail → Option (Fin 4 × List Trail)
  | [] => none
  | t :: rest =>
    if t.state = .running then some (t.line, { t with state := as } :: rest)
    else (cutFirst as rest).map fun p => (p.1, t :: p.2)

/-- The scene manager cuts the oldest running trail (R100); nothing changes when none runs. -/
def State.cutOldest (s : State) (as : TrailState) : State :=
  match cutFirst as s.scenes.trails with
  | some (line, trails) => (s.withScenes { s.scenes with trails := trails }).withDelay (s.delay.hold line .cutting)
  | none => s

/-- A trail reaches its own end and enters CUTTING (R48). -/
def State.takeTrailOwnEnd (s : State) (line : Fin 4) : State :=
  if s.scenes.trails.any fun t => t.line == line && t.ownEnd then
    (s.withScenes { s.scenes with
        trails := s.scenes.trails.map fun t => if t.line == line && t.ownEnd then { t with state := .cutting 0 } else t }).withDelay
      (s.delay.hold line .cutting)
  else s

/-- A trail's fade has ended (R49). -/
def Trail.faded (t : Trail) : Bool :=
  match t.state with
  | .cutting j => Config.fadeSamples ≤ j
  | _ => false

/-- A cutting trail that has finished its fade leaves the list and its line is released (R49, R39). -/
def State.takeTrailFadeEnd (s : State) (line : Fin 4) : State :=
  if s.scenes.trails.any fun t => t.line == line && t.faded then
    (s.withScenes { s.scenes with trails := s.scenes.trails.filter fun t => !(t.line == line && t.faded) }).withDelay
      (s.delay.release line)
  else s

/-! ## SCENE reports (R101, R195) -/

def State.reportScene (s : State) (sub : Byte) (number : BitVec 8) (origin : Origin) (source : Source) (more : List Byte) :
    State :=
  s.post .scene sub ([number, origin.code, source.code] ++ more)

def State.reportSuperseded (s : State) (number : BitVec 8) (origin : Origin) (source : Source) (by' : BitVec 8) : State :=
  s.reportScene 5 number origin source [by']

def State.reportCancelled (s : State) (number : BitVec 8) (origin : Origin) (source : Source) : State :=
  s.reportScene 6 number origin source []

/-! ## Recall and cancel (R82..R86, R91) -/

/-- The incoming context that an accepted recall creates (R75): what the record gives is not yet there, and the input select, which
the switch point resolves (R93), is held as A until then (DESIGN CHOICE, log entry 29). -/
def newIncoming (source : Source) (origin : Origin) (timing : Option Timing) (fade : Option (BitVec 8)) (number : BitVec 8) :
    Context where
  source := source
  number := number
  origin := origin
  timingOverride := timing
  fadeOverride := fade
  name := []
  fade := 0
  timing := .now
  parts := { input := none, tempo := none, latches := none }
  input := .a
  cost := 0
  delays := 0
  stages := []
  bindings := []
  edited := false

/-- The lines that a context's DELAY stages hold, in stage list order. -/
def Context.lines (c : Context) : List (Fin 4) := c.stages.filterMap fun st => st.lineOffset.map (·.1)

/-- A dropped context's lines are released (R38, R39). -/
def State.releaseLines (s : State) (c : Context) : State :=
  s.withDelay (c.lines.foldl DelayMemory.release s.delay)

def State.setScene (s : State) (scene : Scene) : State := s.withScenes { s.scenes with scene := scene }

/-- The recall as it is queued (R85). -/
def Context.asQueued (c : Context) : QueuedRecall where
  source := c.source
  origin := c.origin
  timingOverride := c.timingOverride
  fadeOverride := c.fadeOverride
  number := c.number

/-- An accepted recall takes the next recall number and acts by scene state (R82, R84). -/
def State.acceptRecall (s : State) (source : Source) (origin : Origin) (timing : Option Timing) (fade : Option (BitVec 8))
    (phase : LoadPhase) : State :=
  let n := s.scenes.lastRecall + 1
  let inc := newIncoming source origin timing fade n
  let s := s.withScenes { s.scenes with lastRecall := n }
  match s.scenes.scene with
  | .steady => s.setScene (.loading inc phase)
  | .loading c _ => (s.reportSuperseded c.number c.origin c.source n).setScene (.loading inc phase)
  | .armed c _ => ((s.releaseLines c).reportSuperseded c.number c.origin c.source n).setScene (.loading inc phase)
  | .crossfade c q =>
    (match q with
      | some q => s.reportSuperseded q.number q.origin q.source n
      | none => s).setScene (.crossfade c (some inc.asQueued))
  | .dip c q =>
    (match q with
      | some q => s.reportSuperseded q.number q.origin q.source n
      | none => s).setScene (.dip c (some inc.asQueued))

/-- A CANCEL (R86): the number of the recall it ends, if any. -/
def State.cancelRecall (s : State) : Option (BitVec 8) × State :=
  match s.scenes.scene with
  | .steady => (none, s)
  | .loading c _ => (some c.number, (s.reportCancelled c.number c.origin c.source).setScene .steady)
  | .armed c _ => (some c.number, ((s.releaseLines c).reportCancelled c.number c.origin c.source).setScene .steady)
  | .crossfade c (some q) => (some q.number, (s.reportCancelled q.number q.origin q.source).setScene (.crossfade c none))
  | .dip c (some q) => (some q.number, (s.reportCancelled q.number q.origin q.source).setScene (.dip c none))
  | .crossfade _ none => (none, s)
  | .dip _ none => (none, s)

/-- A slot that the directory shows VALID (R82, R105). -/
def Store.slotValid (st : Store) (n : Fin 128) : Bool := st.directory[n].isSome

/-- A cue's recall of a slot (R83). -/
def State.cueRecall (s : State) (slot : Fin 128) (cue : Cue) : State :=
  if s.store.slotValid slot then s.acceptRecall (.slot slot) .cue none none .toRead
  else s.post .scene 7 [byteOf slot.val, byteOf cue.source.toNat, byteOf cue.kind.code, cue.index]

/-! ## Loading (R87..R90, R113) -/

/-- The bank a slot lies in (R104). -/
def slotBank (n : Fin 128) : Nat := n.val % 2

def StoreOp.bank : StoreOp → Nat
  | .store n => slotBank n
  | .erase n => slotBank n
  | .tableSave _ => 1
  | .setupSave => 1

/-- The busy bank, if any (R104). -/
def WriteEngine.busyBank : WriteEngine → Option Nat
  | .idle => none
  | .writing op _ _ => some op.bank

/-- A slot's record bytes in flash, with the length of its header (R104). -/
def FlashSlot.record (f : FlashSlot) : List Byte := f.bytes.take f.length

/-- What the read of a load gives: the record, a wait for a flash write, or an EMPTY slot (R87, R113). -/
inductive ReadResult where
  | bytes (bs : List Byte)
  | wait
  | empty
  deriving DecidableEq, Repr

/-- The read of a preset slot (R113). -/
def Store.readForLoad (st : Store) (n : Fin 128) : ReadResult :=
  if !st.slotValid n then .empty
  else match st.engine with
    | .idle => .bytes st.presets[n].record
    | .writing op _ image =>
      match decide (op = .store n), image with
      | true, .preset bs => .bytes bs
      | _, _ => if op.bank = slotBank n then .wait else .bytes st.presets[n].record

/-- The first step of a load: its read (R87, R74). -/
def State.readSource (s : State) : Source → ReadResult
  | .slot n => s.store.readForLoad n
  | .upload => .bytes s.upload
  | .passthrough => .bytes (writeRecord passthroughRecord)

/-- A load ends in failure (R87, R88). -/
def State.failLoad (s : State) (c : Context) (reason : Reason) (offset : Nat) : State :=
  (s.reportScene 4 c.number c.origin c.source (reason.code :: bytesLE 2 offset)).setScene .steady

/-- The incoming context takes the record's name, fade, timing, optional parts, cost and DELAY count (R88). -/
def Context.takeRecord (c : Context) (r : Record) (cost delays : Nat) : Context :=
  { c with
    name := r.name
    fade := c.fadeOverride.getD r.fade
    timing := c.timingOverride.getD r.timing
    parts := r.parts
    cost := cost
    delays := delays }

/-- A load's lines are there, or it needs none (R89). -/
def DelayMemory.enough (d : DelayMemory) (need : Nat) : Bool := need == 0 || !d.present || decide (need ≤ d.freeLines)

/-- Cuts the oldest running trail while FREE plus CUTTING is below what is needed (R89); at most four trails run. -/
def State.cutForLines (s : State) (need : Nat) : Nat → State
  | 0 => s
  | n + 1 =>
    if s.delay.freeLines + s.delay.cuttingLines < need ∧ 0 < runningTrails s.scenes.trails then
      (s.cutOldest .cutWait).cutForLines need n
    else s

/-- The first three steps of a load: read, validation, lines (R87..R89). A read that must wait keeps its place. -/
def State.takeLoadRead (s : State) : State :=
  match s.scenes.scene with
  | .loading c .toRead | .loading c .waiting =>
    match s.readSource c.source with
    | .empty => s.failLoad c .noSlot 0
    | .wait => s.setScene (.loading c .waiting)
    | .bytes bs =>
      match validate bs with
      | .bad reason offset => s.failLoad c reason offset
      | .ok cost delays =>
        let r := readRecord bs
        let s := s.setScene (.loading (c.takeRecord r cost delays) (.lines r))
        if s.delay.enough delays then s else s.cutForLines delays 4
  | _ => s

/-- The running state a stage is built with (R2, R40, R90). -/
def builtRun (kind : StageKind) (params : List Int) (line : Option (Fin 4)) (beat : Nat) : Running :=
  match kind with
  | .biquad => .biquad biquadZero
  | .gate => .gate (gateAtFloor (params.getD 5 0))
  | .delay => .delay { offset := targetOffset params beat, w := 0, line := line, r := 0 }
  | _ => .none

/-- A stage built from its entry, with no edit ramp pending (R2). R90 leaves its ramp position and engage target not yet set until
the switch point; m = 0 and a target not engaged stand for that (DESIGN CHOICE, log entry 29). -/
def StageEntry.build (e : StageEntry) (line : Option (Fin 4)) (beat : Nat) : Stage where
  kind := e.kind
  engage := e.engage
  latch := e.latch
  default := e.default
  params := e.params
  current := e.params
  previous := e.params
  target := false
  m := 0
  run := builtRun e.kind e.params line beat

/-- The stages of a record built in list order from position n, each DELAY with the lowest-numbered FREE line while the memory is
present (R89, R90, R59). -/
def buildStages (beat : Nat) : List StageEntry → Nat → DelayMemory → List Stage × DelayMemory
  | [], _, d => ([], d)
  | e :: rest, n, d =>
    let got := if e.kind = .delay ∧ d.present then d.allocate n else (none, d)
    let more := buildStages beat rest (n + 1) got.2
    (e.build got.1 beat :: more.1, more.2)

/-- A line mask: line n in bit n (R195). -/
def lineMask (ls : List (Fin 4)) : Byte := ls.foldl (fun m l => m ||| (1 <<< l.val)) 0

/-- A load whose copy is validated and whose lines are there waits for LOAD_COMPLETE (R89, R90). -/
def State.loadDue (s : State) : Bool :=
  match s.scenes.scene with
  | .loading c (.lines _) => s.delay.enough c.delays
  | _ => false

/-- The last step of a load: lines are allocated and the stages built, the state becomes ARMED, SCENE ARMED is posted (R90). -/
def State.takeLoadComplete (s : State) : State :=
  match s.scenes.scene with
  | .loading c (.lines r) =>
    if s.delay.enough c.delays then
      let built := buildStages s.tempo.beat r.stages 0 s.delay
      let c := { c with stages := built.1, bindings := r.bindings, edited := false }
      ((s.withDelay built.2).setScene (.armed c false)).reportScene 1 c.number c.origin c.source
        [byteOf c.cost, byteOf c.delays, lineMask c.lines, c.timing.code, c.fade]
    else s
  | _ => s

/-! ## The end of a switch (R98, R99) -/

/-- The trail made from an old DELAY stage (R46). -/
def DelayRun.toTrail (dr : DelayRun) (line : Fin 4) (params : List Int) (gainL gainR : Int) : Trail where
  line := line
  offset := dr.offset
  w := dr.w
  r := dr.r
  tone := params.getD 4 0
  feedback := params.getD 3 0
  wet := params.getD 6 0
  gainL := gainL
  gainR := gainR
  state := .running
  age := 0
  quiet := 0
  peak := 0

/-- The stored gains of a context's OUTPUT stage (R46). -/
def Context.outputGains (c : Context) : Int × Int :=
  match c.stages.find? fun st => st.kind == .output with
  | some st => (st.value 0, st.value 1)
  | none => (0, 0)

/-- The old context's DELAY stages in list order: trails made, lines of the others released (R98). -/
def retireStages (gains : Int × Int) : List Stage → DelayMemory → List Trail × DelayMemory
  | [], d => ([], d)
  | st :: rest, d =>
    match st.run with
    | .delay dr =>
      match dr.line with
      | some line =>
        if st.value 8 = 1 then
          let more := retireStages gains rest (d.hold line .trail)
          (dr.toTrail line st.params gains.1 gains.2 :: more.1, more.2)
        else retireStages gains rest (d.release line)
      | none => retireStages gains rest d
    | _ => retireStages gains rest d

/-- The end of a switch to the context `c` (R98, R99): the old context's lines become trails or FREE, `c` becomes the playing
context, DONE is posted, and a queued recall begins its load. -/
def State.endSwitch (s : State) (c : Context) (queued : Option QueuedRecall) : State :=
  let retired := retireStages s.scenes.playing.outputGains s.scenes.playing.stages s.delay
  let trails := s.scenes.trails ++ retired.1
  let s := s.withDelay retired.2.promote
  let s := s.withChain { s.chain with
    stageClip := 0, mixer := { phase := .single, k := 0, length := 0 } }
  let s := s.withScenes { s.scenes with playing := c, scene := .steady, trails := trails }
  let s := s.reportScene 3 c.number c.origin c.source [byteOf retired.1.length, byteOf (runningTrails trails)]
  match queued with
  | some q => s.setScene (.loading (newIncoming q.source q.origin q.timingOverride q.fadeOverride q.number) .toRead)
  | none => s

/-- The last sample of a crossfade or of a dip's IN phase has been rendered (R18). -/
def Mixer.done (m : Mixer) : Bool :=
  (m.phase == .crossfade || m.phase == .dipIn) && decide (m.length ≤ m.k)

/-- The end of a crossfade or dip, once the mixer reports it (R99). -/
def State.finishSwitch (s : State) : State :=
  if s.chain.mixer.done then
    match s.scenes.scene with
    | .crossfade c q | .dip c q => s.endSwitch c q
    | _ => s
  else s

/-! ## The switch point (R92..R95) -/

/-- A block boundary stands here and has not been taken (R196, R3). -/
def State.boundaryDue (s : State) : Bool :=
  s.sampleCounter.toNat % Config.blockSamples == 0 && !s.chain.boundaryTaken

/-- The modes of a switch (R95, R195). -/
inductive SwitchMode where
  | cut | crossfade | dip
  deriving DecidableEq, Repr

def SwitchMode.code : SwitchMode → Byte
  | .cut => 0
  | .crossfade => 1
  | .dip => 2

/-- A present latch field gives each named latch its value and removes its hold record (R30). -/
def applyLatchField (ls : Vector Latch 8) (f : LatchField) : Vector Latch 8 :=
  Vector.ofFn fun (i : Fin 8) => if f.mask.getLsbD i.val then { value := f.values.getLsbD i.val, hold := none } else ls[i]

/-- Inheritance (R93): input select, tempo and latch field, against the state in force. -/
def State.inherit (s : State) (c : Context) : State × Context :=
  let s := match c.parts.tempo with
    | some v => s.changeTempo (s.tempo.preset v)
    | none => s
  let s := match c.parts.latches with
    | some f => s.withLatches (applyLatchField s.latches f)
    | none => s
  (s, { c with input := c.parts.input.getD s.scenes.playing.input })

/-- The ramp position a stage is given when its context comes to be rendered (R33, R94). -/
def Stage.setRamp (latches : Vector Latch 8) (muting : Bool) (st : Stage) : Stage :=
  { st with m := if st.engaged latches muting then 256 else 0, target := st.engaged latches muting }

/-- The mode of a switch from the costs of the contexts and the fade length (R95); trails are cut to make room for a
crossfade. -/
def switchMode (fade : BitVec 8) (cOld cNew : Nat) : SwitchMode :=
  if fade = 0 then .cut else if cOld + cNew ≤ Config.budget then .crossfade else .dip

/-- Cuts the oldest running trail until a crossfade fits the budget (R95 step 3); at most four trails run. -/
def State.cutForBudget (s : State) (cost : Nat) : Nat → State
  | 0 => s
  | n + 1 =>
    if Config.budget < cost + Config.trailCost * runningTrails s.scenes.trails ∧ 0 < runningTrails s.scenes.trails then
      (s.cutOldest (.cutting 0)).cutForBudget cost n
    else s

/-- The mixer takes the mode and F (R18). -/
def switchMixer (mode : SwitchMode) (fade : BitVec 8) : Mixer :=
  match mode with
  | .cut => { phase := .single, k := 0, length := 0 }
  | .crossfade => { phase := .crossfade, k := 0, length := 48 * fade.toNat }
  | .dip => { phase := .dipOut, k := 0, length := 24 * fade.toNat }

/-- The switch of an armed context (R93..R95). -/
def State.switchTo (s : State) (c : Context) : State :=
  let got := s.inherit c
  let s := got.1
  let c := got.2.mapStages (Stage.setRamp s.latches s.tuner.muting)
  let mode := switchMode c.fade s.scenes.playing.cost c.cost
  let before := runningTrails s.scenes.trails
  let s := match mode with
    | .crossfade => s.cutForBudget (s.scenes.playing.cost + c.cost) 4
    | _ => s
  let s := s.reportScene 2 c.number c.origin c.source
    [mode.code, c.fade, byteOf (before - runningTrails s.scenes.trails)]
  let s := s.withChain { s.chain with mixer := switchMixer mode c.fade }
  match mode with
  | .cut => s.endSwitch c none
  | .crossfade => s.setScene (.crossfade c none)
  | .dip => s.setScene (.dip c none)

/-- The armed context's switch point is this boundary (R92). -/
def Scene.switchReady : Scene → Bool
  | .armed c beat => c.timing == .now || beat
  | _ => false

/-- The armed context is switched in (R95). -/
def State.performSwitch (s : State) : State :=
  match s.scenes.scene with
  | .armed c beat => if c.timing == .now || beat then s.switchTo c else s
  | _ => s

/-- A beat event is handed to the scene manager (R92, R147). -/
def State.takeBeat (s : State) : State :=
  if s.tempo.beatDue then
    let s := s.withTempo { s.tempo with beatDue := false }
    match s.scenes.scene with
    | .armed c beat => s.setScene (.armed c (beat || c.timing == .beat))
    | _ => s
  else s

end Sys2Proof.Machine
end

