-- ==== Sys2Proof/Machine/Cues.lean ====
section
/-! DEFINITION. The cue unit (spec/07): the switch and pedal scanners, the control-port receiver, the cue input queue, filters and
actions, the cue FIFO; and what a LATCH binding does to the latch set (spec/02, 2.2). -/

namespace Sys2Proof.Machine

/-! ## The cue input queue (R133) -/

/-- The first entry that satisfies p replaced by c, if there is one. -/
def replaceFirst (p : Cue → Bool) (c : Cue) : List Cue → Option (List Cue)
  | [] => none
  | d :: rest => if p d then some (c :: rest) else (replaceFirst p c rest).map (d :: ·)

/-- The sources of the part's own scanners and of the host (R118). -/
def sourceSwitches : BitVec 4 := 0
def sourcePedals : BitVec 4 := 1
def sourceLink : BitVec 4 := 2

/-- A cue arrives (R133): it joins the queue, replaces the youngest cue of the same pedal in a full one, or is lost. -/
def CueUnit.enqueue (u : CueUnit) (c : Cue) : CueUnit :=
  if u.queue.length < Config.cueQueueLength then { u with queue := u.queue ++ [c] }
  else if c.source = sourcePedals then
    match replaceFirst (fun d => d.source == sourcePedals && d.index == c.index) c u.queue.reverse with
    | some q => { u with queue := q.reverse }
    | none => { u with lost := true }
  else { u with lost := true }

/-- A cue made now, stamped with the sample counter (R119), arrives at the queue. -/
def State.makeCue (s : State) (source : BitVec 4) (kind : CueKind) (index : BitVec 8) (value : BitVec 10) : State :=
  s.withCues (s.cues.enqueue { source := source, kind := kind, index := index, value := value, stamp := s.sampleCounter })

/-! ## The switch scanner (R120..R122) -/

/-- One reading of a switch: the debounce count and the hold count, and what they complete (R121, R122, R123). -/
def Switch.read (sw : Switch) (pressed : Bool) (debounce hold : Nat) : Switch :=
  let count := match sw.state with
    | .unknown => if sw.last = some pressed then sw.count + 1 else 1
    | .pressed => if pressed then 0 else sw.count + 1
    | .released => if pressed then sw.count + 1 else 0
  let held := if sw.holdRunning then sw.hold + 1 else sw.hold
  { sw with
    count := count
    last := some pressed
    hold := held
    debounceDue := decide (0 < count) && decide (debounce ≤ count)
    holdDue := sw.holdRunning && decide (hold ≤ held) }

/-- One reading of the eight contacts; a low contact reads as pressed (R120). -/
def CueUnit.readSwitches (u : CueUnit) (contacts : BitVec 8) : CueUnit :=
  { u with switches := Vector.ofFn fun (i : Fin 8) =>
      u.switches[i].read (!contacts.getLsbD i.val) (u.debounceMs * 48) (u.holdMs * 48) }

/-- The state a completed debounce gives a switch: that of the last reading's level, the hold count started by a press and stopped
by a release (R121). A release that completes at the very reading at which the hold count reaches its limit stops the count and drops
its SWITCH_HOLD; R122 speaks only of a debounce that completes before, and this is the model's choice (DESIGN CHOICE, log entry 13). -/
def Switch.settle (sw : Switch) : Switch :=
  let pressed := sw.last == some true
  { sw with
    state := if pressed then .pressed else .released
    count := 0
    debounceDue := false
    hold := if pressed then 0 else sw.hold
    holdRunning := pressed && sw.state == .released
    holdDue := false }

/-- The cue a completed debounce makes, if any: its kind and value (R121). -/
def Switch.debounceCue (sw : Switch) : Option (CueKind × BitVec 10) :=
  match sw.state with
  | .unknown => none
  | .released => some (.switchDown, 1023)
  | .pressed => some (.switchUp, 0)

/-- A debounce completed at the last reading is taken (R121). -/
def State.debounce (s : State) (i : Fin 8) : State :=
  let sw := s.cues.switches[i]
  if sw.debounceDue then
    let s := s.withCues { s.cues with switches := s.cues.switches.set i sw.settle }
    match sw.debounceCue with
    | some (kind, value) => s.makeCue sourceSwitches kind (BitVec.ofNat 8 i.val) value
    | none => s
  else s

/-- A hold completed at the last reading is taken (R122). -/
def State.holdCue (s : State) (i : Fin 8) : State :=
  let sw := s.cues.switches[i]
  if sw.holdDue then
    (s.withCues { s.cues with switches := s.cues.switches.set i { sw with holdRunning := false, holdDue := false } }).makeCue
      sourceSwitches .switchHold (BitVec.ofNat 8 i.val) 1023
  else s

/-- The cues of the switches below number n are made first: one reading's cues stand in switch-number order (R122). -/
def State.settleSwitches (s : State) (n : Nat) : State :=
  ((List.finRange 8).filter fun i => i.val < n).foldl (fun s i => (s.debounce i).holdCue i) s

/-! ## The pedal scanner (R124..R127) -/

/-- A pedal whose calibration is empty is silent (R125). -/
def PedalSettings.silent (p : PedalSettings) : Bool := p.hi == p.lo

/-- The value of a reading below 1,016 (R125). -/
def PedalSettings.valueOf (p : PedalSettings) (r : Nat) : Nat :=
  (clampTo 0 1023 (divHalfUp (1023 * ((r : Int) - p.lo)) ((p.hi : Int) - p.lo))).toNat

/-- A value is sent (R126). -/
def Pedal.sends (p : Pedal) (v : Nat) : Bool :=
  match p.lastSent with
  | none => true
  | some last => decide (p.settings.deadband ≤ max v last - min v last) || ((v == 0 || v == 1023) && v != last)

/-- The reading r of a pedal in a scan (R125..R127): the pedal after it, and the value of the CONTROL cue it makes, if any. A run
count of 4 leaves the plug change to PEDAL_UNPLUG or PEDAL_PLUG. -/
def Pedal.scan (p : Pedal) (r : Nat) : Pedal × Option Nat :=
  let p := { p with raw := r }
  if p.plugged then
    if 1016 ≤ r then ({ p with run := p.run + 1 }, none)
    else if p.settings.silent then ({ p with run := 0 }, none)
    else
      let v := p.settings.valueOf r
      if p.sends v then ({ p with run := 0, value := v, lastSent := some v }, some v)
      else ({ p with run := 0, value := v }, none)
  else ({ p with run := if r < 1016 then p.run + 1 else 0 }, none)

/-- A plug change waits to be taken (R127). -/
def Pedal.plugDue (p : Pedal) : Bool := decide (4 ≤ p.run)

def State.setPedal (s : State) (i : Fin 4) (p : Pedal) : State :=
  s.withCues { s.cues with pedals := s.cues.pedals.set i p }

def State.pedalCue (s : State) (i : Fin 4) (v : Nat) : State :=
  s.makeCue sourcePedals .control (BitVec.ofNat 8 i.val) (BitVec.ofNat 10 v)

/-- The pedals of a scan read in order; the scan waits at one whose plug change is due, so that the cues stand in pedal order
(R124, R127; log entry 13). -/
def State.scanPedals (s : State) : List (Fin 4) → State
  | [] => s.withCues { s.cues with scanAt := none }
  | i :: rest =>
    if !s.cues.pedals[i].settings.enabled then s.scanPedals rest
    else
      let got := s.cues.pedals[i].scan s.pins.pedals[i].toNat
      let s := s.setPedal i got.1
      if got.1.plugDue then s.withCues { s.cues with scanAt := some i }
      else match got.2 with
        | some v => (s.pedalCue i v).scanPedals rest
        | none => s.scanPedals rest

/-- The pedals after number i. -/
def pedalsAfter (i : Fin 4) : List (Fin 4) := (List.finRange 4).filter fun j => i < j

/-- A PEDAL report (R127, R195). -/
def State.reportPedal (s : State) (i : Fin 4) (p : Pedal) : State :=
  s.post .pedal 0 ([byteOf i.val, flagByte (!p.plugged)] ++ bytesLE 2 p.raw)

/-- The scan waits at pedal i. -/
def State.scanWaitsAt (s : State) (i : Fin 4) : Bool := s.cues.scanAt == some i && s.cues.pedals[i].plugDue

/-- Four full-scale readings make a pedal UNPLUGGED, and the scan goes on (R127). -/
def State.takeUnplug (s : State) (i : Fin 4) : State :=
  let p := s.cues.pedals[i]
  if s.scanWaitsAt i && p.plugged then
    let p := { p with plugged := false, run := 0 }
    ((s.setPedal i p).reportPedal i p).scanPedals (pedalsAfter i)
  else s

/-- Four in-range readings make a pedal PLUGGED; its value is computed and sent, and the scan goes on (R127). -/
def State.takePlug (s : State) (i : Fin 4) : State :=
  let p := s.cues.pedals[i]
  if s.scanWaitsAt i && !p.plugged then
    let p := { p with plugged := true, run := 0 }
    if p.settings.silent then ((s.setPedal i p).reportPedal i p).scanPedals (pedalsAfter i)
    else
      let v := p.settings.valueOf p.raw
      let p := { p with value := v, lastSent := some v }
      (((s.setPedal i p).reportPedal i p).pedalCue i v).scanPedals (pedalsAfter i)
  else s

/-- The plug change at which the scan waits is taken, and those that the rest of the scan meets; there are four pedals. -/
def State.settlePlugs (s : State) : Nat → State
  | 0 => s
  | n + 1 =>
    match s.cues.scanAt with
    | some i => ((s.takeUnplug i).takePlug i).settlePlugs n
    | none => s

/-- A scan is due (R124). -/
def State.scanDue (s : State) : Bool := s.ready && s.cues.countdown == 0

/-- A scan of the pedals, and the next one an interval later (R124, R128). -/
def State.takePedalScan (s : State) : State :=
  if s.scanDue then
    let s := s.settlePlugs 4
    (s.withCues { s.cues with countdown := s.cues.scanMs * 48 }).scanPedals (List.finRange 4)
  else s

/-! ## The control-port receiver (R130..R132, R193) -/

def CueUnit.discard (u : CueUnit) : CueUnit := { u with discards := countUp u.discards }

/-- A complete frame is judged (R132): its cue, or none when it is discarded. -/
def frameCue (b0 b1 b2 b3 : Byte) (stamp : Stamp) : Option Cue :=
  let unit := b0.toNat % 16
  match cueKindOf (b0.toNat / 16 % 8) with
  | some kind =>
    if unit < 3 then none
    else some
      { source := BitVec.ofNat 4 unit
        kind := kind
        index := BitVec.ofNat 8 (b1.toNat % 128)
        value := BitVec.ofNat 10 (b2.toNat % 128 * 8 + b3.toNat % 8)
        stamp := stamp }
  | none => none

/-- A byte of the control port is taken at its stop bit (R130, R131); before requests are accepted it is discarded uncounted. -/
def State.receiveByte (s : State) (b : Byte) (framingError : Bool) : State :=
  if !s.ready then s
  else
    let u := s.cues
    if framingError then
      s.withCues (if u.frame.isEmpty then u else { u.discard with frame := [] })
    else if b.msb then
      s.withCues (if u.frame.isEmpty then { u with frame := [b] } else { u.discard with frame := [b] })
    else match u.frame with
      | [] => s.withCues u.discard
      | [b0, b1, b2] =>
        let u := { u with frame := [] }
        match frameCue b0 b1 b2 b s.sampleCounter with
        | some c => s.withCues (u.enqueue c)
        | none => s.withCues u.discard
      | partialFrame => s.withCues { u with frame := partialFrame ++ [b] }

/-! ## Latches (R28, R29) -/

/-- A LATCH binding acts on its latch by mode and cue kind (R28). -/
def Latch.bind (l : Latch) (mode : LatchMode) (c : Cue) : Latch :=
  match mode, c.kind with
  | .toggle, .switchDown => { value := !l.value, hold := none }
  | .momentary, .switchDown => { value := true, hold := some { source := c.source, index := c.index } }
  | .set, .switchDown => { value := true, hold := none }
  | .clear, .switchDown => { value := false, hold := none }
  | .threshold, .control => { value := decide (512 ≤ c.value.toNat), hold := none }
  | _, _ => l

/-- A SWITCH_UP releases every latch whose hold record names its source and index (R29). -/
def Latch.release (l : Latch) (c : Cue) : Latch :=
  if l.hold = some { source := c.source, index := c.index } then { value := false, hold := none } else l

def releaseHolds (ls : Vector Latch 8) (c : Cue) : Vector Latch 8 :=
  if c.kind = .switchUp then Vector.ofFn fun (i : Fin 8) => ls[i].release c else ls

/-! ## Filters and actions (R136..R141) -/

/-- A cue's identifier (R118). -/
def Cue.identifier (c : Cue) : BitVec 16 :=
  BitVec.ofNat 16 (c.source.toNat * 4096 + c.kind.code * 256 + c.index.toNat)

/-- The mask a filter selects (R136). -/
def CueUnit.maskOf (u : CueUnit) : MaskSel → BitVec 16
  | .mask n => u.masks[n]
  | .exact => 0xFFFF

/-- An enabled filter takes a cue (R136). -/
def CueUnit.takes (u : CueUnit) (f : Filter) (c : Cue) : Bool :=
  f.enable && (c.identifier ^^^ f.identifier) &&& u.maskOf f.mask == 0

/-- The filter used for a cue: the lowest-numbered enabled one that it matches (R136). -/
def CueUnit.matching (u : CueUnit) (c : Cue) : Option (Fin 24) :=
  (List.finRange 24).find? fun n => u.takes u.filters[n] c

/-- The input value of a PARAM target, if the cue's kind gives one (R139). -/
def Cue.paramInput (c : Cue) : Option Int :=
  match c.kind with
  | .switchDown => some 1023
  | .switchUp => some 0
  | .control => some c.value.toNat
  | _ => none

/-- The value a PARAM target writes (R139). -/
def mapParam (low high v : Int) : Int := low + divHalfUp ((high - low) * v) 1023

/-- One binding entry is run on a cue (R28, R139). -/
def State.runBinding (s : State) (c : Cue) (t : Target) : State :=
  match t with
  | .latch l mode => s.withLatches (s.latches.set l (s.latches[l].bind mode c))
  | .param stage id low high =>
    match c.paramInput with
    | some v => s.withScenes (s.scenes.writeParam stage id (mapParam low high v))
    | none => s

/-- BIND n: the entries numbered n of the edit context, in list order (R139). -/
def State.runBindings (s : State) (n : Nat) (c : Cue) : State :=
  (s.scenes.editContext.bindings.filter fun b => b.number == n).foldl (fun s b => s.runBinding c b.target) s

/-- The slot number of a RECALL action (R140). -/
def recallSlot (arg : Fin 128) (c : Cue) : Nat :=
  match c.kind with
  | .program => arg.val + c.value.toNat
  | .control => arg.val + c.value.toNat
  | _ => arg.val

/-- A filter's action is carried out (R139..R141). -/
def State.act (s : State) (a : Action) (c : Cue) : State :=
  match a with
  | .none => s
  | .bind n => s.runBindings n.val c
  | .startRecall arg => if h : recallSlot arg c < 128 then s.cueRecall ⟨recallSlot arg c, h⟩ c else s
  | .tap => s.takeTap c.stamp
  | .clock => s.takeClock c.stamp
  | .tuner => s.toggleTuner

/-! ## The cue FIFO (R142, R144) -/

/-- A CUES report: the number of entries and the overflow flag (R144, R195). -/
def State.reportCues (s : State) : State :=
  s.post .cues 0 [byteOf s.cues.fifo.length, flagByte s.cues.overflow]

def State.reportCuesIf (s : State) (cond : Bool) : State := if cond then s.reportCues else s

/-- A copied cue is added, or lost with the overflow flag set (R142); reaching the watermark posts CUES (R144). -/
def State.copyCue (s : State) (c : Cue) (n : Fin 24) : State :=
  if s.cues.fifo.length < Config.cueFifoLength then
    let s := s.withCues { s.cues with fifo := s.cues.fifo ++ [{ cue := c, filter := n }] }
    s.reportCuesIf (s.cues.fifo.length == s.cues.watermark)
  else s.withCues { s.cues with overflow := true }

/-- A cue that has left the queue is handled whole (R135). -/
def State.handleCue (s : State) (c : Cue) : State :=
  let s := s.withLatches (releaseHolds s.latches c)
  match s.cues.matching c with
  | none => s
  | some n =>
    let f := s.cues.filters[n]
    let s := s.act f.action c
    if f.copy then s.copyCue c n else s

/-- The cue unit takes the head of the queue (R135). -/
def State.takeCue (s : State) : State :=
  match s.cues.queue with
  | [] => s
  | c :: rest => (s.withCues { s.cues with queue := rest }).handleCue c

end Sys2Proof.Machine
end

