-- ==== Sys2Proof/Machine/PresetStore.lean ====
section
/-! DEFINITION. The preset store (spec/06): the write engine and its completions, the directory, validity of the slots, and the
settings that the setup record keeps. -/

namespace Sys2Proof.Machine

/-! ## Flash and directory -/

/-- A slot's state marker destroyed at the start of a write (R112 step 1). -/
def Store.destroyMarker (st : Store) : StoreOp → Store
  | .store n => { st with presets := st.presets.set n { st.presets[n] with valid := false } }
  | .erase n => { st with presets := st.presets.set n { st.presets[n] with valid := false } }
  | .tableSave n => { st with tables := st.tables.set n { st.tables[n] with valid := false } }
  | .setupSave => { st with setup := { st.setup with valid := false } }

/-- A slot's sector erased (R112 step 1): marker, header and record are blank from the erase completion. -/
def Store.eraseSector (st : Store) : StoreOp → Store
  | .store n => { st with presets := st.presets.set n { valid := false, length := 0, bytes := [] } }
  | .erase n => { st with presets := st.presets.set n { valid := false, length := 0, bytes := [] } }
  | .tableSave n => { st with tables := st.tables.set n { valid := false, length := 0, entries := blankTable } }
  | .setupSave => { st with setup := blankSetup }

/-- The write image programmed into its slot, the marker VALID only when the bytes read back agreed (R112 steps 3 to 5). What a slot
whose bytes did not agree holds under its ERASED marker the spec does not say; that it is the image's own length and bytes is the
model's choice (DESIGN CHOICE, log entry 34). -/
def Store.program (st : Store) (op : StoreOp) (image : WriteImage) (verified : Bool) : Store :=
  match op, image with
  | .store n, .preset bs => { st with presets := st.presets.set n { valid := verified, length := bs.length, bytes := bs } }
  | .tableSave n, .table es =>
    { st with tables := st.tables.set n { valid := verified, length := Config.tableRecordBytes, entries := es } }
  | .setupSave, .setup r => { st with setup := { valid := verified, length := Config.setupRecordBytes, record := r } }
  | _, _ => st

def Store.setEntry (st : Store) (n : Fin 128) (e : Option DirEntry) : Store :=
  { st with directory := st.directory.set n e }

/-- The write engine goes to WRITING in phase ERASING with its image fixed (R107, R112). -/
def Store.startWrite (st : Store) (op : StoreOp) (image : WriteImage) : Store :=
  { st.destroyMarker op with engine := .writing op .erasing image }

def Store.idle (st : Store) : Bool := st.engine == .idle

/-- A preset slot as the directory scan judges it (R105). -/
def FlashSlot.judge (f : FlashSlot) : Option DirEntry :=
  if f.valid && decide (1 ≤ f.length) && decide (f.length ≤ Config.recordArea) && decide (f.length ≤ f.bytes.length) &&
      (validate f.record).isOk then
    some { length := f.length, name := readName f.record }
  else none

/-- A table slot is valid (R106). -/
def TableSlot.good (t : TableSlot) : Bool :=
  t.valid && t.length == Config.tableRecordBytes &&
    t.entries.toList.all fun e => decide (sampleMin ≤ e) && decide (e ≤ sampleMax)

/-- The tuner settings lie in the ranges of R158. -/
def TunerSettings.inRange (t : TunerSettings) : Bool :=
  t.toggle != .off && decide (4300 ≤ t.reference) && decide (t.reference ≤ 4500) && decide (1 ≤ t.window) &&
    decide (t.window ≤ 50) && (t.runLength == 2 || t.runLength == 4 || t.runLength == 8 || t.runLength == 16) &&
    decide (0 ≤ t.threshold) && decide (t.threshold ≤ 8388607)

/-- A pedal's settings lie in the ranges of R124. -/
def PedalSettings.inRange (p : PedalSettings) : Bool :=
  decide (p.lo ≤ 1023) && decide (p.hi ≤ 1023) && decide (1 ≤ p.deadband) && decide (p.deadband ≤ 32)

/-- The setup's settings lie in the ranges their chapters give (R106). -/
def Settings.inRange (v : Settings) : Bool :=
  v.tuner.inRange && decide (2 ≤ v.debounceMs) && decide (v.debounceMs ≤ 40) && decide (300 ≤ v.holdMs) &&
    decide (v.holdMs ≤ 2000) && decide (1 ≤ v.scanMs) && decide (v.scanMs ≤ 20) &&
    v.pedals.toList.all PedalSettings.inRange && decide (1 ≤ v.watermark) && decide (v.watermark ≤ 32)

/-- The setup slot is valid (R106). -/
def SetupSlot.good (t : SetupSlot) : Bool :=
  t.valid && t.length == Config.setupRecordBytes && t.record.settings.inRange

/-! ## Settings of the setup (R106) -/

/-- The settings as their blocks hold them (R111). -/
def State.settings (s : State) : Settings where
  tuner := s.tuner.settings
  debounceMs := s.cues.debounceMs
  holdMs := s.cues.holdMs
  scanMs := s.cues.scanMs
  pedals := Vector.ofFn fun (i : Fin 4) => s.cues.pedals[i].settings
  filters := s.cues.filters
  masks := s.cues.masks
  watermark := s.cues.watermark

/-- The settings loaded into their blocks at start-up step 3 (R198). -/
def State.loadSettings (s : State) (v : Settings) : State :=
  (s.withTuner { s.tuner with settings := v.tuner }).withCues { s.cues with
    filters := v.filters
    masks := v.masks
    watermark := v.watermark
    debounceMs := v.debounceMs
    holdMs := v.holdMs
    scanMs := v.scanMs
    pedals := Vector.ofFn fun (i : Fin 4) => { s.cues.pedals[i] with settings := v.pedals[i] } }

/-! ## Completions (R112) -/

/-- A STORE_DONE report: operation, target, outcome (R112, R195). -/
def State.reportStoreDone (s : State) (op : StoreOp) (verified : Bool) : State :=
  s.post .storeDone 0 [op.codes.1, op.codes.2, flagByte (!verified)]

/-- A load that waited for the bank reads now (R113). -/
def State.resumeLoad (s : State) : State :=
  match s.scenes.scene with
  | .loading _ .waiting => s.takeLoadRead
  | _ => s

/-- The completion of a write: the engine is IDLE, the write image empty, STORE_DONE posted, a waiting read taken (R112, R113). -/
def State.completeWrite (s : State) (st : Store) (op : StoreOp) (verified : Bool) : State :=
  ((s.withStore { st with engine := .idle }).reportStoreDone op verified).resumeLoad

/-- The erase completion (R112 step 2): an ERASE completes, another write goes to PROGRAMMING. -/
def State.takeEraseComplete (s : State) : State :=
  match s.store.engine with
  | .writing op .erasing image =>
    let st := s.store.eraseSector op
    match op with
    | .erase _ => s.completeWrite st op true
    | _ => s.withStore { st with engine := .writing op .programming image }
  | _ => s

/-- The completion of programming and verify (R112 steps 3 to 6): a STORE that fails its verify becomes EMPTY in the directory. -/
def State.takeWriteComplete (s : State) (verified : Bool) : State :=
  match s.store.engine with
  | .writing op .programming image =>
    let st := s.store.program op image verified
    let st := match op, verified with
      | .store n, false => st.setEntry n none
      | _, _ => st
    s.completeWrite st op verified
  | _ => s

end Sys2Proof.Machine
end

