-- ==== Sys2Proof/Machine/Blocks.lean ====
section
/-! DEFINITION. The block boundary and the audio frame (spec/01 1.3, 1.10, 1.11; spec/11 11.1): what ends a block, what starts one,
one rendered sample, and the events that are due before the next frame. -/

namespace Sys2Proof.Machine

/-! ## Which contexts are rendered (R18..R20, R81) -/

/-- The mixer's phase renders the playing context; the incoming one. -/
def MixPhase.rendersPlaying : MixPhase → Bool
  | .dipIn => false
  | _ => true

def MixPhase.rendersIncoming : MixPhase → Bool
  | .crossfade => true
  | .dipIn => true
  | _ => false

/-- The playing context is rendered in the block after this boundary. -/
def Chain.blockRendersPlaying (c : Chain) : Bool := c.hasContext && c.mixer.phase.rendersPlaying

/-- The incoming context is rendered in at least one sample of the block after this boundary (R5, R41): also when a dip's OUT
phase ends within it (R20). The block is taken to have 48 samples; that this holds of the 16-sample block at the sample counter's wrap
too is the model's choice (DESIGN CHOICE, log entry 12). -/
def Chain.blockRendersIncoming (c : Chain) : Bool :=
  c.mixer.phase.rendersIncoming ||
    (c.mixer.phase == .dipOut && decide (c.mixer.length - c.mixer.k < Config.blockSamples))

/-! ## The readers of the lines (R51) -/

/-- The age of the next read of a context's stage n, if that stage is a DELAY. -/
def Context.readAge (c : Context) (n : Nat) : Option Int :=
  match c.stages[n]? with
  | some st => st.lineOffset.map fun p => (p.2 : Int)
  | none => none

/-- A trail's next read, and whether its fade runs (R47, R49). -/
def Trail.reader (t : Trail) : Reader :=
  match t.state with
  | .cutting j => readerCutting t.offset j
  | _ => readerAt t.offset

/-- The reader of a DELAY stage of a context that is rendered; one that is not rendered does not fetch (R51). -/
def Context.reader (c : Context) (n : Nat) (rendered : Bool) : Reader :=
  match rendered, c.readAge n with
  | true, some age => readerAt age
  | _, _ => Reader.idle

/-- The reader of a line by its holder, between two samples (R51). -/
def State.readerOf (s : State) (line : Fin 4) : Reader :=
  match s.delay.lines[line].holder with
  | .free => Reader.idle
  | .playing n => s.scenes.playing.reader n (s.chain.hasContext && s.chain.mixer.phase.rendersPlaying)
  | .incoming n =>
    match s.scenes.scene.built with
    | some c => c.reader n s.chain.mixer.phase.rendersIncoming
    | none => Reader.idle
  | _ => ((s.scenes.trails.find? fun t => t.line == line).map Trail.reader).getD Reader.idle

/-- The readers of the four lines. -/
def State.readers (s : State) : Vector Reader 4 := Vector.ofFn s.readerOf

/-- The arbiter is given the requests that stand (R54; log entry 15). -/
def State.arbitrate (s : State) : State := s.withDelay (s.delay.arbitrate s.readers)

/-! ## The end of a block -/

/-- The LEVELS report at a boundary (R23): posted when a flag rose in the block just ended, or at the first boundary after LEVELS
was enabled; all thirteen flags are then cleared. -/
def State.levels (s : State) : State :=
  let c := s.chain
  let calm := { c with clipRose := false, levelsCatchUp := false }
  if (c.clipRose || c.levelsCatchUp) && c.anyClip && s.link.enabled .levels then
    (s.withChain { calm with stageClip := 0, mainClip := false }).post .levels 0 c.levelsPayload
  else s.withChain calm

/-- What the boundary makes of the block just ended, once: GATE transitions (R15), the trails' accounts (R48), LEVELS (R23). A
SWITCH_END or a SWITCH_POINT does it before the BLOCK_BOUNDARY of the same boundary; a REPORTS that enables LEVELS between the two has
its catch-up report at the boundary after, since this one has looked at its flags already: the model's choice (DESIGN CHOICE, log entry
14). -/
def State.closeBlock (s : State) : State :=
  if s.chain.blockClosed then s
  else
    let m := s.scenes
    let s := (s.withScenes { m with
      playing := m.playing.mapStages Stage.closeBlock
      scene := m.scene.mapIncoming fun c => c.mapStages Stage.closeBlock
      trails := m.trails.map Trail.closeBlock }).levels
    s.withChain { s.chain with blockClosed := true }

/-- A switch has rendered its last sample (R18). -/
def State.switchEndDue (s : State) : Bool := s.chain.mixer.done && s.scenes.scene.incoming.isSome

/-- The end of a switch, after the account of its last block (R18, R23, R99). R18 has a switch always end at a block boundary. A
switch that is under way when the sample counter wraps, where a block has 16 samples, reaches its last sample inside a block; that
it ends there, with the account of the block so far, and not at the next boundary is the model's choice (DESIGN CHOICE, log entry
12). -/
def State.takeSwitchEnd (s : State) : State :=
  if s.switchEndDue then s.closeBlock.finishSwitch else s

/-- A switch point stands here (R92): a boundary that has not been taken, and an armed context whose timing has come, by a beat
event of the block just ended too. -/
def State.switchDue (s : State) : Bool := s.boundaryDue && s.takeBeat.scenes.scene.switchReady

/-- The switch point, at a boundary that has not been taken (R92, R95). A beat event of the block just ended is handed over
first, since this boundary is the one that ends its block. A NOW load that completes at a boundary of which the SWITCH_END or an
earlier SWITCH_POINT has been taken but not the BLOCK_BOUNDARY takes this boundary as its switch point, not the one after it: the
model's choice (DESIGN CHOICE, log entry 14). The ramp positions are set from the latches, T and engage fields of this moment (R33,
R94), whatever changes before the BLOCK_BOUNDARY (see `State.openBlock`). -/
def State.takeSwitchPoint (s : State) : State :=
  if s.switchDue then s.takeBeat.closeBlock.performSwitch else s

/-- A dip's OUT phase has rendered its last sample (R20). -/
def Mixer.outDone (m : Mixer) : Bool := m.phase == .dipOut && decide (m.length ≤ m.k)

/-- The IN phase of a dip begins (R20). Inside a block the incoming context goes on with the parameters in force since the boundary (R3;
DESIGN CHOICE, log entry 37). -/
def State.takeDipIn (s : State) : State :=
  if s.chain.mixer.outDone then s.withChain { s.chain with mixer := { s.chain.mixer with phase := .dipIn, k := 0 } } else s

/-! ## The start of a block -/

/-- A trail whose cut waited for this boundary begins its fade (R49). -/
def Trail.openBlock (t : Trail) : Trail :=
  match t.state with
  | .cutWait => { t with state := .cutting 0 }
  | _ => t

/-- The block starts (R3): a context handed over is rendered from here, trails' fades begin, and each context takes its parameters,
targets, gains and offsets. Every target is taken from the latches, T and engage fields as they stand here (R32), also where one of
them has changed since the SWITCH_POINT of the same boundary set the incoming context's ramp positions: the model's choice (DESIGN
CHOICE, log entry 14). So are the DELAY targets from the beat length as it stands here (R41), also where a tap, a lock or a TEMPO_SET
has changed it since the SWITCH_POINT of the same boundary handed a preset tempo over (R93, R148, R154): the model's choice (DESIGN
CHOICE, log entry 14). -/
def State.openBlock (s : State) : State :=
  let s := s.withChain { s.chain with
    hasContext := s.chain.hasContext || s.chain.handover, handover := false, boundaryTaken := true }
  let open' (rendered : Bool) (st : Stage) : Stage :=
    st.openBlock rendered s.latches s.tuner.muting s.tempo.beat
  let m := s.scenes
  let m' := { m with
    playing := m.playing.mapStages (open' s.chain.blockRendersPlaying)
    scene := m.scene.mapIncoming fun c => c.mapStages (open' s.chain.blockRendersIncoming)
    trails := m.trails.map Trail.openBlock }
  let d := refetchChanged s.delay m.playing.stages m'.playing.stages
  let d := match m.scene.built, m'.scene.built with
    | some c, some c' => refetchChanged d c.stages c'.stages
    | _, _ => d
  ((s.withScenes m').withDelay d).arbitrate

/-- A block boundary (R3): a beat event of the block just ended is handed over (R92, R147), that block is closed, a switch that ends
or begins here is carried out, the next block is opened (log entry 14). -/
def State.takeBoundary (s : State) : State :=
  if s.boundaryDue then s.takeBeat.closeBlock.takeSwitchEnd.takeSwitchPoint.takeDipIn.openBlock else s

/-- A gate whose hold counter has reached 0 enters CLOSING (R15). -/
def State.takeGateHoldEnd (s : State) (incoming : Bool) (stage : Nat) : State :=
  let endHold (c : Context) : Context :=
    { c with stages := match c.stages[stage]? with
        | some st => c.stages.set stage st.holdEnd
        | none => c.stages }
  if incoming then s.withScenes { s.scenes with scene := s.scenes.scene.mapIncoming endHold }
  else s.withScenes { s.scenes with playing := endHold s.scenes.playing }

/-- The same for every gate that waits. -/
def State.takeGateHoldEnds (s : State) : State :=
  s.withScenes { s.scenes with
    playing := s.scenes.playing.mapStages Stage.holdEnd
    scene := s.scenes.scene.mapIncoming fun c => c.mapStages Stage.holdEnd }

/-! ## The events that are due before the next frame (log entries 2 and 13) -/

def State.takeTrailFadeEnds (s : State) : State := (List.finRange 4).foldl State.takeTrailFadeEnd s

def State.takeTrailOwnEnds (s : State) : State := (List.finRange 4).foldl State.takeTrailOwnEnd s

/-- The load completes as soon as its lines are there (R89, R90). -/
def State.completeLoadIfDue (s : State) : State := if s.loadDue then s.takeLoadComplete else s

/-- Every event that has come about and has not been taken by its own command is taken, in this order. A boundary that stands here
is taken among them, so that it precedes its frame (R196). The requests that these events raise are judged together (R54; log entry
15). -/
def State.settle (s : State) : State :=
  let s := ((s.settleSwitches 8).settlePlugs 4).takePedalScan.settlePlugs 4
  let s := s.takeTunerRun.takeTunerLoss
  let s := s.takeBeat.takeClockLock.takeClockUpdate.takeClockLoss
  let s := s.takeDipIn.takeTrailFadeEnds.completeLoadIfDue.takeSwitchEnd
  let s := s.takeBoundary
  s.takeGateHoldEnds.takeTrailOwnEnds.arbitrate

/-! ## One rendered sample (R4, R18..R21) -/

/-- One channel of the mixed pair at sample k of a phase of n samples (R19, R20). -/
def crossfadeMix (old new : Int) (k n : Nat) : Int := old + ((new - old) * k + (n / 2 : Nat)) / n

def dipOutMix (old : Int) (k n : Nat) : Int := old + ((0 - old) * k + (n / 2 : Nat)) / n

def dipInMix (new : Int) (k n : Nat) : Int := (new * k + (n / 2 : Nat)) / n

/-- The mixed pair from the pairs of the playing and the incoming context (R18..R20); k counts from 1 in its phase. -/
def Mixer.mix (m : Mixer) (old new : Pair) : Pair :=
  match m.phase with
  | .single => old
  | .crossfade => (crossfadeMix old.1 new.1 (m.k + 1) m.length, crossfadeMix old.2 new.2 (m.k + 1) m.length)
  | .dipOut => (dipOutMix old.1 (m.k + 1) m.length, dipOutMix old.2 (m.k + 1) m.length)
  | .dipIn => (dipInMix new.1 (m.k + 1) m.length, dipInMix new.2 (m.k + 1) m.length)

/-- A sample of the phase has been rendered. -/
def Mixer.advance (m : Mixer) : Mixer :=
  match m.phase with
  | .single => m
  | _ => { m with k := m.k + 1 }

/-- What one rendered sample of a context leaves. -/
structure ContextOut where
  context : Context
  port : Port
  pair : Pair
  clips : BitVec 12
  sumClip : Bool

/-- One sample of a context (R4). -/
def Context.render (c : Context) (banks : Vector Table 8) (k : Nat) (p : Port) (ab : Pair) : ContextOut :=
  let input := c.input.take ab
  let o := renderStages banks k c.stages p input.1
  { context := { c with stages := o.stages }
    port := o.port
    pair := o.pair
    clips := clipMask o.clips
    sumClip := input.2 }

/-- What a rendered sample leaves on its way through contexts and trails: the state but for the delay memory, the port, and the pair
of the context just rendered. -/
structure SampleOut where
  state : State
  port : Port
  pair : Pair

/-- The playing context's sample, when the phase renders it: its flags are raised (R22). -/
def State.renderPlaying (s : State) (k : Nat) (p : Port) (ab : Pair) : SampleOut :=
  if s.chain.mixer.phase.rendersPlaying then
    let o := s.scenes.playing.render s.chain.banks k p ab
    { state := (s.withScenes { s.scenes with playing := o.context }).withChain (s.chain.raise o.clips o.sumClip)
      port := o.port
      pair := o.pair }
  else { state := s, port := p, pair := (0, 0) }

/-- The incoming context's sample, when the phase renders it; it sets no flag (R1, R4). -/
def State.renderIncoming (s : State) (k : Nat) (p : Port) (ab : Pair) : SampleOut :=
  match s.chain.mixer.phase.rendersIncoming, s.scenes.scene.built with
  | true, some c =>
    let o := c.render s.chain.banks k p ab
    { state := s.withScenes { s.scenes with scene := s.scenes.scene.mapIncoming fun _ => o.context }
      port := o.port
      pair := o.pair }
  | _, _ => { state := s, port := p, pair := (0, 0) }

/-- The main pair from the mixed pair and the trails' sums, with the main clip flag (R21). -/
def mainSum (mixed trails : Pair) : Pair × Bool :=
  ((sat (mixed.1 + trails.1), sat (mixed.2 + trails.2)), clips (mixed.1 + trails.1) || clips (mixed.2 + trails.2))

/-- One rendered sample: contexts, mixer, trails, main sum (R4, R18..R21). Without a context the main pair is 0 (R2). -/
def State.renderSample (s : State) (k : Nat) (ab : Pair) : State × Pair :=
  if !s.chain.hasContext then (s, (0, 0))
  else
    let old := s.renderPlaying k { delay := s.delay, readers := s.readers } ab
    let new := old.state.renderIncoming k old.port ab
    let s := new.state
    let mixed := s.chain.mixer.mix old.pair new.pair
    let t := renderTrails s.scenes.trails new.port
    let main := mainSum mixed t.2.2
    let s := (s.withScenes { s.scenes with trails := t.1 }).withDelay t.2.1.delay
    (s.withChain { s.chain.raise 0 main.2 with mixer := s.chain.mixer.advance }, main.1)

/-! ## The frame (R196) -/

/-- The inputs of the frame 48 frames before this one, from which its sample is rendered (R196). -/
def Chain.delayedInput (c : Chain) : Pair := c.history.headD (0, 0)

/-- IN-A and IN-B of a frame, from slots 0 and 1 of ADIN; slots 2 and 3 are not examined (R196). -/
def inputPair (f : FrameInputs) : Pair := (ofSlot f.adin[0], ofSlot f.adin[1])

/-- The part of a frame that renders: one sample from the inputs of 48 frames before, sent on DAOUT; the inputs of this frame are
kept for the next block. -/
def State.frameRender (s : State) (f : FrameInputs) : State :=
  let out := s.renderSample (s.sampleCounter.toNat % Config.blockSamples) s.chain.delayedInput
  let s := out.1
  (s.withPins { s.pins with outL := out.2.1, outR := out.2.2, contacts := f.contacts, pedals := f.pedals }).withChain
    { s.chain with
      history := s.chain.history.drop 1 ++ [inputPair f]
      blockClosed := false
      boundaryTaken := false }

/-- The part of a frame that counts: the sample counter, the tempo unit, the tuner (R119, R147, R164). -/
def State.frameCount (s : State) (f : FrameInputs) : State :=
  let s := s.withCounter (s.sampleCounter + 1)
  (s.withTempo s.tempo.advance).withTuner (s.tuner.sample s.sampleCounter (inputPair f))

/-- The scanners' part of a frame, once requests are accepted (R120, R124). -/
def State.frameScan (s : State) (f : FrameInputs) : State :=
  if s.ready then
    let u := s.cues.readSwitches f.contacts
    s.withCues { u with countdown := u.countdown - 1 }
  else s

/-- One frame of the audio port (R196): the events that are due are taken, then one sample is rendered and everything that counts
in samples moves by one. -/
def State.takeFrame (s : State) (f : FrameInputs) : State :=
  (((s.settle.frameRender f).frameCount f).frameScan f).arbitrate

end Sys2Proof.Machine
end

