-- ==== Sys2Proof/Machine/StartUp.lean ====
section
/-! DEFINITION. The two resets and the start-up sequence (spec/11 11.2, 11.3): each completion of flash or memory work takes its own
step and those after it that need no work (log entry 27). -/

namespace Sys2Proof.Machine

/-! ## Resets (R197) -/

/-- Every block takes its reset values. The flash, the banks until step 4, the pins' levels and what the caller keeps stay:
the memory-present flag, the enable mask and the inputs of the last frames (R58, R186, R196). -/
def State.resetBlocks (s : State) (powerOn present : Bool) (mask : BitVec 16) (history : List Pair) : State :=
  { s with
    sampleCounter := 0
    startUp := startUpReset powerOn
    pins := { s.pins with outL := 0, outR := 0, sent := [] }
    chain := chainReset s.chain.banks history
    latches := latchesReset
    delay := delayReset present s.delay.mem
    scenes := sceneReset
    store := { s.store with directory := directoryReset, engine := .idle }
    upload := []
    cues := cuesReset
    tempo := tempoReset
    tuner := tunerReset
    link := linkReset mask }

/-- RESETn goes low (R197): the part is held, a flash write in flight ends where it stands (R116), the directory, which the next
start-up rebuilds, is empty, the port's burst and a link transaction are discarded (R176), and DAOUT is driven low. The slot of a write
cut short reads ERASED (R116); that behind its marker it holds what it held before the write, or the blank form after the erase
completion, is the model's choice (DESIGN CHOICE, log entry 38). -/
def State.assertReset (s : State) : State :=
  { s with
    startUp := { s.startUp with phase := .held }
    pins := { s.pins with outL := 0, outR := 0, sent := [] }
    delay := { s.delay with burst := none }
    store := { s.store with directory := directoryReset, engine := .idle }
    link := { s.link with reading := none } }

/-- RESETn rises (R197): all nine report kinds are enabled (R186) and the memory-present flag is clear until the probe (R58). -/
def State.releaseReset (s : State) : State :=
  if s.inReset then s.resetBlocks true false maskDefault silence else s

/-- A RESET request that is carried out (R197): the memory-present flag (R58), the enable mask (R186) and the inputs of the last
frames (R196) are kept. -/
def State.requestReset (s : State) : State := s.resetBlocks false s.delay.present s.link.mask s.chain.history

/-! ## The steps of the start-up sequence (R198) -/

def State.setPhase (s : State) (p : StartPhase) : State := s.withStartUp { s.startUp with phase := p }

/-- The directory rebuilt from the flash (R105). -/
def Store.scan (st : Store) : Store :=
  { st with directory := Vector.ofFn fun (i : Fin 128) => st.presets[i].judge }

/-- Step 2 (R198). -/
def State.scanDirectory (s : State) : State := (s.withStore s.store.scan).setPhase .setup

/-- Step 3 (R198): the setup's settings and power-on preset, or the defaults and NONE. -/
def State.loadSetup (s : State) : State :=
  let slot := s.store.setup
  let s := s.loadSettings (if slot.good then slot.record.settings else settingsDefault)
  s.withStartUp { s.startUp with
    phase := .banks
    setupValid := slot.good
    preset := if slot.good then slot.record.powerOn else none }

/-- The identity curve (R10). -/
def identityTable : Table :=
  Vector.ofFn fun (i : Fin 257) => if i.val = 256 then sampleMax else ((i.val : Int) - 128) * 65536

/-- Bank n as step 4 loads it (R10). -/
def Store.bank (st : Store) (n : Fin 8) : Table := if st.tables[n].good then st.tables[n].entries else identityTable

/-- The mask of the table slots that are loaded (R199). -/
def Store.loadedMask (st : Store) : BitVec 8 :=
  BitVec.ofNat 8 (((List.finRange 8).filter fun n => st.tables[n].good).foldl (fun m n => m + 2 ^ n.val) 0)

/-- Step 6 (R198): the playing context is handed to the chain engine, its ramp positions set (R33). -/
def State.handOver (s : State) : State :=
  (s.withScenes { s.scenes with
    playing := s.scenes.playing.mapStages (Stage.setRamp s.latches s.tuner.muting) }).withChain
      { s.chain with handover := true }

/-- Step 7 recalls the power-on preset (R198). -/
def State.recallsPreset (s : State) : Bool := (s.startUp.preset.map s.store.slotValid).getD false

/-- Step 7 (R198): the load of the power-on preset is held until step 9. -/
def State.recallPreset (s : State) : State :=
  match s.startUp.preset with
  | some n => if s.store.slotValid n then s.acceptRecall (.slot n) .link (some .now) (some 0) .held else s
  | none => s

/-- Step 8 (R199): the STARTED report; `recalled` says whether step 7 accepted a recall. -/
def State.reportStarted (s : State) (recalled : Bool) : State :=
  s.post .started 0
    [flagByte s.startUp.setupValid, s.startUp.tablesLoaded, flagByte s.delay.present, presetByte s.startUp.preset,
      if s.startUp.preset.isNone then 0 else if recalled then 1 else 2, if recalled then s.scenes.lastRecall else 0]

/-- The held load begins (R198 step 9). -/
def Scene.beginLoad : Scene → Scene
  | .loading c .held => .loading c .toRead
  | other => other

/-- Step 9 (R198): requests are accepted and the load of the power-on recall begins. -/
def State.acceptRequests (s : State) : State := (s.setScene s.scenes.scene.beginLoad).setPhase .running

/-- Steps 6 to 9 (R198). -/
def State.finishStartUp (s : State) : State :=
  (s.handOver.recallPreset.reportStarted s.recallsPreset).acceptRequests

/-- A start-up that finds no delay memory posts DELAY (R59) and goes on. -/
def State.finishWithoutMemory (s : State) : State := (s.post .delay 0 [flagByte s.delay.present]).finishStartUp

/-- Step 4, and step 5 as far as it needs no work (R10, R198): after RESETn the probe is awaited, else the clearing when the memory
is present. -/
def State.loadBanks (s : State) : State :=
  let s := s.withChain { s.chain with banks := Vector.ofFn s.store.bank }
  let s := s.withStartUp { s.startUp with tablesLoaded := s.store.loadedMask }
  if s.startUp.powerOn then s.setPhase .probe
  else if s.delay.present then s.setPhase .clear
  else s.finishWithoutMemory

/-- The line and the position of the j-th probed position: first and last of each line in order (R58; log entry 25). -/
def probedLine (j : Nat) : Fin 4 := Fin.ofNat 4 (j / 2)
def probedPosition (j : Nat) : Nat := if j % 2 = 0 then 0 else Config.lineLength - 1

/-- The probe's patterns in the memory (R58): at the positions that read back as written, and at no other (log entry 25). -/
def Memory.probe (m : List Host.Cell) (readBack : BitVec 8) : List Host.Cell :=
  (List.range 8).foldl (fun m j =>
    if readBack.getLsbD j then Memory.writeSample m (probedLine j) (probedPosition j) (Config.probePattern j).toInt else m) m

/-- The probe's result (R58): present when all eight positions read back as written. -/
def State.probed (s : State) (readBack : BitVec 8) : State :=
  let s := s.withDelay { s.delay with present := readBack == BitVec.allOnes 8, mem := Memory.probe s.delay.mem readBack }
  if s.delay.present then s.setPhase .clear else s.finishWithoutMemory

/-- The clearing of the four lines is complete (R58). -/
def State.memoryCleared (s : State) : State := (s.withDelay { s.delay with mem := [] }).finishStartUp

/-- Work that start-up awaits completes; the same completion at another time changes nothing. -/
def State.inPhase (s : State) (p : StartPhase) (work : State → State) : State :=
  if s.startUp.phase = p then work s else s

end Sys2Proof.Machine
end

