-- ==== Sys2Proof/Machine/LinkRequests.lean ====
section
/-! DEFINITION. The link controller's transactions (R176..R181) and the bodies of the 32 requests (R190): each body is the owning
block's part of the request, given the payload, after the link controller's own four checks (R178). -/

namespace Sys2Proof.Machine

/-! ## Read transactions (R180, R181) -/

/-- The bytes of a record that the part sends (R194). -/
def OutRecord.bytes (r : OutRecord) : List Byte := [r.kind, r.tag, r.status] ++ bytesLE 2 r.payload.length ++ r.payload

/-- The head record (R180): the oldest of the queue, else the pending report in the order TUNER, LEVELS, CUES. -/
def Link.head (l : Link) : ReadHead :=
  match l.queue, l.tuner, l.levels, l.cues with
  | r :: _, _, _, _ => .queue r
  | [], some r, _, _ => .slot .tuner r false
  | [], none, some r, _ => .slot .levels r false
  | [], none, none, some r => .slot .cues r false
  | [], none, none, none => .nothing

/-- The record that a head stands for, if any. -/
def ReadHead.record : ReadHead → Option OutRecord
  | .queue r => some r
  | .slot _ r _ => some r
  | .nothing => none

/-- The bytes that a read transaction sends for its head before the zeros: a single 0x00 when there is no record (R180). -/
def ReadHead.bytes (h : ReadHead) : List Byte := (h.record.map OutRecord.bytes).getD [0]

/-- A slot is emptied once its report has been read whole (R184). -/
def Link.emptySlot (l : Link) : Slot → Link
  | .tuner => { l with tuner := none }
  | .levels => { l with levels := none }
  | .cues => { l with cues := none }

/-- The record read whole is removed, unless a newer report has taken its slot (R180). -/
def Link.remove (l : Link) : ReadHead → Link
  | .queue _ => { l with queue := l.queue.drop 1 }
  | .slot slot _ replaced => if replaced then l else l.emptySlot slot
  | .nothing => l

/-- The status byte is clocked out whole, after the 0x00 of the first byte (R176): the head is fixed and the two flags are cleared
(R180, R181). -/
def State.startRead (s : State) : State :=
  let l := s.link
  (s.withPins { s.pins with sent := [0, l.statusByte] }).withLink { l with reading := some l.head, dropped := false, lost := false }

/-- Chip-select rises after `clocked` bytes of the head record's place (R180). -/
def State.releaseRead (s : State) (clocked : Nat) : State :=
  match s.link.reading with
  | none => s
  | some head =>
    let l := if head.bytes.length ≤ clocked then s.link.remove head else s.link
    (s.withPins { s.pins with sent := s.pins.sent ++ padTo clocked head.bytes }).withLink { l with reading := none }

/-- A read transaction as far as the command takes it. One released during its status byte changes nothing (R181). -/
def State.readRecord (s : State) : ReadEvent → State
  | .whole 0 => s.endRead
  | .whole (n + 1) => s.endRead.startRead.releaseRead n
  | .start => s.endRead.startRead
  | .release n => s.releaseRead n

/-! ## IDENT and STATUS (R187, R188) -/

def identBody (s : State) (_ : List Byte) : Answer := s.okay ([0xBF] ++ bytesLE 2 716 ++ [1, 1, 1, flagByte s.ready])

/-- The link part of STATUS (R188, R195). -/
def linkPart (l : Link) : List Byte :=
  bytesLE 2 l.mask.toNat ++
    [byteOf l.queue.length,
      byteOf ((if l.tuner.isSome then 1 else 0) + (if l.levels.isSome then 2 else 0) + (if l.cues.isSome then 4 else 0))]

def Holder.codes : Holder → List Byte
  | .free => [0, 0]
  | .playing n => [1, byteOf n]
  | .incoming n => [2, byteOf n]
  | .trail => [3, 0]
  | .cutting => [4, 0]

def linePart (ln : Line) : List Byte := ln.holder.codes ++ bytesLE 3 ln.span ++ bytesLE 2 ln.underruns ++ bytesLE 2 ln.overruns

/-- The delay part of STATUS (R57, R195). -/
def delayPart (d : DelayMemory) : List Byte := flagByte d.present :: d.lines.toList.flatMap linePart

/-- The scene state's code; the phase of a dip is the mixer's (R195). -/
def sceneCode (scene : Scene) (phase : MixPhase) : Byte :=
  match scene with
  | .steady => 0
  | .loading _ _ => 1
  | .armed _ _ => 2
  | .crossfade _ _ => 3
  | .dip _ _ => if phase = .dipIn then 5 else 4

def incomingPart : Option Context → List Byte
  | some c => [1, c.source.code, c.number, c.origin.code, byteOf c.cost, flagByte c.edited]
  | none => [0, 0, 0, 0, 0, 0]

def queuedPart : Option QueuedRecall → List Byte
  | some q => [1, q.source.code, q.number, q.origin.code]
  | none => [0, 0, 0, 0]

def trailPart (t : Trail) : List Byte := [byteOf t.line.val, flagByte (t.state != .running)] ++ bytesLE 2 t.age

/-- The scene part of STATUS (R103, R195). -/
def scenePart (m : SceneManager) (phase : MixPhase) : List Byte :=
  [sceneCode m.scene phase, byteOf m.account, m.lastRecall, m.playing.source.code, m.playing.number, byteOf m.playing.cost,
    m.playing.input.code, flagByte m.playing.edited] ++
    incomingPart m.scene.incoming ++ queuedPart m.scene.queued ++
    byteOf m.trails.length :: padTo 16 (m.trails.flatMap trailPart)

/-- The number of preset slots the directory shows VALID (R117). -/
def Store.validSlots (st : Store) : Nat := (st.directory.toList.filter Option.isSome).length

def WritePhase.code : WritePhase → Byte
  | .erasing => 1
  | .programming => 2

/-- The store part of STATUS (R117, R195). -/
def storePart (st : Store) : List Byte :=
  (match st.engine with
    | .idle => [0, 0, 0, 0xFF]
    | .writing op phase _ => [phase.code, op.codes.1, op.codes.2, byteOf op.bank]) ++ [byteOf st.validSlots]

def SwitchState.code : SwitchState → Byte
  | .released => 0
  | .pressed => 1
  | .unknown => 2

/-- The cue part of STATUS (R145, R195). -/
def cuePart (u : CueUnit) : List Byte :=
  [byteOf u.queue.length, flagByte u.lost] ++ bytesLE 2 u.discards ++
    [byteOf u.fifo.length, flagByte u.overflow, byteOf u.watermark] ++ u.switches.toList.map fun sw => sw.state.code

/-- The five parts of a STATUS reply (R188). -/
def State.statusPayload (s : State) : List Byte :=
  linkPart s.link ++ delayPart s.delay ++ scenePart s.scenes s.chain.mixer.phase ++ storePart s.store ++ cuePart s.cues

/-- What a set clear flag clears (R57, R188). -/
def State.clearCounts (s : State) : State :=
  (s.withDelay s.delay.clearCounts).withCues { s.cues with lost := false, discards := 0 }

def statusBody (s : State) (p : List Byte) : Answer :=
  { state := if byteAt p 0 = 0 then s else s.clearCounts, status := .ok, payload := s.statusPayload }

/-! ## Scene manager (R78, R79, R82, R86) -/

/-- RECALL (R82). A bad code is refused before an EMPTY slot: the model's choice, since R82 does not order the two (DESIGN CHOICE, log
entry 35). -/
def recallBody (s : State) (p : List Byte) : Answer :=
  match sourceOf (byteAt p 0), timingOverrideOf (byteAt p 1), fadeOverrideOf (numAt p 2 2) with
  | some source, some timing, some fade =>
    let valid := match source with
      | .slot n => s.store.slotValid n
      | _ => true
    if !valid then s.refuse .noSlot
    else
      let s := s.acceptRecall source .link timing fade .toRead
      { state := s, status := .accepted, payload := [s.scenes.lastRecall] }
  | _, _, _ => s.refuse .badField

def cancelBody (s : State) (_ : List Byte) : Answer :=
  match s.cancelRecall with
  | (some n, s') => s'.okay [n]
  | (none, _) => s.refuse .tooLate

/-- The stage of the edit context that a request names with an id of its kind, or the refusal (R78, R79). -/
def State.editStage (s : State) (stage id : Nat) : Except Status Stage :=
  match s.scenes.editContext.stages[stage]? with
  | none => .error .noStage
  | some st => if paramExists st.kind id then .ok st else .error .badField

/-- The close threshold that an edit of a GATE's thresholds also tells (R78). -/
def closeBytes (st : Stage) (id : Nat) : List Byte :=
  if st.kind = .gate ∧ (id = 0 ∨ id = 1) then bytesSignedLE 4 (st.value 1) else []

def editBody (s : State) (p : List Byte) : Answer :=
  let stage := byteAt p 0
  let id := byteAt p 1
  match s.editStage stage id with
  | .error status => s.refuse status
  | .ok st =>
    let st' := st.write id (signedAt p 2 4)
    let c := s.scenes.editContext
    let m := s.scenes.setEdit { c with stages := c.stages.set stage st', edited := true }
    (s.withScenes m).okay ([byteOf stage, byteOf id] ++ bytesSignedLE 4 (st'.value id) ++ closeBytes st' id)

/-- The role of the edit context (R79, R191). -/
def SceneManager.roleCode (m : SceneManager) : Byte := if m.scene.built.isSome then 1 else 0

def getParamBody (s : State) (p : List Byte) : Answer :=
  let stage := byteAt p 0
  let id := byteAt p 1
  match s.editStage stage id with
  | .error status => s.refuse status
  | .ok st => s.okay ([byteOf stage, byteOf id] ++ bytesSignedLE 4 (st.value id) ++ [s.scenes.roleCode])

/-! ## Latch set (R26, R27) -/

def setLatchBody (s : State) (p : List Byte) : Answer :=
  if h : byteAt p 0 < 8 ∧ byteAt p 1 < 2 then
    (s.withLatches (s.latches.set (byteAt p 0) { value := byteAt p 1 == 1, hold := none } h.1)).okay []
  else s.refuse .badField

def latchBytes (l : Latch) : List Byte :=
  flagByte l.value :: match l.hold with
    | some h => [1, byteOf h.source.toNat, h.index]
    | none => [0, 0, 0]

def getLatchesBody (s : State) (_ : List Byte) : Answer := s.okay (s.latches.toList.flatMap latchBytes)

/-! ## Cue unit (R123, R128, R129, R134, R137, R138, R143) -/

/-- SEND_CUE (R134). A bad field is refused before a full queue: the model's choice, since R134 does not order the two (DESIGN CHOICE,
log entry 35). -/
def sendCueBody (s : State) (p : List Byte) : Answer :=
  match cueKindOf (byteAt p 0) with
  | some kind =>
    if 1023 < numAt p 2 2 then s.refuse .badField
    else if Config.cueQueueLength ≤ s.cues.queue.length then s.refuse .busy
    else (s.makeCue sourceLink kind (byteOf (byteAt p 1)) (BitVec.ofNat 10 (numAt p 2 2))).okay []
  | none => s.refuse .badField

def setFilterBody (s : State) (p : List Byte) : Answer :=
  if h : byteAt p 0 < 24 then
    match maskSelOf (byteAt p 4), actionOf (byteAt p 5) (byteAt p 6) with
    | some mask, some action =>
      let f : Filter :=
        { enable := byteAt p 1 != 0
          identifier := BitVec.ofNat 16 (numAt p 2 2)
          mask := mask
          action := action
          copy := byteAt p 7 != 0 }
      (s.withCues { s.cues with filters := s.cues.filters.set (byteAt p 0) f h }).okay []
    | _, _ => s.refuse .badField
  else s.refuse .badField

def setMaskBody (s : State) (p : List Byte) : Answer :=
  if h : byteAt p 0 < 4 then
    (s.withCues { s.cues with masks := s.cues.masks.set (byteAt p 0) (BitVec.ofNat 16 (numAt p 1 2)) h }).okay []
  else s.refuse .badField

/-- A cue entry of a READ_CUES reply (R193). -/
def FifoEntry.bytes (e : FifoEntry) : List Byte :=
  [byteOf e.cue.source.toNat, byteOf e.cue.kind.code, e.cue.index] ++ bytesLE 2 e.cue.value.toNat ++
    bytesLE 4 e.cue.stamp.toNat ++ [byteOf e.filter.val]

/-- READ_CUES; the report of a count still at the watermark follows the clearing of the flag (R143, R144; log entry 22). -/
def readCuesBody (s : State) (p : List Byte) : Answer :=
  let most := byteAt p 0
  let mark := byteAt p 1
  if 8 < most ∨ 32 < mark then s.refuse .badField
  else
    let u := s.cues
    let got := u.fifo.take most
    let left := u.fifo.drop most
    let s := s.withCues { u with watermark := if mark = 0 then u.watermark else mark, fifo := left, overflow := false }
    (s.reportCuesIf (s.cues.watermark ≤ left.length)).okay
      ([flagByte u.overflow, byteOf left.length, byteOf got.length] ++ got.flatMap FifoEntry.bytes)

/-- PEDAL_SET (R128). A plug change at which the last scan waits belongs to that scan and is taken before the settings
(log entry 13). -/
def pedalSetBody (s : State) (p : List Byte) : Answer :=
  let lo := numAt p 2 2
  let hi := numAt p 4 2
  let deadband := byteAt p 6
  let interval := byteAt p 7
  if h : byteAt p 0 < 4 then
    if byteAt p 1 < 2 ∧ lo ≤ 1023 ∧ hi ≤ 1023 ∧ 1 ≤ deadband ∧ deadband ≤ 32 ∧ 1 ≤ interval ∧ interval ≤ 20 then
      let s := s.settlePlugs 4
      let i : Fin 4 := ⟨byteAt p 0, h⟩
      let s := s.setPedal i { s.cues.pedals[i] with
        settings := { enabled := byteAt p 1 == 1, lo := lo, hi := hi, deadband := deadband }, run := 0, lastSent := none }
      (s.withCues { s.cues with scanMs := interval }).okay []
    else s.refuse .badField
  else s.refuse .badField

def pedalBytes (p : Pedal) : List Byte :=
  [flagByte p.settings.enabled] ++ bytesLE 2 p.settings.lo ++ bytesLE 2 p.settings.hi ++
    [byteOf p.settings.deadband, flagByte (!p.plugged)] ++ bytesLE 2 p.raw ++ bytesLE 2 p.value ++
    bytesLE 2 (p.lastSent.getD 0xFFFF)

def pedalReadBody (s : State) (_ : List Byte) : Answer :=
  s.okay (byteOf s.cues.scanMs :: s.cues.pedals.toList.flatMap pedalBytes)

def switchSetBody (s : State) (p : List Byte) : Answer :=
  let debounce := byteAt p 0
  let hold := numAt p 1 2
  if 2 ≤ debounce ∧ debounce ≤ 40 ∧ 300 ≤ hold ∧ hold ≤ 2000 then
    (s.withCues { s.cues with debounceMs := debounce, holdMs := hold }).okay []
  else s.refuse .badField

/-! ## Upload buffer (R71..R73) -/

def uploadOpenBody (s : State) (_ : List Byte) : Answer := (s.withUpload []).okay []

/-- UPLOAD_DATA (R72). That its refusal carries the cursor in two bytes, as its OK does, is the model's choice (DESIGN CHOICE, log entry
39). -/
def uploadDataBody (s : State) (p : List Byte) : Answer :=
  if s.upload.length + p.length ≤ Config.recordArea then
    let s := s.withUpload (s.upload ++ p)
    s.okay (bytesLE 2 s.upload.length)
  else { state := s, status := .badLength, payload := bytesLE 2 s.upload.length }

/-- The refusal of a record that fails validation (R73, R108, R179). R190 lays out the payloads of OK and ACCEPTED alone; that the reason
takes one byte and the offset two, as in SCENE FAILED (R195), is the model's choice (DESIGN CHOICE, log entry 39). -/
def State.invalid (s : State) (reason : Reason) (offset : Nat) : Answer :=
  { state := s, status := .invalid, payload := reason.code :: bytesLE 2 offset }

def uploadCheckBody (s : State) (_ : List Byte) : Answer :=
  match validate s.upload with
  | .ok cost delays => s.okay [byteOf cost, byteOf delays]
  | .bad reason offset => s.invalid reason offset

/-! ## Preset store (R108..R111, R114, R115) -/

/-- The reply of a write that is accepted. -/
def State.accept (s : State) : Answer := { state := s, status := .accepted, payload := [] }

/-- STORE PLAY leaves the edit context unedited, with the slot as its source (R108). An armed or switching context so re-pointed
carries the slot as the source of its later SCENE reports too: R101 says only "the source", and that it is the context's present
one, not the recall's, is the model's choice (DESIGN CHOICE, log entry 33). -/
def SceneManager.storedFrom (m : SceneManager) (slot : Fin 128) : SceneManager :=
  m.setEdit { m.editContext with source := .slot slot, edited := false }

/-- The record of a STORE (R108): from the edit context for PLAY, else the upload buffer's. -/
def State.storeRecord (s : State) (play : Bool) : List Byte :=
  if play then writeRecord s.scenes.editContext.record else s.upload

/-- An accepted STORE (R108). -/
def State.startStore (s : State) (slot : Fin 128) (play : Bool) (bs : List Byte) : State :=
  let s := s.withStore ((s.store.setEntry slot (some { length := bs.length, name := readName bs })).startWrite
    (.store slot) (.preset bs))
  if play then s.withScenes (s.scenes.storedFrom slot) else s

def storeBody (s : State) (p : List Byte) : Answer :=
  if h : byteAt p 0 < 128 ∧ byteAt p 1 < 2 then
    if !s.store.idle then s.refuse .busy
    else
      let play := byteAt p 1 == 0
      let bs := s.storeRecord play
      match validate bs with
      | .bad reason offset => s.invalid reason offset
      | .ok _ _ => (s.startStore ⟨byteAt p 0, h.1⟩ play bs).accept
  else s.refuse .badField

/-- ERASE (R110). A bad field is refused before a write in flight, as R108 orders it for STORE: the model's choice, since R107, R110 and
R111 do not order the two (DESIGN CHOICE, log entry 35). -/
def eraseBody (s : State) (p : List Byte) : Answer :=
  if h : byteAt p 0 < 128 then
    if !s.store.idle then s.refuse .busy
    else (s.withStore ((s.store.setEntry ⟨byteAt p 0, h⟩ none).startWrite (.erase ⟨byteAt p 0, h⟩) .empty)).accept
  else s.refuse .badField

/-- TABLE_SAVE (R111), a bad field before a write in flight (DESIGN CHOICE, log entry 35). -/
def tableSaveBody (s : State) (p : List Byte) : Answer :=
  if h : byteAt p 0 < 8 then
    if !s.store.idle then s.refuse .busy
    else (s.withStore (s.store.startWrite (.tableSave ⟨byteAt p 0, h⟩) (.table s.chain.banks[byteAt p 0]))).accept
  else s.refuse .badField

/-- A power-on preset field: a slot, or NONE (R111, R191); the outer `none` is a bad value. -/
def powerOnOf (b : Nat) : Option (Option (Fin 128)) :=
  if h : b < 128 then some (some ⟨b, h⟩) else if b = 255 then some none else none

/-- SETUP_SAVE (R111), a bad field before a write in flight (DESIGN CHOICE, log entry 35). -/
def setupSaveBody (s : State) (p : List Byte) : Answer :=
  match powerOnOf (byteAt p 0) with
  | none => s.refuse .badField
  | some preset =>
    if !s.store.idle then s.refuse .busy
    else (s.withStore (s.store.startWrite .setupSave (.setup { powerOn := preset, settings := s.settings }))).accept

def readSlotBody (s : State) (p : List Byte) : Answer :=
  let offset := numAt p 1 2
  let count := byteAt p 3
  if h : byteAt p 0 < 128 then
    if Config.recordArea < offset ∨ 240 < count then s.refuse .badField
    else match s.store.directory[byteAt p 0] with
      | none => s.refuse .noSlot
      | some e =>
        if s.store.engine.busyBank = some (slotBank ⟨byteAt p 0, h⟩) then s.refuse .busy
        else
          let got := ((s.store.presets[byteAt p 0].bytes.take e.length).drop offset).take count
          s.okay (bytesLE 2 e.length ++ [byteOf got.length] ++ got)
  else s.refuse .badField

/-- A LIST entry (R115, R190). -/
def listEntry (st : Store) (n : Nat) : List Byte :=
  match (st.directory[n]?).join with
  | some e => [byteOf n, 1] ++ bytesLE 2 e.length ++ [byteOf e.name.length] ++ padTo 16 e.name
  | none => byteOf n :: List.replicate 20 0

/-- Byte j of the validity map (R190). -/
def mapByte (st : Store) (j : Nat) : Byte :=
  byteOf (((List.range 8).filter fun i => ((st.directory[8 * j + i]?).join).isSome).foldl (fun m i => m + 2 ^ i) 0)

def listBody (s : State) (p : List Byte) : Answer :=
  let start := byteAt p 0
  if 127 < start then s.refuse .badField
  else
    let count := min 8 (128 - start)
    s.okay ((List.range 16).map (mapByte s.store) ++ [byteOf count] ++
      (List.range count).flatMap fun i => listEntry s.store (start + i))

/-! ## Shaper banks (R11, R12) -/

/-- The samples of a TABLE_WRITE payload, three bytes each. -/
def samplesOf : List Byte → List Int
  | a :: b :: c :: rest => ofBytesSignedLE 3 [a, b, c] :: samplesOf rest
  | _ => []

/-- Entries written in order from a cursor; those beyond index 256 are dropped (R11). -/
def Table.writeFrom (t : Table) (i : Nat) : List Int → Table
  | [] => t
  | v :: vs => if h : i < 257 then Table.writeFrom (t.set i v h) (i + 1) vs else t

def tableWriteFits (n : Nat) : Bool := decide (3 ≤ n) && (n - 3) % 3 == 0 && decide (n ≤ 243)

def tableWriteBody (s : State) (p : List Byte) : Answer :=
  let start := numAt p 1 2
  let vs := samplesOf (p.drop 3)
  if h : byteAt p 0 < 8 ∧ start ≤ 256 then
    if s.scenes.namesBank (byteAt p 0) then s.refuse .inUse
    else
      (s.withChain { s.chain with
        banks := s.chain.banks.set (byteAt p 0) (Table.writeFrom (s.chain.banks[byteAt p 0]'h.1) start vs) h.1 }).okay
        [byteOf (min vs.length (257 - start))]
  else s.refuse .badField

def tableReadBody (s : State) (p : List Byte) : Answer :=
  let start := numAt p 1 2
  let count := byteAt p 3
  if h : byteAt p 0 < 8 ∧ start ≤ 256 ∧ count ≤ 80 then
    let got := ((s.chain.banks[byteAt p 0]'h.1).toList.drop start).take count
    s.okay (byteOf got.length :: got.flatMap fun v => bytesSignedLE 3 v)
  else s.refuse .badField

/-! ## Tuner and tempo (R155, R156, R161, R175) -/

/-- The settings but source and mode, in the order of the catalogue. -/
def TunerSettings.tail (v : TunerSettings) : List Byte :=
  [v.toggle.code] ++ bytesLE 2 v.reference ++ [byteOf v.window, byteOf v.runLength] ++ bytesSignedLE 4 v.threshold

def tunerSetBody (s : State) (p : List Byte) : Answer :=
  match tunerSourceOf (byteAt p 0), tunerModeOf (byteAt p 1), toggleOf (byteAt p 2) with
  | some source, some mode, some toggle =>
    let v := TunerSettings.clamped
      { source := source, toggle := toggle, reference := numAt p 3 2, window := byteAt p 5, runLength := byteAt p 6,
        threshold := (numAt p 7 4 : Int) }
    (s.setTuner v mode).okay ([source.code, mode.code] ++ v.tail)
  | _, _, _ => s.refuse .badField

def tunerReadBody (s : State) (_ : List Byte) : Answer :=
  s.okay (s.tuner.readingBytes ++ [s.tuner.mode.code, s.tuner.settings.source.code] ++ s.tuner.settings.tail)

def tempoSetBody (s : State) (p : List Byte) : Answer :=
  if s.tempo.locked then s.refuse .locked
  else
    let s := s.changeTempo (s.tempo.setBeat (numAt p 0 4) .link)
    s.okay (bytesLE 4 s.tempo.beat)

def tempoReadBody (s : State) (_ : List Byte) : Answer :=
  s.okay (bytesLE 4 s.tempo.beat ++ bytesLE 4 s.tempo.position ++ [s.tempo.source.code, flagByte s.tempo.locked])

/-! ## REPORTS and RESET (R186, R197) -/

/-- A kind's bit goes from 0 to 1 (R186). -/
def enables (old new : BitVec 16) (k : ReportKind) : Bool := new.getLsbD k.bit && !old.getLsbD k.bit

/-- An accepted REPORTS with its catch-up reports (R186, R23, R144, R174). -/
def State.setReports (s : State) (mask : BitVec 16) : State :=
  let old := s.link.mask
  let s := s.withLink { s.link with mask := mask }
  let s := s.reportTunerIf (enables old mask .tuner && s.tuner.unreported)
  let s := s.withChain { s.chain with levelsCatchUp := s.chain.levelsCatchUp || enables old mask .levels }
  s.reportCuesIf (enables old mask .cues && decide (s.cues.watermark ≤ s.cues.fifo.length))

def reportsBody (s : State) (p : List Byte) : Answer :=
  if 512 ≤ numAt p 0 2 then s.refuse .badField
  else
    let mask := BitVec.ofNat 16 (numAt p 0 2)
    (s.setReports mask).okay (bytesLE 2 mask.toNat)

def resetBody (s : State) (_ : List Byte) : Answer :=
  if !s.store.idle then s.refuse .busy else s.requestReset.okay []

end Sys2Proof.Machine
end

