-- ==== Sys2Proof/Machine/ResetCommands.lean ====
section
/-! DEFINITION. The meanings of the reset and start-up commands (spec/11 11.2, 11.3). A completion that the start-up sequence does
not await changes nothing (log entry 2). -/

namespace Sys2Proof.Machine

/-- RESETN_ASSERT (R197): the part is held in reset. -/
def execResetnAssert (s : State) : Outcome := whilePowered s State.assertReset

/-- RESETN_RELEASE (R197): the rising edge gives every block its reset values and begins the start-up sequence. -/
def execResetnRelease (s : State) : Outcome := .next s.releaseReset

/-- DIRECTORY_SCAN (R105, R198 step 2). -/
def execDirectoryScan (s : State) : Outcome := .next (s.inPhase .directory State.scanDirectory)

/-- SETUP_LOAD (R106, R198 step 3). -/
def execSetupLoad (s : State) : Outcome := .next (s.inPhase .setup State.loadSetup)

/-- BANK_LOAD (R10, R198 step 4). -/
def execBankLoad (s : State) : Outcome := .next (s.inPhase .banks State.loadBanks)

/-- MEMORY_PROBE (R58, R198 step 5). -/
def execMemoryProbe (readBack : BitVec 8) (s : State) : Outcome :=
  .next (s.inPhase .probe fun s => s.probed readBack)

/-- MEMORY_CLEAR (R58, R198 step 5). -/
def execMemoryClear (s : State) : Outcome := .next (s.inPhase .clear State.memoryCleared)

end Sys2Proof.Machine
end

