-- ==== Sys2Proof/Machine/AudioCommands.lean ====
section
/-! DEFINITION. The meanings of the audio frame, of the memory port's completions, and of the events of the tempo unit, the tuner, the
chain engine and the trails (spec/01, 03, 08, 09, 11). An event that has not come about changes nothing (log entry 2). -/

namespace Sys2Proof.Machine

/-- AUDIO_FRAME (R196). -/
def execAudioFrame (inputs : FrameInputs) (s : State) : Outcome := whilePowered s fun s => s.takeFrame inputs

/-- READ_BURST_COMPLETE (R55). -/
def execReadBurstComplete (s : State) : Outcome :=
  whilePowered s fun s =>
    match s.delay.burst with
    | some (.read _ _) => (s.withDelay s.delay.completeRead).arbitrate
    | _ => s

/-- WRITE_BURST_COMPLETE (R55). -/
def execWriteBurstComplete (s : State) : Outcome :=
  whilePowered s fun s =>
    match s.delay.burst with
    | some (.write _ _ _) => (s.withDelay s.delay.completeWrite).arbitrate
    | _ => s

/-- TUNER_RUN_COMPLETE (R171). -/
def execTunerRunComplete (s : State) : Outcome := whilePowered s State.takeTunerRun

/-- TUNER_LOSS_EXPIRY (R172). -/
def execTunerLossExpiry (s : State) : Outcome := whilePowered s State.takeTunerLoss

/-- BEAT_EVENT (R147). -/
def execBeatEvent (s : State) : Outcome := whilePowered s State.takeBeat

/-- CLOCK_LOSS_EXPIRY (R153). -/
def execClockLossExpiry (s : State) : Outcome := whilePowered s State.takeClockLoss

/-- CLOCK_LOCK (R151). -/
def execClockLock (s : State) : Outcome := whilePowered s State.takeClockLock

/-- CLOCK_UPDATE (R152). -/
def execClockUpdate (s : State) : Outcome := whilePowered s State.takeClockUpdate

/-- BLOCK_BOUNDARY (R3). -/
def execBlockBoundary (s : State) : Outcome := whilePowered s State.takeBoundary

/-- GATE_HOLD_END (R15). -/
def execGateHoldEnd (incoming : Bool) (stage : Fin 12) (s : State) : Outcome :=
  whilePowered s fun s => s.takeGateHoldEnd incoming stage.val

/-- TRAIL_OWN_END (R48). -/
def execTrailOwnEnd (line : Fin 4) (s : State) : Outcome := whilePowered s fun s => (s.takeTrailOwnEnd line).arbitrate

/-- TRAIL_FADE_END (R49). -/
def execTrailFadeEnd (line : Fin 4) (s : State) : Outcome := whilePowered s fun s => (s.takeTrailFadeEnd line).arbitrate

end Sys2Proof.Machine
end

