-- ==== Sys2Proof/Machine/SceneCommands.lean ====
section
/-! DEFINITION. The meanings of the events of a load, of a switch and of a flash write (spec/05, spec/06). An event that has not come
about changes nothing (log entry 2). -/

namespace Sys2Proof.Machine

/-- LOAD_READ (R87..R89, R113). -/
def execLoadRead (s : State) : Outcome := whilePowered s State.takeLoadRead

/-- LOAD_COMPLETE (R90). -/
def execLoadComplete (s : State) : Outcome := whilePowered s State.takeLoadComplete

/-- SWITCH_POINT (R92..R95); the arbiter looks at the requests it raises (R54). -/
def execSwitchPoint (s : State) : Outcome := whilePowered s fun s => if s.switchDue then s.takeSwitchPoint.arbitrate else s

/-- DIP_IN (R20); the arbiter looks at the requests it raises (R54). -/
def execDipIn (s : State) : Outcome := whilePowered s fun s => if s.chain.mixer.outDone then s.takeDipIn.arbitrate else s

/-- SWITCH_END (R98, R99); the arbiter looks at the requests it raises (R54). -/
def execSwitchEnd (s : State) : Outcome := whilePowered s fun s => if s.switchEndDue then s.takeSwitchEnd.arbitrate else s

/-- ERASE_COMPLETE (R112). -/
def execEraseComplete (s : State) : Outcome := whilePowered s State.takeEraseComplete

/-- WRITE_COMPLETE (R112). -/
def execWriteComplete (verified : Bool) (s : State) : Outcome := whilePowered s fun s => s.takeWriteComplete verified

end Sys2Proof.Machine
end

