-- ==== Sys2Proof/Machine/CueCommands.lean ====
section
/-! DEFINITION. The meanings of the scanners', the control port's and the cue unit's commands (spec/07). An event that has not come
about changes nothing (log entry 2). -/

namespace Sys2Proof.Machine

/-- SWITCH_DEBOUNCE (R121): the cues of lower-numbered switches of the same reading are made first. -/
def execSwitchDebounce (switch : Fin 8) (s : State) : Outcome :=
  whilePowered s fun s =>
    if s.cues.switches[switch].debounceDue then (s.settleSwitches switch.val).debounce switch else s

/-- SWITCH_HOLD (R122): the cues of lower-numbered switches of the same reading are made first. -/
def execSwitchHold (switch : Fin 8) (s : State) : Outcome :=
  whilePowered s fun s =>
    if s.cues.switches[switch].holdDue then (s.settleSwitches switch.val).holdCue switch else s

/-- PEDAL_SCAN (R124..R127). -/
def execPedalScan (s : State) : Outcome := whilePowered s State.takePedalScan

/-- PEDAL_UNPLUG (R127). -/
def execPedalUnplug (pedal : Fin 4) (s : State) : Outcome := whilePowered s fun s => s.takeUnplug pedal

/-- PEDAL_PLUG (R127). -/
def execPedalPlug (pedal : Fin 4) (s : State) : Outcome := whilePowered s fun s => s.takePlug pedal

/-- CONTROL_FRAME (R132): the byte that completes a frame. -/
def execControlFrame (byte : Byte) (s : State) : Outcome := whilePowered s fun s => s.receiveByte byte false

/-- CONTROL_DISCARD (R130, R131): a byte that is discarded or discards a partial frame. -/
def execControlDiscard (byte : Byte) (framingError : Bool) (s : State) : Outcome :=
  whilePowered s fun s => s.receiveByte byte framingError

/-- CONTROL_FRAME_BYTE (R131): a byte that begins a frame or goes on with one. -/
def execControlFrameByte (byte : Byte) (s : State) : Outcome := whilePowered s fun s => s.receiveByte byte false

/-- CUE_TAKEN (R135). -/
def execCueTaken (s : State) : Outcome := whilePowered s State.takeCue

end Sys2Proof.Machine
end

