-- ==== Sys2Proof/Machine/LinkCommands.lean ====
section
/-! DEFINITION. The meanings of the link's transactions and of the 32 requests (spec/10): each request runs the common checks of R178
with its kind code and its payload length from the catalogue (R190), then its own body. -/

namespace Sys2Proof.Machine

/-- READ_RECORD (R180). -/
def execReadRecord (event : ReadEvent) (s : State) : Outcome := whilePowered s fun s => s.readRecord event

/-- INCOMPLETE_FRAME (R177); the number of header bytes that came does not matter. -/
def execIncompleteFrame (_headerBytes : Fin 4) (s : State) : Outcome := whilePowered s State.dropFrame

/-- IDENT (R187). -/
def execIdent (frame : Frame) (s : State) : Outcome :=
  whilePowered s fun s => s.request 0x01 frame true true (· == 0) identBody

/-- STATUS (R188, R57, R103, R117, R145). -/
def execStatus (frame : Frame) (s : State) : Outcome :=
  whilePowered s fun s => s.request 0x02 frame true true (· == 1) statusBody

/-- RECALL (R82). -/
def execRecall (frame : Frame) (s : State) : Outcome :=
  whilePowered s fun s => s.request 0x03 frame true false (· == 4) recallBody

/-- CANCEL (R86). -/
def execCancel (frame : Frame) (s : State) : Outcome :=
  whilePowered s fun s => s.request 0x04 frame true false (· == 0) cancelBody

/-- EDIT (R78). -/
def execEdit (frame : Frame) (s : State) : Outcome :=
  whilePowered s fun s => s.request 0x05 frame true false (· == 6) editBody

/-- GET_PARAM (R79). -/
def execGetParam (frame : Frame) (s : State) : Outcome :=
  whilePowered s fun s => s.request 0x06 frame true false (· == 2) getParamBody

/-- SET_LATCH (R26). -/
def execSetLatch (frame : Frame) (s : State) : Outcome :=
  whilePowered s fun s => s.request 0x07 frame true false (· == 2) setLatchBody

/-- GET_LATCHES (R27). -/
def execGetLatches (frame : Frame) (s : State) : Outcome :=
  whilePowered s fun s => s.request 0x08 frame true false (· == 0) getLatchesBody

/-- SEND_CUE (R134). -/
def execSendCue (frame : Frame) (s : State) : Outcome :=
  whilePowered s fun s => s.request 0x09 frame true false (· == 4) sendCueBody

/-- SET_FILTER (R137). -/
def execSetFilter (frame : Frame) (s : State) : Outcome :=
  whilePowered s fun s => s.request 0x0A frame true false (· == 8) setFilterBody

/-- SET_MASK (R138). -/
def execSetMask (frame : Frame) (s : State) : Outcome :=
  whilePowered s fun s => s.request 0x0B frame true false (· == 3) setMaskBody

/-- READ_CUES (R143). -/
def execReadCues (frame : Frame) (s : State) : Outcome :=
  whilePowered s fun s => s.request 0x0C frame true false (· == 2) readCuesBody

/-- UPLOAD_OPEN (R71). -/
def execUploadOpen (frame : Frame) (s : State) : Outcome :=
  whilePowered s fun s => s.request 0x0D frame true false (· == 0) uploadOpenBody

/-- UPLOAD_DATA (R72). -/
def execUploadData (frame : Frame) (s : State) : Outcome :=
  whilePowered s fun s => s.request 0x0E frame true false (fun n => decide (n ≤ Config.maxPayload)) uploadDataBody

/-- UPLOAD_CHECK (R73). -/
def execUploadCheck (frame : Frame) (s : State) : Outcome :=
  whilePowered s fun s => s.request 0x0F frame true false (· == 0) uploadCheckBody

/-- STORE (R108). -/
def execStore (frame : Frame) (s : State) : Outcome :=
  whilePowered s fun s => s.request 0x10 frame true false (· == 2) storeBody

/-- ERASE (R110). -/
def execErase (frame : Frame) (s : State) : Outcome :=
  whilePowered s fun s => s.request 0x11 frame true false (· == 1) eraseBody

/-- READ_SLOT (R114). -/
def execReadSlot (frame : Frame) (s : State) : Outcome :=
  whilePowered s fun s => s.request 0x12 frame true false (· == 4) readSlotBody

/-- LIST (R115). -/
def execList (frame : Frame) (s : State) : Outcome :=
  whilePowered s fun s => s.request 0x13 frame true false (· == 1) listBody

/-- TABLE_WRITE (R11). -/
def execTableWrite (frame : Frame) (s : State) : Outcome :=
  whilePowered s fun s => s.request 0x14 frame true false tableWriteFits tableWriteBody

/-- TABLE_READ (R12). -/
def execTableRead (frame : Frame) (s : State) : Outcome :=
  whilePowered s fun s => s.request 0x15 frame true false (· == 4) tableReadBody

/-- TABLE_SAVE (R111). -/
def execTableSave (frame : Frame) (s : State) : Outcome :=
  whilePowered s fun s => s.request 0x16 frame true false (· == 1) tableSaveBody

/-- TUNER_SET (R161, R162). -/
def execTunerSet (frame : Frame) (s : State) : Outcome :=
  whilePowered s fun s => s.request 0x17 frame true false (· == 11) tunerSetBody

/-- TUNER_READ (R175). -/
def execTunerRead (frame : Frame) (s : State) : Outcome :=
  whilePowered s fun s => s.request 0x18 frame true false (· == 0) tunerReadBody

/-- TEMPO_SET (R155). -/
def execTempoSet (frame : Frame) (s : State) : Outcome :=
  whilePowered s fun s => s.request 0x19 frame true false (· == 4) tempoSetBody

/-- TEMPO_READ (R156). -/
def execTempoRead (frame : Frame) (s : State) : Outcome :=
  whilePowered s fun s => s.request 0x1A frame true false (· == 0) tempoReadBody

/-- PEDAL_SET (R128). -/
def execPedalSet (frame : Frame) (s : State) : Outcome :=
  whilePowered s fun s => s.request 0x1B frame true false (· == 8) pedalSetBody

/-- PEDAL_READ (R129). -/
def execPedalRead (frame : Frame) (s : State) : Outcome :=
  whilePowered s fun s => s.request 0x1C frame true false (· == 0) pedalReadBody

/-- SWITCH_SET (R123). -/
def execSwitchSet (frame : Frame) (s : State) : Outcome :=
  whilePowered s fun s => s.request 0x1D frame true false (· == 3) switchSetBody

/-- SETUP_SAVE (R111). -/
def execSetupSave (frame : Frame) (s : State) : Outcome :=
  whilePowered s fun s => s.request 0x1E frame true false (· == 1) setupSaveBody

/-- REPORTS (R186). -/
def execReports (frame : Frame) (s : State) : Outcome :=
  whilePowered s fun s => s.request 0x1F frame true false (· == 2) reportsBody

/-- RESET (R197). -/
def execReset (frame : Frame) (s : State) : Outcome :=
  whilePowered s fun s => s.request 0x20 frame true false (· == 0) resetBody

/-- UNKNOWN_REQUEST (R178): a kind outside the catalogue is answered BAD_KIND; a kind of the catalogue is that request
(log entry 18). -/
def execUnknownRequest (kind : Byte) (frame : Frame) (s : State) : Outcome :=
  match kind.toNat with
  | 0x01 => execIdent frame s
  | 0x02 => execStatus frame s
  | 0x03 => execRecall frame s
  | 0x04 => execCancel frame s
  | 0x05 => execEdit frame s
  | 0x06 => execGetParam frame s
  | 0x07 => execSetLatch frame s
  | 0x08 => execGetLatches frame s
  | 0x09 => execSendCue frame s
  | 0x0A => execSetFilter frame s
  | 0x0B => execSetMask frame s
  | 0x0C => execReadCues frame s
  | 0x0D => execUploadOpen frame s
  | 0x0E => execUploadData frame s
  | 0x0F => execUploadCheck frame s
  | 0x10 => execStore frame s
  | 0x11 => execErase frame s
  | 0x12 => execReadSlot frame s
  | 0x13 => execList frame s
  | 0x14 => execTableWrite frame s
  | 0x15 => execTableRead frame s
  | 0x16 => execTableSave frame s
  | 0x17 => execTunerSet frame s
  | 0x18 => execTunerRead frame s
  | 0x19 => execTempoSet frame s
  | 0x1A => execTempoRead frame s
  | 0x1B => execPedalSet frame s
  | 0x1C => execPedalRead frame s
  | 0x1D => execSwitchSet frame s
  | 0x1E => execSetupSave frame s
  | 0x1F => execReports frame s
  | 0x20 => execReset frame s
  | _ => whilePowered s fun s => s.request kind frame false false (fun _ => true) fun s _ => s.refuse .badKind

/-- IGNORED_TRANSACTION (R176): a transaction whose first byte is neither 'W' nor 'R', or is not complete, changes nothing but what
MISO has sent; one that begins with 'W' or 'R' is the write or the read its bytes select (log entry 18). -/
def execIgnoredTransaction (bytes : List Byte) (s : State) : Outcome :=
  match transactionOf bytes with
  | .request kind frame => execUnknownRequest kind frame s
  | .incomplete => whilePowered s State.dropFrame
  | .read clocked => whilePowered s fun s => s.readRecord (.whole clocked)
  | .ignored => whilePowered s State.endRead

end Sys2Proof.Machine
end

