-- ==== Sys2Proof/Machine/Dispatch.lean ====
section
/-! DEFINITION. exec: one arm per constructor of Instr, each one call of that command's meaning. -/

namespace Sys2Proof.Machine

def exec (i : Instr) (s : State) : Host.Outcome State Fault Refusal :=
  match i with
  | .resetnAssert => Sys2Proof.Machine.execResetnAssert s
  | .resetnRelease => Sys2Proof.Machine.execResetnRelease s
  | .directoryScan => Sys2Proof.Machine.execDirectoryScan s
  | .setupLoad => Sys2Proof.Machine.execSetupLoad s
  | .bankLoad => Sys2Proof.Machine.execBankLoad s
  | .memoryProbe readBack => Sys2Proof.Machine.execMemoryProbe readBack s
  | .memoryClear => Sys2Proof.Machine.execMemoryClear s
  | .audioFrame inputs => Sys2Proof.Machine.execAudioFrame inputs s
  | .readBurstComplete => Sys2Proof.Machine.execReadBurstComplete s
  | .writeBurstComplete => Sys2Proof.Machine.execWriteBurstComplete s
  | .tunerRunComplete => Sys2Proof.Machine.execTunerRunComplete s
  | .tunerLossExpiry => Sys2Proof.Machine.execTunerLossExpiry s
  | .beatEvent => Sys2Proof.Machine.execBeatEvent s
  | .clockLossExpiry => Sys2Proof.Machine.execClockLossExpiry s
  | .blockBoundary => Sys2Proof.Machine.execBlockBoundary s
  | .gateHoldEnd incoming stage => Sys2Proof.Machine.execGateHoldEnd incoming stage s
  | .trailOwnEnd line => Sys2Proof.Machine.execTrailOwnEnd line s
  | .trailFadeEnd line => Sys2Proof.Machine.execTrailFadeEnd line s
  | .loadRead => Sys2Proof.Machine.execLoadRead s
  | .loadComplete => Sys2Proof.Machine.execLoadComplete s
  | .switchPoint => Sys2Proof.Machine.execSwitchPoint s
  | .dipIn => Sys2Proof.Machine.execDipIn s
  | .switchEnd => Sys2Proof.Machine.execSwitchEnd s
  | .eraseComplete => Sys2Proof.Machine.execEraseComplete s
  | .writeComplete verified => Sys2Proof.Machine.execWriteComplete verified s
  | .switchDebounce switch => Sys2Proof.Machine.execSwitchDebounce switch s
  | .switchHold switch => Sys2Proof.Machine.execSwitchHold switch s
  | .pedalScan => Sys2Proof.Machine.execPedalScan s
  | .pedalUnplug pedal => Sys2Proof.Machine.execPedalUnplug pedal s
  | .pedalPlug pedal => Sys2Proof.Machine.execPedalPlug pedal s
  | .controlFrame byte => Sys2Proof.Machine.execControlFrame byte s
  | .controlDiscard byte framingError => Sys2Proof.Machine.execControlDiscard byte framingError s
  | .cueTaken => Sys2Proof.Machine.execCueTaken s
  | .clockLock => Sys2Proof.Machine.execClockLock s
  | .clockUpdate => Sys2Proof.Machine.execClockUpdate s
  | .readRecord event => Sys2Proof.Machine.execReadRecord event s
  | .ignoredTransaction bytes => Sys2Proof.Machine.execIgnoredTransaction bytes s
  | .incompleteFrame headerBytes => Sys2Proof.Machine.execIncompleteFrame headerBytes s
  | .unknownRequest kind frame => Sys2Proof.Machine.execUnknownRequest kind frame s
  | .ident frame => Sys2Proof.Machine.execIdent frame s
  | .status frame => Sys2Proof.Machine.execStatus frame s
  | .recallScene frame => Sys2Proof.Machine.execRecall frame s
  | .cancel frame => Sys2Proof.Machine.execCancel frame s
  | .edit frame => Sys2Proof.Machine.execEdit frame s
  | .getParam frame => Sys2Proof.Machine.execGetParam frame s
  | .setLatch frame => Sys2Proof.Machine.execSetLatch frame s
  | .getLatches frame => Sys2Proof.Machine.execGetLatches frame s
  | .sendCue frame => Sys2Proof.Machine.execSendCue frame s
  | .setFilter frame => Sys2Proof.Machine.execSetFilter frame s
  | .setMask frame => Sys2Proof.Machine.execSetMask frame s
  | .readCues frame => Sys2Proof.Machine.execReadCues frame s
  | .uploadOpen frame => Sys2Proof.Machine.execUploadOpen frame s
  | .uploadData frame => Sys2Proof.Machine.execUploadData frame s
  | .uploadCheck frame => Sys2Proof.Machine.execUploadCheck frame s
  | .store frame => Sys2Proof.Machine.execStore frame s
  | .erase frame => Sys2Proof.Machine.execErase frame s
  | .readSlot frame => Sys2Proof.Machine.execReadSlot frame s
  | .list frame => Sys2Proof.Machine.execList frame s
  | .tableWrite frame => Sys2Proof.Machine.execTableWrite frame s
  | .tableRead frame => Sys2Proof.Machine.execTableRead frame s
  | .tableSave frame => Sys2Proof.Machine.execTableSave frame s
  | .tunerSet frame => Sys2Proof.Machine.execTunerSet frame s
  | .tunerRead frame => Sys2Proof.Machine.execTunerRead frame s
  | .tempoSet frame => Sys2Proof.Machine.execTempoSet frame s
  | .tempoRead frame => Sys2Proof.Machine.execTempoRead frame s
  | .pedalSet frame => Sys2Proof.Machine.execPedalSet frame s
  | .pedalRead frame => Sys2Proof.Machine.execPedalRead frame s
  | .switchSet frame => Sys2Proof.Machine.execSwitchSet frame s
  | .setupSave frame => Sys2Proof.Machine.execSetupSave frame s
  | .reports frame => Sys2Proof.Machine.execReports frame s
  | .reset frame => Sys2Proof.Machine.execReset frame s
  | .controlFrameByte byte => Sys2Proof.Machine.execControlFrameByte byte s

end Sys2Proof.Machine
end

