-- ==== Sys2Proof/Safety.lean ====
section
/-! DEFINITION. The terms in which claims are stated: when the part runs and answers, what a request frame and its reply are, and
the invariants that every command keeps. -/

namespace Sys2Proof.Machine

/-! ## When commands act -/

/-- RESETn is high (R197). -/
def State.powered (s : State) : Prop := s.startUp.phase ≠ .held

/-- The part executes a request and does not refuse it with NOT_READY: requests are accepted (R198 step 9) and the outbound queue
holds 23 records or fewer (R178). -/
def State.accepting (s : State) : Prop := s.startUp.phase = .running ∧ s.link.queue.length < 24

/-- A request frame whose length field agrees with its payload (R177), for payloads of up to 250 bytes. -/
def requestFrame (tag : Byte) (payload : List Byte) : Frame where
  bytes := tag :: BitVec.ofNat 8 payload.length :: 0 :: payload

/-- The state with one reply at the young end of the outbound queue (R179), no read transaction in progress, and 0x00 sent on MISO
throughout the transaction that brought the request (R176). -/
def State.replied (s : State) (kind tag status : Byte) (payload : List Byte) : State :=
  { s with
    pins := { s.pins with sent := [] }
    link := { s.link with
      reading := none
      queue := s.link.queue ++ [{ kind := kind, tag := tag, status := status, payload := payload }] } }

/-! ## Invariants -/

/-- A sample lies in its range (3.2). -/
def sampleOk (x : Int) : Prop := sampleMin ≤ x ∧ x ≤ sampleMax

/-- The pair on DAOUT lies in the sample range (R1, R21). -/
def State.outputsOk (s : State) : Prop := sampleOk s.pins.outL ∧ sampleOk s.pins.outR

/-- Every ramp position lies in 0..256 (R33). -/
def Context.rampsOk (c : Context) : Prop := ∀ st ∈ c.stages, st.m ≤ 256

def State.rampsOk (s : State) : Prop :=
  s.scenes.playing.rampsOk ∧ ∀ c, s.scenes.scene.incoming = some c → c.rampsOk

/-- A record of the outbound queue is a report: its kind has bit 7 clear (R179, R194). -/
def OutRecord.isReport (r : OutRecord) : Bool := !r.kind.msb

/-- The bounds of the outbound queue (R182), and the enable mask within its nine bits (R186). -/
def Link.ok (l : Link) : Prop :=
  l.queue.length ≤ 24 ∧ (l.queue.filter OutRecord.isReport).length ≤ 22 ∧ l.mask.toNat < 512

/-- A beat length in its range (R146). -/
def beatOk (n : Nat) : Prop := 12000 ≤ n ∧ n ≤ 144000

/-- The tempo unit's ranges (R146): a beat length in range, CLOCK as the source of a locked unit, and what keeps them so: the tap
run's intervals in range, at most four of them, and eight clock intervals only while they wait to lock or to update. -/
def Tempo.ok (t : Tempo) : Prop :=
  beatOk t.beat ∧ (t.locked = true → t.source = .clock) ∧
    (∀ i ∈ t.tapRun, beatOk i) ∧ t.tapRun.length ≤ 4 ∧ t.clockRun.length ≤ 8 ∧ t.clockCount ≤ 8 ∧
    (t.clockCount = 8 → t.locked = true ∨ beatInRange t.clockRun.sum = true)

/-- Flash slot n holds the record bs under a VALID marker. -/
def Store.flashHolds (st : Store) (n : Fin 128) (bs : List Byte) : Prop :=
  st.presets[n].valid = true ∧ st.presets[n].record = bs

/-- The write image of a STORE in flight to slot n holds the record bs. -/
def Store.imageHolds (st : Store) (n : Fin 128) (bs : List Byte) : Prop :=
  ∃ phase, st.engine = .writing (.store n) phase (.preset bs)

/-- A directory entry is backed by a record that passed validation, in the flash or in the write image, with that record's length
and name (R105). -/
def Store.backed (st : Store) (n : Fin 128) (e : DirEntry) : Prop :=
  ∃ bs, (st.flashHolds n bs ∨ st.imageHolds n bs) ∧ (validate bs).isOk = true ∧ e = { length := bs.length, name := readName bs }

/-- The write in flight, if any: its target's marker is destroyed (R112), the image of a STORE passed validation, and the slot of
an ERASE is EMPTY in the directory (R105). -/
def Store.engineOk (st : Store) : Prop :=
  match st.engine with
  | .idle => True
  | .writing (.store n) _ image => st.presets[n].valid = false ∧ ∃ bs, image = .preset bs ∧ (validate bs).isOk = true
  | .writing (.erase n) _ _ => st.presets[n].valid = false ∧ st.directory[n] = none
  | .writing _ _ _ => True

/-- The preset store is consistent: every VALID directory entry is backed (R105), and the write in flight is in order. -/
def Store.ok (st : Store) : Prop :=
  (∀ n : Fin 128, ∀ e, st.directory[n] = some e → st.backed n e) ∧ st.engineOk

/-- The line table agrees with the contexts and the trail list (R37, R38, R100): each line's holder names the stage or trail that
holds it, and no other does. -/
def State.linesOk (s : State) : Prop :=
  (∀ (l : Fin 4) (n : Nat), s.delay.lines[l].holder = .playing n ↔
    ∃ st o, s.scenes.playing.stages[n]? = some st ∧ st.lineOffset = some (l, o)) ∧
  (∀ (l : Fin 4) (n : Nat), s.delay.lines[l].holder = .incoming n ↔
    ∃ c st o, s.scenes.scene.built = some c ∧ c.stages[n]? = some st ∧ st.lineOffset = some (l, o)) ∧
  (∀ l : Fin 4, s.delay.lines[l].holder = .trail ↔ ∃ t ∈ s.scenes.trails, t.line = l ∧ t.state = .running) ∧
  (∀ l : Fin 4, s.delay.lines[l].holder = .cutting ↔ ∃ t ∈ s.scenes.trails, t.line = l ∧ t.state ≠ .running) ∧
  s.scenes.trails.Pairwise fun t u => t.line ≠ u.line

/-- A line's sizes (3.1, R50..R52). -/
def Line.sizesOk (ln : Line) : Prop :=
  ln.wp < 131072 ∧ ln.span ≤ 131072 ∧ ln.underruns ≤ 65535 ∧ ln.overruns ≤ 65535 ∧
    ln.readFifo.length ≤ 32 ∧ ln.writeFifo.length ≤ 32 ∧ ln.window.length ≤ 64

/-- The samples a read burst in flight still owes fit into their FIFO (R51). -/
def DelayMemory.burstFits (d : DelayMemory) : Prop :=
  ∀ l wanted, d.burst = some (.read l wanted) → d.lines[l].readFifo.length + wanted.length ≤ 32

/-- The sizes of the part's buffers: lines, cue input queue (R133), cue FIFO (R142), discard count (R130), upload buffer (R71), and
the 48 frames of inputs that wait to be rendered (R196). -/
def State.sizesOk (s : State) : Prop :=
  (∀ l : Fin 4, s.delay.lines[l].sizesOk) ∧ s.delay.burstFits ∧ s.cues.queue.length ≤ 16 ∧ s.cues.fifo.length ≤ 32 ∧
    s.cues.discards ≤ 65535 ∧ s.upload.length ≤ 1024 ∧ s.chain.history.length = 48

/-! ## Preset records in order -/

/-- A stage entry whose parameters are its kind's, each in its range (R63), with the rule of R14 for a GATE. -/
def StageEntry.ok (e : StageEntry) : Prop :=
  e.params.length = (paramSpecs e.kind).length ∧
    (∀ id spec, (paramSpecs e.kind)[id]? = some spec → inRange spec (e.params.getD id 0) = true) ∧
    (e.kind = .gate → e.params.getD 1 0 ≤ e.params.getD 0 0)

/-- A binding entry in order for a record's stages (R64, R69). -/
def Binding.ok (stages : List StageEntry) (b : Binding) : Prop :=
  b.number ≤ 15 ∧
    match b.target with
    | .latch _ _ => True
    | .param stage id low high =>
      ∃ e spec, stages[stage]? = some e ∧ (paramSpecs e.kind)[id]? = some spec ∧ inRange spec low = true ∧
        inRange spec high = true

/-- A record in order (R60..R66): every field in its range, one OUTPUT, in the last place, at most two DELAYs, a cost of at most
96. -/
def Record.ok (r : Record) : Prop :=
  r.name.length ≤ 16 ∧ (∀ ch ∈ r.name, 0x20 ≤ ch.toNat ∧ ch.toNat ≤ 0x7E) ∧
    (∀ t, r.parts.tempo = some t → beatOk t) ∧
    (∀ f, r.parts.latches = some f → f.values &&& f.mask = f.values) ∧
    r.stages.length ≤ 12 ∧ (∀ e ∈ r.stages, e.ok) ∧
    (∃ init last, r.stages = init ++ [last] ∧ last.kind = .output ∧ ∀ e ∈ init, e.kind ≠ .output) ∧
    (r.stages.filter fun e => e.kind == .delay).length ≤ 2 ∧
    (r.stages.map fun e => e.kind.cost).sum ≤ 96 ∧
    r.bindings.length ≤ 16 ∧ ∀ b ∈ r.bindings, b.ok r.stages

/-! ## What start-up, a read of a load and a request are -/

/-- The end of start-up, steps 6 to 9 (R198, R199), from a state with no recall so far: the passthrough context is handed over,
the power-on preset recalled as number 1 when the directory shows it VALID, STARTED posted with what it carries, and requests
accepted. -/
def startUpFinished (s t : State) : Prop :=
  t.startUp.phase = .running ∧ t.chain = { s.chain with handover := true } ∧
  (∀ (i : Nat) (st : Stage), s.scenes.playing.stages[i]? = some st → ∃ st' : Stage, t.scenes.playing.stages[i]? = some st' ∧
    st'.m = if st.engaged s.latches s.tuner.muting then 256 else 0) ∧
  (match s.startUp.preset with
   | none =>
     t.scenes.scene = .steady ∧ t.link = s.link.post .started 0
       [flagByte s.startUp.setupValid, s.startUp.tablesLoaded, flagByte s.delay.present, 0xFF, 0, 0]
   | some n =>
     if s.store.directory[n].isSome then
       (∃ c, t.scenes.scene = .loading c .toRead ∧ c.number = 1 ∧ c.source = .slot n ∧ c.origin = .link ∧
         c.timingOverride = some .now ∧ c.fadeOverride = some 0) ∧
       t.scenes.lastRecall = 1 ∧ t.link = s.link.post .started 0
         [flagByte s.startUp.setupValid, s.startUp.tablesLoaded, flagByte s.delay.present, BitVec.ofNat 8 n.val, 1, 1]
     else
       t.scenes.scene = .steady ∧ t.link = s.link.post .started 0
         [flagByte s.startUp.setupValid, s.startUp.tablesLoaded, flagByte s.delay.present, BitVec.ofNat 8 n.val, 2, 0])

/-- The payload lengths that the catalogue gives for the kinds 0x01..0x20 (R190). -/
def catalogueLength (kind n : Nat) : Prop :=
  match kind with
  | 0x02 | 0x11 | 0x13 | 0x16 | 0x1E => n = 1
  | 0x06 | 0x07 | 0x0C | 0x10 | 0x1F => n = 2
  | 0x0B | 0x1D => n = 3
  | 0x03 | 0x09 | 0x12 | 0x15 | 0x19 => n = 4
  | 0x05 => n = 6
  | 0x0A | 0x1B => n = 8
  | 0x17 => n = 11
  | 0x0E => n ≤ 250
  | 0x14 => 3 ≤ n ∧ n ≤ 243 ∧ n % 3 = 0
  | _ => n = 0

/-- The trail list after n cuts by a load: each cut puts the first RUNNING entry into CUTTING, its fade waiting for the next boundary
(R89, R100, R49). -/
def cutOldestTrails : Nat → List Trail → List Trail
  | 0, ts => ts
  | _, [] => []
  | n + 1, t :: ts =>
    if t.state = .running then { t with state := .cutWait } :: cutOldestTrails n ts else t :: cutOldestTrails (n + 1) ts

/-- What a BLOCK_BOUNDARY of s makes of a stage of a context that is rendered in the block after it, or is not. Rendered, it takes its
stored parameters, keeping for the ramps those in force before (R5), its engage target (R32), a GATE's gains for the block after the
account of the block just ended (R15, R16) and a DELAY's glide toward its target offset (R41, R42). Not rendered, it takes its
parameters whole, and neither target nor gain nor offset moves (R5, R32, R42). -/
def stageOpened (s : State) (rendered : Bool) (st st' : Stage) : Prop :=
  st' = { st with current := st.params, previous := st'.previous, target := st'.target, run := st'.run } ∧
  st'.previous = (if rendered then st.current else st.params) ∧
  st'.target = (if rendered then st.engage.getLsbD ((if st.default then 4 else 0) +
    (if s.latches[st.latch].value then 2 else 0) + (if s.tuner.mode = .mute then 1 else 0)) else st.target) ∧
  match st.run with
  | .gate g =>
    let g' := if s.chain.blockClosed then g else gateClose st.params g
    st'.run = .gate (if rendered then gateFix st.params g' else g')
  | .delay dr =>
    let ratio := [(1, 1), (3, 4), (2, 3), (1, 2), (3, 8), (1, 3), (1, 4), (1, 6)].getD (st.params.getD 2 0).toNat (1, 6)
    let target := max 1 (min 131071 (if st.params.getD 0 0 = 0 then (st.params.getD 1 0).toNat else s.tempo.beat * ratio.1 / ratio.2))
    st'.run = .delay (if rendered then { dr with offset := glide dr.offset target (st.params.getD 7 0).toNat } else dr)
  | run => st'.run = run

/-- The same for each stage of a context, and the lines that its DELAY stages hold: a line whose offset has changed has its read FIFO
emptied, and is otherwise as before (R51). -/
def contextOpened (s t : State) (rendered : Bool) (c c' : Context) : Prop :=
  c' = { c with stages := c'.stages } ∧ c'.stages.length = c.stages.length ∧
  ∀ (i : Nat) (st : Stage), c.stages[i]? = some st → ∃ st' : Stage, c'.stages[i]? = some st' ∧ stageOpened s rendered st st' ∧
    ∀ l o o', st.lineOffset = some (l, o) → st'.lineOffset = some (l, o') →
      t.delay.lines[l] = if o = o' then s.delay.lines[l] else { s.delay.lines[l] with readFifo := [] }

/-- The number of trails that the end of a switch makes from the DELAY stages of the playing context (R98). -/
def State.trailsMade (s : State) : Nat :=
  (s.scenes.playing.stages.filter fun st => st.lineOffset.isSome && st.value 8 == 1).length

/-- What the end of a switch from s to t does to the lines (R98, R99, R46): the incoming context's become the playing one's; each old
DELAY stage with trail bit 1 becomes a running trail, which keeps the line, the offset, w, r, the stored k, fb and wet of its stage
and the stored gains of the old OUTPUT stage; each with 0 gives its line up; and the trails there were stay. -/
def linesHandedOver (s t : State) : Prop :=
  (∀ (l : Fin 4) (n : Nat), s.delay.lines[l].holder = .incoming n → t.delay.lines[l].holder = .playing n) ∧
  (∀ st ∈ s.scenes.playing.stages, ∀ l o, st.lineOffset = some (l, o) →
    (st.value 8 = 1 → t.delay.lines[l].holder = .trail ∧
      ∃ u ∈ t.scenes.trails, u.line = l ∧ u.offset = o ∧ u.state = .running ∧ u.age = 0 ∧ u.quiet = 0 ∧
        u.feedback = st.value 3 ∧ u.tone = st.value 4 ∧ u.wet = st.value 6 ∧
        (∀ dr, st.run = .delay dr → u.w = dr.w ∧ u.r = dr.r) ∧
        (∀ pre out, s.scenes.playing.stages = pre ++ [out] → out.kind = .output → (∀ x ∈ pre, x.kind ≠ .output) →
          u.gainL = out.params.getD 0 0 ∧ u.gainR = out.params.getD 1 0)) ∧
    (st.value 8 ≠ 1 → t.delay.lines[l].holder = .free ∧ t.delay.lines[l].readFifo = [] ∧
      t.delay.lines[l].writeFifo = [] ∧ t.delay.lines[l].window = [])) ∧
  (∀ u ∈ s.scenes.trails, ∃ u' ∈ t.scenes.trails, u'.line = u.line ∧ u'.state = u.state) ∧
  t.scenes.trails.length = s.scenes.trails.length + s.trailsMade

/-- The FREE lines in ascending order (R38, R89). -/
def DelayMemory.freeList (d : DelayMemory) : List (Fin 4) := (List.finRange 4).filter fun l => d.lines[l].holder = .free

/-- An accepted recall q acts by scene state on s and leaves t (R82, R84, R85): what it replaces is reported SUPERSEDED, and what
is not named stays. -/
def recallTaken (s t : State) (q : QueuedRecall) : Prop :=
  t.scenes.playing = s.scenes.playing ∧ t.scenes.trails = s.scenes.trails ∧ t.scenes.lastRecall = q.number ∧
  t = { s with scenes := t.scenes, link := t.link, delay := t.delay } ∧ t.delay.mem = s.delay.mem ∧
  ∃ inc : Context, inc.asQueued = q ∧ inc.edited = false ∧
    match s.scenes.scene with
    | .steady => t.scenes.scene = .loading inc .toRead ∧ t.link = s.link ∧ t.delay = s.delay
    | .loading c _ => t.scenes.scene = .loading inc .toRead ∧ t.delay = s.delay ∧
      t.link = s.link.post .scene 5 [c.number, c.origin.code, c.source.code, q.number]
    | .armed c _ => t.scenes.scene = .loading inc .toRead ∧
      t.link = s.link.post .scene 5 [c.number, c.origin.code, c.source.code, q.number] ∧
      (∀ l ∈ c.lines, t.delay.lines[l] =
        { s.delay.lines[l] with holder := .free, readFifo := [], writeFifo := [], window := [] }) ∧
      (∀ l : Fin 4, l ∉ c.lines → t.delay.lines[l] = s.delay.lines[l])
    | .crossfade c old => t.scenes.scene = .crossfade c (some q) ∧ t.delay = s.delay ∧
      t.link = (match old with
        | some o => s.link.post .scene 5 [o.number, o.origin.code, o.source.code, q.number]
        | none => s.link)
    | .dip c old => t.scenes.scene = .dip c (some q) ∧ t.delay = s.delay ∧
      t.link = (match old with
        | some o => s.link.post .scene 5 [o.number, o.origin.code, o.source.code, q.number]
        | none => s.link)

/-- The byte of a timing override and the bytes of a fade override (R191). -/
def timingByte : Option Timing → Byte
  | some .now => 0
  | some .beat => 1
  | none => 2

def fadeBytes : Option (BitVec 8) → List Byte
  | some f => [f, 0]
  | none => [0xFF, 0xFF]

/-- The codes of a filter's mask select and action, and the argument byte of the actions that take one (R136, R137, R191). -/
def MaskSel.code : MaskSel → Byte
  | .mask n => BitVec.ofNat 8 n.val
  | .exact => 4

def Action.code : Action → Byte
  | .none => 0
  | .bind _ => 1
  | .startRecall _ => 2
  | .tap => 3
  | .clock => 4
  | .tuner => 5

def Action.argument : Action → Option Byte
  | .bind n => some (BitVec.ofNat 8 n.val)
  | .startRecall n => some (BitVec.ofNat 8 n.val)
  | _ => Option.none

/-- The record that a load reads now (R87, R74, R113): the upload buffer, the passthrough record, or a VALID slot's record, from the
write image of a STORE to that slot, else from the flash while its bank is not being written. -/
def State.loadReads (s : State) : Source → List Byte → Prop
  | .upload, bs => bs = s.upload
  | .passthrough, bs => bs = writeRecord passthroughRecord
  | .slot n, bs => s.store.directory[n].isSome = true ∧
      match s.store.engine with
      | .idle => bs = s.store.presets[n].record
      | .writing op _ image =>
        if op = .store n then image = .preset bs
        else op.bank ≠ n.val % 2 ∧ bs = s.store.presets[n].record

/-- A load must wait for its bank (R113): a VALID slot of the bank of a write in flight to another slot. -/
def State.loadWaits (s : State) (n : Fin 128) : Prop :=
  s.store.directory[n].isSome = true ∧
    ∃ op phase image, s.store.engine = .writing op phase image ∧ op ≠ .store n ∧ op.bank = n.val % 2

/-- The kind byte and the frame of a request (R190). -/
def requestOf : Instr → Option (Byte × Frame)
  | .unknownRequest kind f => some (kind, f)
  | .ident f => some (0x01, f)
  | .status f => some (0x02, f)
  | .recallScene f => some (0x03, f)
  | .cancel f => some (0x04, f)
  | .edit f => some (0x05, f)
  | .getParam f => some (0x06, f)
  | .setLatch f => some (0x07, f)
  | .getLatches f => some (0x08, f)
  | .sendCue f => some (0x09, f)
  | .setFilter f => some (0x0A, f)
  | .setMask f => some (0x0B, f)
  | .readCues f => some (0x0C, f)
  | .uploadOpen f => some (0x0D, f)
  | .uploadData f => some (0x0E, f)
  | .uploadCheck f => some (0x0F, f)
  | .store f => some (0x10, f)
  | .erase f => some (0x11, f)
  | .readSlot f => some (0x12, f)
  | .list f => some (0x13, f)
  | .tableWrite f => some (0x14, f)
  | .tableRead f => some (0x15, f)
  | .tableSave f => some (0x16, f)
  | .tunerSet f => some (0x17, f)
  | .tunerRead f => some (0x18, f)
  | .tempoSet f => some (0x19, f)
  | .tempoRead f => some (0x1A, f)
  | .pedalSet f => some (0x1B, f)
  | .pedalRead f => some (0x1C, f)
  | .switchSet f => some (0x1D, f)
  | .setupSave f => some (0x1E, f)
  | .reports f => some (0x1F, f)
  | .reset f => some (0x20, f)
  | _ => none

end Sys2Proof.Machine
end

