-- ==== Sys2Proof/Certificates/Slice0/Obligations.lean ====
section
/-! DEFINITION. The statements for the provers. Each says what a command, an operation or the whole part does, over every state that
meets its hypotheses. A result is written as the whole next state, or as what changes in it together with what does not. -/

open Sys2Proof Sys2Proof.Machine

/-! ## The machine as a whole -/

/-- The model's own (log entry 1): a step runs the command at the front of the queue with the queue's rest, and an empty queue
idles. -/
def Obligations.StepRunsTheFrontCommand : Prop :=
  (∀ (c : Instr) (rest : List Instr) (s : State), step { s with pending := c :: rest } = exec c { s with pending := rest }) ∧
  ∀ s : State, s.pending = [] → step s = .next s

/-- Every command answers a next state and leaves the commands that wait alone: the spec gives every event and request an effect, a
refusal with a reply, or none (2.3; log entry 1). -/
def Obligations.EveryCommandCompletesAndKeepsTheQueue : Prop :=
  ∀ (c : Instr) (s : State), ∃ t, exec c s = .next t ∧ t.pending = s.pending

/-! ## Resets and start-up (spec/11) -/

/-- RESETn (R197, R116; log entry 16). RESETN_ASSERT: the outputs go to 0, the port clocks stop, MISO is at high impedance, ATTN is
deasserted, a write in flight ends, no slot of the flash changes, and the part is held. While it is held only the rising edge acts.
RESETN_RELEASE: every block stands at the values of a power-on reset but for the flash, the banks and the delay memory's contents, which
start-up loads or clears, and the levels on the input pins; a part that is not held changes nothing. That the setup's settings stand at
their defaults from the release until step 3 of the start-up is the model's choice (log entry 10), as are the silence of the last 48 input
frames at the release (log entry 9), m = 0 and the target not engaged of the passthrough stage until the hand-over (log entry 29), and
that the length and bytes of a slot whose write is cut short stay as they are (log entry 38; R116 has it read ERASED). -/
def Obligations.ResetnHoldsAndReleasesThePart : Prop :=
  (∀ s : State, s.powered → ∃ t, exec .resetnAssert s = .next t ∧
    t.startUp.phase = .held ∧ t.attn = false ∧ t.pins.outL = 0 ∧ t.pins.outR = 0 ∧ t.portClocksRun = false ∧
    (∀ i : Fin 4, t.daout[i] = 0) ∧
    (∀ i, t.miso i = none) ∧
    t.store.engine = .idle ∧ t.store.presets = s.store.presets ∧ t.store.tables = s.store.tables ∧
    t.store.setup = s.store.setup ∧ t.delay.burst = none ∧ t.link.reading = none ∧ t.pending = s.pending) ∧
  (∀ (c : Instr) (s : State), s.startUp.phase = .held → c ≠ .resetnRelease → exec c s = .next s) ∧
  (∀ s : State,
    (s.startUp.phase = .held → exec .resetnRelease s = .next { State.reset with
      pins := { s.pins with outL := 0, outR := 0, sent := [] }
      chain := { State.reset.chain with banks := s.chain.banks }
      delay := { State.reset.delay with mem := s.delay.mem }
      store := { s.store with directory := State.reset.store.directory, engine := .idle }
      pending := s.pending }) ∧
    (s.powered → exec .resetnRelease s = .next s))

/-- RESET (R197, R116, R182): BUSY while the engine is WRITING; otherwise every block takes its reset values, the memory-present flag and
the enable mask are kept, start-up begins without a probe, and the queue holds the reply alone. That the setup's settings stand at their
defaults until step 3 of the start-up is the model's choice (log entry 10), as are m = 0 and the target not engaged of the passthrough
stage until the hand-over (log entry 29). -/
def Obligations.ResetRequestResetsUnlessBusy : Prop :=
  ∀ (s : State) (tag : Byte), s.accepting →
    (s.store.engine ≠ .idle → exec (.reset (requestFrame tag [])) s = .next (s.replied 0xA0 tag 8 [])) ∧
    (s.store.engine = .idle → exec (.reset (requestFrame tag [])) s = .next { State.reset with
      startUp := { State.reset.startUp with powerOn := false }
      pins := { s.pins with outL := 0, outR := 0, sent := [] }
      chain := { State.reset.chain with banks := s.chain.banks, history := s.chain.history }
      delay := { State.reset.delay with present := s.delay.present, mem := s.delay.mem }
      store := { s.store with directory := State.reset.store.directory, engine := .idle }
      link := { State.reset.link with
        mask := s.link.mask, queue := [{ kind := 0xA0, tag := tag, status := 0, payload := [] }] }
      pending := s.pending })

/-- What the rules state of a power-on reset, block by block (R2, R25, R37, R71, R76, R107, R119, R120, R124, R130, R133, R142,
R146, R158, R182, R184, R186). -/
def Obligations.PowerOnResetValues : Prop :=
  let s := State.reset
  s.chain.hasContext = false ∧ s.chain.mixer.phase = .single ∧ s.chain.stageClip = 0 ∧ s.chain.mainClip = false ∧
  s.pins.outL = 0 ∧ s.pins.outR = 0 ∧ s.sampleCounter = 0 ∧
  (∀ i : Fin 8, s.latches[i] = { value := false, hold := none }) ∧
  (∀ l : Fin 4, s.delay.lines[l].holder = .free ∧ s.delay.lines[l].wp = 0 ∧ s.delay.lines[l].span = 0 ∧
    s.delay.lines[l].underruns = 0 ∧ s.delay.lines[l].overruns = 0 ∧ s.delay.lines[l].readFifo = [] ∧
    s.delay.lines[l].writeFifo = [] ∧ s.delay.lines[l].window = []) ∧
  s.delay.present = false ∧ s.delay.lastServed = 7 ∧
  s.scenes.scene = .steady ∧ s.scenes.trails = [] ∧ s.scenes.lastRecall = 0 ∧ s.scenes.playing.source = .passthrough ∧
  s.scenes.playing.number = 0 ∧ s.scenes.playing.origin = .link ∧ s.scenes.playing.input = .a ∧
  s.scenes.playing.edited = false ∧ s.scenes.account = 2 ∧
  s.upload = [] ∧ s.store.engine = .idle ∧
  s.cues.queue = [] ∧ s.cues.lost = false ∧ s.cues.fifo = [] ∧ s.cues.overflow = false ∧ s.cues.frame = [] ∧
  s.cues.discards = 0 ∧
  (∀ i : Fin 8, s.cues.switches[i].state = .unknown ∧ s.cues.switches[i].count = 0 ∧ s.cues.switches[i].hold = 0 ∧
    s.cues.switches[i].holdRunning = false) ∧
  (∀ i : Fin 4, s.cues.pedals[i].plugged = true ∧ s.cues.pedals[i].run = 0 ∧ s.cues.pedals[i].raw = 0 ∧
    s.cues.pedals[i].value = 0 ∧ s.cues.pedals[i].lastSent = none) ∧
  s.tempo.beat = 24000 ∧ s.tempo.position = 0 ∧ s.tempo.restart = false ∧ s.tempo.source = .default ∧
  s.tempo.locked = false ∧ s.tempo.tapLast = none ∧ s.tempo.tapRun = [] ∧ s.tempo.clockLast = none ∧
  s.tempo.clockFirst = none ∧ s.tempo.clockRun = [] ∧ s.tempo.clockCount = 0 ∧ s.tempo.loss = none ∧
  s.tuner.mode = .off ∧ s.tuner.measure = .off ∧ s.tuner.y = 0 ∧ s.tuner.positive = false ∧ s.tuner.lastCrossing = none ∧
  s.tuner.first = none ∧ s.tuner.count = 0 ∧ s.tuner.sum = 0 ∧ s.tuner.loss = none ∧ s.tuner.latest = none ∧
  s.tuner.reported = .none ∧
  s.link.queue = [] ∧ s.link.tuner = none ∧ s.link.levels = none ∧ s.link.cues = none ∧ s.link.dropped = false ∧
  s.link.lost = false ∧ s.link.mask = 0x01FF ∧ s.attn = false

/-- DIRECTORY_SCAN (R105): each preset slot is VALID, with its header's length and its record's name, exactly when its three
conditions hold; nothing else changes but that start-up goes on. -/
def Obligations.DirectoryScanJudgesEverySlot : Prop :=
  ∀ s : State, s.startUp.phase = .directory → ∃ t, exec .directoryScan s = .next t ∧
    (∀ n : Fin 128,
      let f := s.store.presets[n]
      let bs := f.bytes.take f.length
      (t.store.directory[n] = some { length := f.length, name := readName bs } ∨ t.store.directory[n] = none) ∧
      (t.store.directory[n].isSome = true ↔
        f.valid = true ∧ 1 ≤ f.length ∧ f.length ≤ 1024 ∧ f.length ≤ f.bytes.length ∧ (validate bs).isOk = true)) ∧
    t = { s with
      startUp := { s.startUp with phase := .setup }
      store := { s.store with directory := t.store.directory } }

/-- SETUP_LOAD (R106, R198 step 3): a valid setup's settings and power-on preset, else the defaults and NONE. The setup slot is
valid exactly when its header reads VALID with the setup record's length and every field lies in its range (R106); the defaults
are those of R120, R124, R136, R142 and R158. The length of 215 is the model's choice (log entry 8). -/
def Obligations.SetupLoadTakesTheSetupOrTheDefaults : Prop :=
  (∀ slot : SetupSlot, slot.good = true ↔
    let v := slot.record.settings
    slot.valid = true ∧ slot.length = 215 ∧ v.tuner.toggle ≠ .off ∧ 4300 ≤ v.tuner.reference ∧ v.tuner.reference ≤ 4500 ∧
    1 ≤ v.tuner.window ∧ v.tuner.window ≤ 50 ∧ v.tuner.runLength ∈ [2, 4, 8, 16] ∧ 0 ≤ v.tuner.threshold ∧
    v.tuner.threshold ≤ 8388607 ∧ 2 ≤ v.debounceMs ∧ v.debounceMs ≤ 40 ∧ 300 ≤ v.holdMs ∧ v.holdMs ≤ 2000 ∧
    1 ≤ v.scanMs ∧ v.scanMs ≤ 20 ∧
    (∀ i : Fin 4, v.pedals[i].lo ≤ 1023 ∧ v.pedals[i].hi ≤ 1023 ∧ 1 ≤ v.pedals[i].deadband ∧ v.pedals[i].deadband ≤ 32) ∧
    1 ≤ v.watermark ∧ v.watermark ≤ 32) ∧
  (settingsDefault.tuner = ⟨.a, .mute, 4400, 20, 4, 65536⟩ ∧ settingsDefault.debounceMs = 8 ∧ settingsDefault.holdMs = 600 ∧
    settingsDefault.scanMs = 2 ∧ settingsDefault.watermark = 1 ∧
    settingsDefault.masks = #v[0x0FFF, 0x0F00, 0xFF00, 0x0000] ∧
    (∀ i : Fin 4, settingsDefault.pedals[i] = ⟨true, 32, 991, 4⟩) ∧
    ∀ n : Fin 24, settingsDefault.filters[n] =
      if h : n.val < 8 then ⟨true, BitVec.ofNat 16 n.val, .exact, .bind ⟨n.val, by omega⟩, false⟩
      else if h : n.val < 16 then ⟨true, BitVec.ofNat 16 (0x100 + (n.val - 8)), .exact, .bind ⟨n.val - 8, by omega⟩, false⟩
      else if h : n.val < 20 then ⟨true, BitVec.ofNat 16 (0x1300 + (n.val - 16)), .exact, .bind ⟨n.val - 8, by omega⟩, false⟩
      else if n.val = 20 then ⟨true, 0x0400, .mask 1, .startRecall 0, false⟩
      else ⟨false, 0, .exact, .none, false⟩) ∧
  ∀ s : State, s.startUp.phase = .setup → ∃ t, exec .setupLoad s = .next t ∧
    (let v := if s.store.setup.good then s.store.setup.record.settings else settingsDefault
     t.settings = v ∧ t.tuner = { s.tuner with settings := v.tuner } ∧
     (∀ i : Fin 4, t.cues.pedals[i] = { s.cues.pedals[i] with settings := v.pedals[i] })) ∧
    t.startUp = { s.startUp with
      phase := .banks
      setupValid := s.store.setup.good
      preset := if s.store.setup.good then s.store.setup.record.powerOn else none } ∧
    t.cues.switches = s.cues.switches ∧ t.cues.queue = s.cues.queue ∧ t.cues.fifo = s.cues.fifo ∧
    t.tempo = s.tempo ∧ t.chain = s.chain ∧ t.scenes = s.scenes ∧ t.latches = s.latches ∧ t.delay = s.delay ∧
    t.store = s.store ∧ t.upload = s.upload ∧ t.link = s.link ∧ t.pins = s.pins ∧ t.sampleCounter = s.sampleCounter

/-- BANK_LOAD (R10, R198 steps 4 and 5), in the scene state of a start-up: each bank takes its valid table slot's entries or the
identity curve, a table slot being valid by R106; after RESETn the probe follows, after RESET the clearing when the memory is present,
and with no memory the DELAY report and then STARTED are posted and start-up is over (R59, R199). That step 6 and what follows it
belong to the completing command is the model's choice (log entry 27). -/
def Obligations.BankLoadFillsEveryBank : Prop :=
  (∀ slot : TableSlot, slot.good = true ↔ slot.valid = true ∧ slot.length = 771 ∧ ∀ i : Fin 257, sampleOk slot.entries[i]) ∧
  ∀ s : State, s.startUp.phase = .banks → s.scenes.scene = .steady → ∃ t, exec .bankLoad s = .next t ∧
    (∀ n : Fin 8, s.store.tables[n].good = true → t.chain.banks[n] = s.store.tables[n].entries) ∧
    (∀ n : Fin 8, s.store.tables[n].good = false →
      (∀ i : Fin 257, i.val < 256 → t.chain.banks[n][i] = ((i.val : Int) - 128) * 65536) ∧
      t.chain.banks[n][(256 : Fin 257)] = 8388607) ∧
    (∀ n : Fin 8, t.startUp.tablesLoaded.getLsbD n.val = s.store.tables[n].good) ∧
    (s.startUp.powerOn = true → t.startUp.phase = .probe ∧ t.link = s.link) ∧
    (s.startUp.powerOn = false → s.delay.present = true → t.startUp.phase = .clear ∧ t.link = s.link) ∧
    (s.startUp.powerOn = false → s.delay.present = false → t.startUp.phase = .running ∧ t.chain.handover = true) ∧
    (s.startUp.powerOn = false → s.delay.present = false → s.scenes.lastRecall = 0 →
      startUpFinished (State.post { s with
        startUp := { s.startUp with tablesLoaded := t.startUp.tablesLoaded }
        chain := { s.chain with banks := t.chain.banks } } .delay 0 [0]) t) ∧
    t.store = s.store ∧ t.delay = s.delay ∧ t.latches = s.latches ∧ t.tempo = s.tempo ∧ t.tuner = s.tuner ∧ t.cues = s.cues

/-- MEMORY_PROBE and MEMORY_CLEAR (R58, R59, R198, R199): the memory is present exactly when all eight positions read back; then
it is cleared before start-up goes on; without it the DELAY report precedes STARTED. A probed position that read back holds its
pattern, and every other byte of the memory is as before. That the steps after the clearing belong to the completing command, that a
position which did not read back keeps what it held, and the order of the positions are the model's choices (log entries 25 and
27); the pattern is a free value. -/
def Obligations.MemoryProbeAndClearFinishStartUp : Prop :=
  ∀ s : State, s.scenes.scene = .steady → s.scenes.lastRecall = 0 →
    (s.startUp.phase = .probe →
      ∃ m, exec (.memoryProbe 0xFF) s = .next { s with
        startUp := { s.startUp with phase := .clear }, delay := { s.delay with present := true, mem := m } }) ∧
    (s.startUp.phase = .probe → ∀ readBack : BitVec 8, readBack ≠ 0xFF → ∃ t, exec (.memoryProbe readBack) s = .next t ∧
      t.delay = { s.delay with present := false, mem := t.delay.mem } ∧
      startUpFinished (({ s with delay := t.delay }).post .delay 0 [0]) t) ∧
    (s.startUp.phase = .probe → Memory.wf s.delay.mem = true → ∀ readBack : BitVec 8, ∃ t,
      exec (.memoryProbe readBack) s = .next t ∧
      (∀ (l : Fin 4) (j p : Nat), (j = 2 * l.val ∧ p = 0) ∨ (j = 2 * l.val + 1 ∧ p = 131071) →
        Memory.sample t.delay.mem l p =
          if readBack.getLsbD j then (Config.probePattern j).toInt else Memory.sample s.delay.mem l p) ∧
      (∀ (l : Fin 4) (p : Nat), 0 < p → p < 131071 → Memory.sample t.delay.mem l p = Memory.sample s.delay.mem l p)) ∧
    (s.startUp.phase = .clear → ∃ t, exec .memoryClear s = .next t ∧ t.delay = { s.delay with mem := [] } ∧
      (∀ a, Memory.read t.delay.mem a = 0) ∧ startUpFinished s t)

/-! ## The audio frame (spec/11 11.1) -/

/-- AUDIO_FRAME (R196, R119): every frame advances the sample counter, keeps its inputs for the block after next boundary, and
reads the pins; IN-A and IN-B are the samples in the first 24 bits of slots 0 and 1 of ADIN, and no other bit of ADIN is examined; a
frame on DAOUT carries 0 in slots 0 and 1, and OUT-L and OUT-R in slots 2 and 3, most significant bit first with eight bits 0 behind;
without a context DAOUT carries 0; no byte of the delay memory changes, since samples reach it by bursts alone
(R52), and the other blocks' settings and stores named stay. That the events which are due are settled before
the frame's own effect is the model's choice (log entries 2 and 13). -/
def Obligations.AudioFrameCountsAndKeepsItsInputs : Prop :=
  (∀ s : State, s.daout[0] = 0 ∧ s.daout[1] = 0 ∧
    (s.outputsOk → s.daout[2].toInt = 256 * s.pins.outL ∧ s.daout[3].toInt = 256 * s.pins.outR) ∧
    ∀ (slot : Fin 4) (clock : Fin 32), s.daoutBit slot clock = s.daout[slot].getLsbD (31 - clock.val)) ∧
  (∀ (s : State) (f g : FrameInputs), f.adin[0].extractLsb' 8 24 = g.adin[0].extractLsb' 8 24 →
    f.adin[1].extractLsb' 8 24 = g.adin[1].extractLsb' 8 24 → f.contacts = g.contacts → f.pedals = g.pedals →
    exec (.audioFrame f) s = exec (.audioFrame g) s) ∧
  ∀ (s : State) (f : FrameInputs), s.powered → ∃ t, exec (.audioFrame f) s = .next t ∧
    t.sampleCounter = s.sampleCounter + 1 ∧
    t.chain.history = s.chain.history.drop 1 ++ [((f.adin[0].extractLsb' 8 24).toInt, (f.adin[1].extractLsb' 8 24).toInt)] ∧
    t.pins.contacts = f.contacts ∧ t.pins.pedals = f.pedals ∧ t.pins.sent = s.pins.sent ∧
    (s.chain.hasContext = false → s.chain.handover = false →
      t.pins.outL = 0 ∧ t.pins.outR = 0 ∧ ∀ i : Fin 4, t.daout[i] = 0) ∧
    t.startUp = s.startUp ∧ t.store = s.store ∧ t.upload = s.upload ∧ t.chain.banks = s.chain.banks ∧
    t.cues.filters = s.cues.filters ∧ t.cues.masks = s.cues.masks ∧ t.cues.fifo = s.cues.fifo ∧
    t.cues.watermark = s.cues.watermark ∧ t.cues.overflow = s.cues.overflow ∧ t.cues.debounceMs = s.cues.debounceMs ∧
    t.cues.holdMs = s.cues.holdMs ∧ t.cues.scanMs = s.cues.scanMs ∧ t.cues.frame = s.cues.frame ∧
    t.cues.discards = s.cues.discards ∧ t.delay.mem = s.delay.mem ∧ t.delay.present = s.delay.present ∧
    t.tuner.settings = s.tuner.settings ∧ t.tuner.mode = s.tuner.mode ∧ t.scenes.lastRecall = s.scenes.lastRecall ∧
    t.link.mask = s.link.mask ∧ t.link.dropped = s.link.dropped

/-- AUDIO_FRAME moves the beat (R147, R153), in a state where no tempo event and no switch waits: a pending restart or the end of
the beat puts p at 0 with a beat event, else p goes up by one; the loss timer counts down. The hypotheses keep events that are due
away, whose settling is the model's choice (log entries 2 and 13). -/
def Obligations.AudioFrameMovesTheBeat : Prop :=
  ∀ (s : State) (f : FrameInputs), s.powered → s.scenes.scene = .steady →
    s.tempo.beatDue = false → s.tempo.clockCount < 8 → s.tempo.loss ≠ some 0 →
    ∃ t, exec (.audioFrame f) s = .next t ∧ t.tempo.beat = s.tempo.beat ∧ t.tempo.restart = false ∧
      (if s.tempo.restart = true ∨ s.tempo.beat ≤ s.tempo.position + 1 then t.tempo.position = 0 ∧ t.tempo.beatDue = true
       else t.tempo.position = s.tempo.position + 1 ∧ t.tempo.beatDue = false) ∧
      t.tempo.loss = s.tempo.loss.map (· - 1) ∧ t.tempo.source = s.tempo.source ∧ t.tempo.locked = s.tempo.locked ∧
      t.tempo.tapRun = s.tempo.tapRun ∧ t.tempo.clockRun = s.tempo.clockRun

/-- A playing context of one OUTPUT stage at unity, fully engaged and not muted by the tuner, sends IN-A of 48 frames before on both
channels (R4, R17, R35, R196): the oldest of the 48 frames that the part holds. That the frame settles a boundary which stands is the
model's choice (log entry 2). -/
def Obligations.PassthroughIsHeard48FramesLater : Prop :=
  ∀ (s : State) (f : FrameInputs) (st : Stage), s.powered → s.chain.hasContext = true → s.chain.mixer.phase = .single →
    s.scenes.scene = .steady → s.scenes.trails = [] → s.tuner.mode ≠ .mute →
    s.scenes.playing.input = .a → s.scenes.playing.stages = [st] →
    st.kind = .output → st.engage = 0x55 → st.default = false → st.params = [4096, 4096] → st.current = [4096, 4096] →
    st.previous = [4096, 4096] → st.m = 256 → st.target = true → s.latches[st.latch].value = false →
    s.chain.history.length = 48 → sampleOk (s.chain.history.headD (0, 0)).1 →
    ∃ t, exec (.audioFrame f) s = .next t ∧
      t.pins.outL = (s.chain.history.headD (0, 0)).1 ∧ t.pins.outR = (s.chain.history.headD (0, 0)).1 ∧
      t.daout[2].toInt = 256 * (s.chain.history.headD (0, 0)).1 ∧ t.daout[3].toInt = 256 * (s.chain.history.headD (0, 0)).1

/-- BLOCK_BOUNDARY (R3, R5, R32). In STEADY a context handed over is rendered from here; each stage of the playing context takes its
stored parameters, keeping for the ramps those of the block before, and its engage target; where no boundary stands nothing changes.
LEVELS and the clip flags (R22, R23): the flags raised by a sample stay set; at the boundary one LEVELS report carries all thirteen flags
and clears them, when the kind is enabled and a flag rose in the block just ended, or at the first boundary after the kind was enabled
when a flag is set (log entry 31); otherwise they stay. In a CROSSFADE or DIP whose phase has samples left the boundary does the same to
both contexts, the incoming one also where the OUT phase ends within the block, and a context that is not rendered takes its parameters
whole (R5, R20, R32). A GATE's gains are fixed (R16), a DELAY's offset glides and a read FIFO whose offset changed is empty (R41, R42,
R51). The clause on a boundary that does not stand is the model's choice (log entry 2), as is that the boundary's parts run in one order
(log entry 14), that a GATE's transition uses the stored parameters that come into force there (log entry 23), and that a block is taken
to have 48 samples at the counter's wrap too (log entry 12). -/
def Obligations.BlockBoundaryTakesParametersAndTargets : Prop :=
  (∀ s : State, s.powered →
    (s.sampleCounter.toNat % 48 ≠ 0 ∨ s.chain.boundaryTaken = true → exec .blockBoundary s = .next s) ∧
    (s.sampleCounter.toNat % 48 = 0 → s.chain.boundaryTaken = false → s.scenes.scene = .steady →
      s.chain.mixer.phase = .single → s.chain.hasContext = true ∨ s.chain.handover = true →
      ∃ t, exec .blockBoundary s = .next t ∧ t.chain.boundaryTaken = true ∧ t.chain.hasContext = true ∧
        t.chain.handover = false ∧
        (∀ (i : Nat) (st : Stage), s.scenes.playing.stages[i]? = some st →
          ∃ st' : Stage, t.scenes.playing.stages[i]? = some st' ∧
          st'.kind = st.kind ∧ st'.params = st.params ∧ st'.current = st.params ∧ st'.previous = st.current ∧
          st'.m = st.m ∧
          st'.target = st.engage.getLsbD ((if st.default then 4 else 0) + (if s.latches[st.latch].value then 2 else 0) +
            (if s.tuner.mode = .mute then 1 else 0)) ∧ stageOpened s true st st') ∧
        (s.linesOk → contextOpened s t true s.scenes.playing t.scenes.playing ∧
          ∀ l : Fin 4, (∀ n, s.delay.lines[l].holder ≠ .playing n) → t.delay.lines[l] = s.delay.lines[l]) ∧
        t.latches = s.latches ∧ t.tempo = { s.tempo with beatDue := false } ∧ t.tuner = s.tuner ∧ t.cues = s.cues ∧
        t.store = s.store ∧ t.pins = s.pins ∧ t.sampleCounter = s.sampleCounter ∧ t.delay.mem = s.delay.mem) ∧
    (s.sampleCounter.toNat % 48 = 0 → s.chain.boundaryTaken = false → s.chain.blockClosed = false →
      s.scenes.scene = .steady → s.chain.mixer.phase = .single →
      let c := s.chain
      let flags := c.stageClip.toNat + if c.mainClip then 4096 else 0
      let posts : Prop := (c.clipRose = true ∨ c.levelsCatchUp = true) ∧ flags ≠ 0 ∧ s.link.mask.getLsbD 3 = true
      ∃ t, exec .blockBoundary s = .next t ∧ t.chain.clipRose = false ∧ t.chain.levelsCatchUp = false ∧
        (posts → t.chain.stageClip = 0 ∧ t.chain.mainClip = false ∧
          t.link.levels = some ⟨0x44, 0, 0, [BitVec.ofNat 8 flags, BitVec.ofNat 8 (flags / 256)]⟩ ∧
          t.link.queue = s.link.queue) ∧
        (¬posts → t.chain.stageClip = c.stageClip ∧ t.chain.mainClip = c.mainClip ∧ t.link = s.link))) ∧
  (∀ (s : State) (c : Context) (q : Option QueuedRecall), s.powered → s.sampleCounter.toNat % 48 = 0 →
    s.chain.boundaryTaken = false → s.chain.hasContext = true → s.linesOk → s.chain.mixer.k < s.chain.mixer.length →
    (s.scenes.scene = .crossfade c q → s.chain.mixer.phase = .crossfade →
      ∃ (t : State) (c' : Context), exec .blockBoundary s = .next t ∧ t.scenes.scene = .crossfade c' q ∧
        t.chain.mixer = s.chain.mixer ∧ contextOpened s t true s.scenes.playing t.scenes.playing ∧ contextOpened s t true c c') ∧
    (s.scenes.scene = .dip c q → s.chain.mixer.phase = .dipOut →
      ∃ (t : State) (c' : Context), exec .blockBoundary s = .next t ∧ t.scenes.scene = .dip c' q ∧
        t.chain.mixer = s.chain.mixer ∧ contextOpened s t true s.scenes.playing t.scenes.playing ∧
        contextOpened s t (decide (s.chain.mixer.length - s.chain.mixer.k < 48)) c c') ∧
    (s.scenes.scene = .dip c q → s.chain.mixer.phase = .dipIn →
      ∃ (t : State) (c' : Context), exec .blockBoundary s = .next t ∧ t.scenes.scene = .dip c' q ∧
        t.chain.mixer = s.chain.mixer ∧ contextOpened s t false s.scenes.playing t.scenes.playing ∧ contextOpened s t true c c')) ∧
  ∀ (c : Chain) (stages : BitVec 12) (main : Bool),
    (c.raise stages main).stageClip = c.stageClip ||| stages ∧ (c.raise stages main).mainClip = (c.mainClip || main) ∧
    ((c.raise stages main).clipRose = true ↔ c.clipRose = true ∨
      (∃ i, stages.getLsbD i = true ∧ c.stageClip.getLsbD i = false) ∨ (main = true ∧ c.mainClip = false))

/-! ## Stage arithmetic (spec/01, spec/02) -/

/-- GATE (R15, R16) and GATE_HOLD_END: the state after the boundary that ends a block in which the gate was computed (a hold counter that
reaches 0 there leaves the gate HOLDING for GATE_HOLD_END), the gain that the next block reaches, and the end of a hold, with the release
and floor in force in the block that the boundary began, so that an edit after that boundary does not alter it (R3). One sample of a GATE
stage (R15, R16, R34, R36): its gain, output, peak and fresh start. The parameters are open, close, attack, hold, release, floor. The
parameters the transitions use, GATE_HOLD_END as an event of its own, and the clause on a hold that has not ended are the model's choices
(log entries 2 and 23). -/
def Obligations.GateStatesGainsAndHoldEnd : Prop :=
  (∀ (opn cls atk hld rel flo : Int) (g : GateRun), g.computed = true →
    (gateClose [opn, cls, atk, hld, rel, flo] g).state =
      (match g.state with
       | .closed => if opn ≤ g.peak then .opening else .closed
       | .opening => if g.gg = 4096 then .opened else .opening
       | .opened => if g.peak < cls then (if 1 ≤ hld then .holding else .closing) else .opened
       | .holding => if cls ≤ g.peak then .opened else .holding
       | .closing => if opn ≤ g.peak then .opening else if g.gg = flo then .closed else .closing) ∧
    (g.state = .opened → g.peak < cls → 1 ≤ hld → ((gateClose [opn, cls, atk, hld, rel, flo] g).hold : Int) = hld) ∧
    (g.state = .holding → g.peak < cls → (gateClose [opn, cls, atk, hld, rel, flo] g).hold = g.hold - 1)) ∧
  (∀ (opn cls atk hld rel flo : Int) (g : GateRun), g.computed = false →
    (gateClose [opn, cls, atk, hld, rel, flo] g).state = g.state) ∧
  (∀ (opn cls atk hld rel flo : Int) (g : GateRun), 1 ≤ atk → 1 ≤ rel →
    (gateFix [opn, cls, atk, hld, rel, flo] g).ggStart = g.gg ∧
    (g.state = .opened ∨ g.state = .holding → (gateFix [opn, cls, atk, hld, rel, flo] g).ggEnd = 4096) ∧
    (g.state = .closed → (gateFix [opn, cls, atk, hld, rel, flo] g).ggEnd = flo) ∧
    (g.state = .opening → ∃ sa, 1 ≤ sa ∧ 4096 - flo ≤ sa * atk ∧ (1 < sa → (sa - 1) * atk < 4096 - flo) ∧
      (gateFix [opn, cls, atk, hld, rel, flo] g).ggEnd = min 4096 (g.gg + sa)) ∧
    (g.state = .closing → ∃ sr, 1 ≤ sr ∧ 4096 - flo ≤ sr * rel ∧ (1 < sr → (sr - 1) * rel < 4096 - flo) ∧
      (gateFix [opn, cls, atk, hld, rel, flo] g).ggEnd = max flo (g.gg - sr))) ∧
  (∀ (s : State) (stage : Fin 12) (st : Stage) (g : GateRun), s.powered →
    s.scenes.playing.stages[stage.val]? = some st → st.run = .gate g → g.state = .holding → g.hold = 0 →
    let st' : Stage := { st with run := .gate (gateFix st.current { g with state := .closing }) }
    let playing : Context := { s.scenes.playing with stages := s.scenes.playing.stages.set stage.val st' }
    exec (.gateHoldEnd false stage) s = .next { s with scenes := { s.scenes with playing := playing } }) ∧
  (∀ (s : State) (stage : Fin 12) (c : Context) (q : Option QueuedRecall) (st : Stage) (g : GateRun), s.powered →
    s.scenes.scene = .crossfade c q → c.stages[stage.val]? = some st → st.run = .gate g → g.state = .holding → g.hold = 0 →
    let st' : Stage := { st with run := .gate (gateFix st.current { g with state := .closing }) }
    let scene : Scene := .crossfade { c with stages := c.stages.set stage.val st' } q
    exec (.gateHoldEnd true stage) s = .next { s with scenes := { s.scenes with scene := scene } }) ∧
  (∀ (st : Stage) (g : GateRun) (banks : Vector Table 8) (k : Nat) (p : Port) (x : Int), st.kind = .gate → st.run = .gate g →
    let m := st.stepRamp.m
    let flo := st.current.getD 5 0
    let g' : GateRun := if st.m = 0 ∧ st.target = true then ⟨.closed, flo, flo, flo, 0, 0, false⟩ else g
    let gg := g'.ggStart + (g'.ggEnd - g'.ggStart) * ((k : Int) + 1) / 48
    let o := st.render banks k p x
    o.port = p ∧ o.clip = false ∧ (m = 0 → o.stage = { st with m := 0 } ∧ o.out = x) ∧
    (m ≠ 0 → o.out = x + ((sat (round12 (x * gg)) - x) * m + 128) / 256 ∧
      o.stage = { st with
        m := m
        run := .gate { g' with gg := gg, peak := max g'.peak (min 8388607 (x.natAbs : Int)), computed := true } })) ∧
  (∀ (s : State) (stage : Fin 12) (st : Stage) (g : GateRun), s.powered →
    s.scenes.playing.stages[stage.val]? = some st → st.run = .gate g → g.state ≠ .holding ∨ g.hold ≠ 0 →
    exec (.gateHoldEnd false stage) s = .next s)

/-- GAIN (R6): its output and flag at every gain, inverted or not; at unity every sample passes and no flag is set; at 0 every output is
0; inverted at unity every sample is negated, and the least sample saturates with its flag. A gain-format parameter's ramp over the block,
and its end (R5). One sample of a GAIN and of a BIQUAD stage with its engage ramp and fresh start (R34, R36). Engage ramp and blend (R31,
R33, R34): a rendered stage moves one step toward its target within 0..256 and no further; the blend at 256 is the stage's own output, at
0 its input, and otherwise between the two. BIQUAD (R7): the exact accumulator, rounded and saturated, and the shift of its state. DELAY
(R42..R45, R59): the read of its line, the tone filter, the line's feed and input, the output by trail bit and ramp position, the dry
stage without a line, and the glide of its offset. -/
def Obligations.GainAndEngageRampKeepTheirEnds : Prop :=
  (∀ x : Int, sampleOk x → gainOut 4096 false x = (x, false)) ∧
  (∀ x : Int, gainOut 0 false x = (0, false)) ∧
  (∀ x : Int, sampleOk x → x ≠ sampleMin → gainOut 4096 true x = (-x, false)) ∧
  gainOut 4096 true sampleMin = (8388607, true) ∧
  (∀ (g : Int) (inv : Bool) (x : Int), sampleOk (gainOut g inv x).1) ∧
  (∀ st : Stage, st.m ≤ 256 →
    st.stepRamp.m = (if st.target then (if st.m < 256 then st.m + 1 else 256) else (if 0 < st.m then st.m - 1 else 0)) ∧
    st.stepRamp.m ≤ 256) ∧
  (∀ (x y : Int), blendAt x y 256 = y ∧ blendAt x y 0 = x) ∧
  (∀ (x y : Int) (m : Nat), m ≤ 256 → min x y ≤ blendAt x y m ∧ blendAt x y m ≤ max x y) ∧
  (∀ (g : Int) (inv : Bool) (x : Int),
    let x' := if inv then max (-8388608) (min 8388607 (-x)) else x
    let v := (x' * g + 2048) / 4096
    (gainOut g inv x).1 = max (-8388608) (min 8388607 v) ∧
    ((gainOut g inv x).2 = true ↔ (inv = true ∧ x' ≠ -x) ∨ max (-8388608) (min 8388607 v) ≠ v)) ∧
  (∀ (st : Stage) (id k : Nat),
    let old := st.previous.getD id 0
    let new := st.current.getD id 0
    st.rampedAt id k = old + (new - old) * ((k : Int) + 1) / 48 ∧ st.rampedAt id 47 = new ∧
    (k ≤ 47 → min old new ≤ st.rampedAt id k ∧ st.rampedAt id k ≤ max old new)) ∧
  (∀ (st : Stage) (banks : Vector Table 8) (k : Nat) (p : Port) (x : Int), st.kind = .gain → st.run = .none →
    let m := st.stepRamp.m
    let y := gainOut (st.rampedAt 0 k) (decide (st.current.getD 1 0 = 1)) x
    let o := st.render banks k p x
    o.stage = { st with m := m } ∧ o.port = p ∧ o.out = (if m = 0 then x else x + ((y.1 - x) * m + 128) / 256) ∧
    (o.clip = true ↔ m ≠ 0 ∧ y.2 = true)) ∧
  (∀ (st : Stage) (b : BiquadRun) (banks : Vector Table 8) (k : Nat) (p : Port) (x : Int), st.kind = .biquad → st.run = .biquad b →
    let m := st.stepRamp.m
    let y := biquadOut st.current (if st.m = 0 ∧ st.target = true then ⟨0, 0, 0, 0⟩ else b) x
    let o := st.render banks k p x
    o.port = p ∧ (m = 0 → o.stage = { st with m := 0 } ∧ o.out = x ∧ o.clip = false) ∧
    (m ≠ 0 → o.stage = { st with m := m, run := .biquad y.2 } ∧ o.out = x + ((y.1.1 - x) * m + 128) / 256 ∧
      o.clip = y.1.2)) ∧
  (∀ (b0 b1 b2 a1 a2 x : Int) (g : BiquadRun),
    let acc := b0 * x + b1 * g.x1 + b2 * g.x2 - a1 * g.y1 - a2 * g.y2
    let y := max (-8388608) (min 8388607 ((acc + 2097152) / 4194304))
    (biquadOut [b0, b1, b2, a1, a2] g x).1.1 = y ∧
    ((biquadOut [b0, b1, b2, a1, a2] g x).1.2 = true ↔ (acc + 2097152) / 4194304 ≠ y) ∧
    (biquadOut [b0, b1, b2, a1, a2] g x).2 = { x1 := x, x2 := g.x1, y1 := y, y2 := g.y1 }) ∧
  (∀ (st : Stage) (dr : DelayRun) (l : Fin 4) (banks : Vector Table 8) (k : Nat) (p : Port) (x : Int),
    st.kind = .delay → st.run = .delay dr → dr.line = some l →
    let m := st.stepRamp.m
    let trail : Prop := st.current.getD 8 0 = 1
    let ln := p.delay.lines[l]
    let got := ln.deliver dr.offset dr.r
    let w := sat (dr.w + ((got.1 - dr.w) * st.current.getD 4 0 + 4194304) / 8388608)
    let u := (if trail then (x * m + 128) / 256 else if m = 0 then 0 else x) + round12 (w * st.rampedAt 3 k)
    let v := round12 (x * st.rampedAt 5 k) + round12 (w * st.rampedAt 6 k)
    let o := st.render banks k p x
    o.stage = { st with m := m, run := .delay { dr with w := w, r := got.1 } } ∧
    o.out = (if trail then sat v else x + ((sat v - x) * m + 128) / 256) ∧
    (o.clip = true ↔ sat u ≠ u ∨ sat v ≠ v) ∧
    o.port.delay.lines[l] = Line.input { ln with
      underruns := if got.2 then min 65535 (ln.underruns + 1) else ln.underruns
      readFifo := ln.readFifo.filter fun e => e.1 ≠ positionAt ln.wp dr.offset } (sat u) ∧
    (∀ l' : Fin 4, l' ≠ l → o.port.delay.lines[l'] = p.delay.lines[l']) ∧ o.port.delay.mem = p.delay.mem) ∧
  (∀ (st : Stage) (dr : DelayRun) (banks : Vector Table 8) (k : Nat) (p : Port) (x : Int),
    st.kind = .delay → st.run = .delay dr → dr.line = none →
    let m := st.stepRamp.m
    let v := round12 (x * st.rampedAt 5 k)
    let o := st.render banks k p x
    o.stage = { st with m := m } ∧ o.out = x + ((sat v - x) * m + 128) / 256 ∧ (o.clip = true ↔ sat v ≠ v) ∧ o.port = p) ∧
  (∀ d target g : Nat, glide d target g =
    if g = 0 then target
    else if d < target then (if target - d ≤ g then target else d + g)
    else if d - target ≤ g then target else d - g)

/-- SHAPER (R9): pre-gain, bias, the interpolated curve and post-gain, each saturation setting the flag, for every bank and every
value of the four parameters, the curve reading entries i and i + 1 of 0..256 alone; and one sample of a SHAPER stage with its ramped
gains, its bank and its engage ramp (R5, R34). Through the identity curve a sample below 8,323,072 passes unchanged; from there on the
output is the sample or one below it (R10). -/
def Obligations.IdentityCurvePassesSamples : Prop :=
  (∀ u : Int, sampleOk u →
    (u < 8323072 → Table.curve identityTable u = u) ∧
    (8323072 ≤ u → Table.curve identityTable u = u ∨ Table.curve identityTable u = u - 1)) ∧
  (∀ (t : Table) (gp bias gq x : Int),
    let v := (x * gp + 2048) / 4096
    let w := max (-8388608) (min 8388607 v) + bias
    let u := max (-8388608) (min 8388607 w)
    let y := Table.curve t u
    let z := (y * gq + 2048) / 4096
    (shaperOut t gp bias gq x).1 = max (-8388608) (min 8388607 z) ∧
    ((shaperOut t gp bias gq x).2 = true ↔
      max (-8388608) (min 8388607 v) ≠ v ∨ u ≠ w ∨ max (-8388608) (min 8388607 z) ≠ z)) ∧
  (∀ (t : Table) (u : Int), sampleOk u → ∃ (i : Fin 256) (f : Int), u + 8388608 = 65536 * (i.val : Int) + f ∧ 0 ≤ f ∧ f < 65536 ∧
    (let a : Int := t[i.val]
     let b : Int := t[i.val + 1]
     Table.curve t u = a + ((b - a) * f + 32768) / 65536 ∧ min a b ≤ Table.curve t u ∧ Table.curve t u ≤ max a b)) ∧
  (∀ (st : Stage) (banks : Vector Table 8) (bank : Fin 8) (k : Nat) (p : Port) (x : Int), st.kind = .shaper → st.run = .none →
    st.current.getD 2 0 = (bank.val : Int) →
    let m := st.stepRamp.m
    let y := shaperOut banks[bank] (st.rampedAt 0 k) (st.current.getD 1 0) (st.rampedAt 3 k) x
    let o := st.render banks k p x
    o.stage = { st with m := m } ∧ o.port = p ∧ o.out = (if m = 0 then x else x + ((y.1 - x) * m + 128) / 256) ∧
    (o.clip = true ↔ m ≠ 0 ∧ y.2 = true))

/-- The mixer (R19, R20) and DIP_IN: the last sample of a crossfade or of a dip's IN phase is the incoming context's, the last of the OUT
phase is 0, a blend lies between its ends, whichever is the greater, and after the last OUT sample the IN phase begins, the arbiter
looking at the requests that stand then (R54). OUTPUT (R17, R35): the pair at every left and right gain, ramped over the block, scaled by
the ramp position, silent at 0, and the flag. One rendered sample (R4, R19..R22): the contexts that the phase renders, the mixed pair, the
sum with the trails and its saturation, the flags raised, and the mixer's position. The clause on a DIP_IN that is not due is the model's
choice (log entry 2), as is that a DIP_IN inside a block leaves the parameters in force as they are (log entry 37), and the order in which
the arbiter sees the lines of the playing context, the incoming one and the trails within one sample (log entry 15). -/
def Obligations.MixerEndsAndDipIn : Prop :=
  (∀ (old new : Int) (n : Nat), 0 < n → crossfadeMix old new n n = new) ∧
  (∀ (old new : Int) (k n : Nat), 0 < n → k ≤ n →
    min old new ≤ crossfadeMix old new k n ∧ crossfadeMix old new k n ≤ max old new) ∧
  (∀ (m : Mixer) (old new : Pair),
    let n : Int := m.length
    let h : Int := (m.length / 2 : Nat)
    let k : Int := (m.k : Int) + 1
    m.mix old new = match m.phase with
      | .single => old
      | .crossfade => (old.1 + ((new.1 - old.1) * k + h) / n, old.2 + ((new.2 - old.2) * k + h) / n)
      | .dipOut => (old.1 + ((0 - old.1) * k + h) / n, old.2 + ((0 - old.2) * k + h) / n)
      | .dipIn => ((new.1 * k + h) / n, (new.2 * k + h) / n)) ∧
  (∀ (st : Stage) (banks : Vector Table 8) (k : Nat) (p : Port) (x : Int), st.kind = .output → st.run = .none →
    let m := st.stepRamp.m
    let l := (x * st.rampedAt 0 k + 2048) / 4096
    let r := (x * st.rampedAt 1 k + 2048) / 4096
    let o := st.render banks k p x
    o.stage = { st with m := m } ∧ o.port = p ∧
    o.pair = (if m = 0 then (0, 0) else ((sat l * m + 128) / 256, (sat r * m + 128) / 256)) ∧
    (o.clip = true ↔ m ≠ 0 ∧ (sat l ≠ l ∨ sat r ≠ r))) ∧
  (∀ (s : State) (k : Nat) (ab : Pair), s.chain.hasContext = false → s.renderSample k ab = (s, (0, 0))) ∧
  (∀ (s : State) (k : Nat) (ab : Pair), s.chain.hasContext = true →
    let start : Port := { delay := s.delay, readers := s.readers }
    let old := s.scenes.playing.render s.chain.banks k start ab
    let sums (mixed : Pair) (p : Port) (flags : BitVec 12) (input : Bool) : Prop :=
      let t := renderTrails s.scenes.trails p
      let l := mixed.1 + t.2.2.1
      let r := mixed.2 + t.2.2.2
      let u := s.renderSample k ab
      u.2 = (max (-8388608) (min 8388607 l), max (-8388608) (min 8388607 r)) ∧ u.1.scenes.trails = t.1 ∧
      u.1.delay = t.2.1.delay ∧ u.1.chain.stageClip = s.chain.stageClip ||| flags ∧
      (u.1.chain.mainClip = true ↔ s.chain.mainClip = true ∨ input = true ∨ u.2 ≠ (l, r)) ∧
      u.1.chain.mixer = { s.chain.mixer with k := if s.chain.mixer.phase = .single then s.chain.mixer.k else s.chain.mixer.k + 1 }
    (s.chain.mixer.phase = .single → sums old.pair old.port old.clips old.sumClip) ∧
    (s.chain.mixer.phase = .dipOut → sums (s.chain.mixer.mix old.pair (0, 0)) old.port old.clips old.sumClip) ∧
    (∀ c, s.scenes.scene.built = some c →
      (s.chain.mixer.phase = .crossfade →
        let new := c.render s.chain.banks k old.port ab
        sums (s.chain.mixer.mix old.pair new.pair) new.port old.clips old.sumClip) ∧
      (s.chain.mixer.phase = .dipIn →
        let new := c.render s.chain.banks k start ab
        sums (s.chain.mixer.mix (0, 0) new.pair) new.port 0 false))) ∧
  (∀ (old : Int) (n : Nat), 0 < n → dipOutMix old n n = 0) ∧
  (∀ (new : Int) (n : Nat), 0 < n → dipInMix new n n = new) ∧
  (∀ s : State, s.powered → s.chain.mixer.phase = .dipOut → s.chain.mixer.length ≤ s.chain.mixer.k →
    let s' : State := { s with chain := { s.chain with
      mixer := { phase := .dipIn, k := 0, length := s.chain.mixer.length } } }
    exec .dipIn s = .next { s' with delay := s'.delay.arbitrate s'.readers }) ∧
  (∀ s : State, s.powered → s.chain.mixer.phase = .dipOut → s.chain.mixer.k < s.chain.mixer.length →
    exec .dipIn s = .next s)

/-! ## Delay memory and trails (spec/03) -/

/-- READ_BURST_COMPLETE and WRITE_BURST_COMPLETE (R55, R39, R52, R54): a read's samples join its FIFO in position order; a write's
samples are in the memory, each read back at its position, and leave their FIFO, unless their allocation has ended, and every byte
of memory outside them reads as before. The burst is then over and the arbiter looks again; a completion with no such burst in
flight changes nothing (log entry 2). The address of a sample and its byte order are the model's choices where section 3.1 is silent
(log entry 7). -/
def Obligations.BurstCompletionsMoveTheirSamples : Prop :=
  (∀ (s : State) (l : Fin 4) (wanted : List Nat), s.powered → s.delay.burst = some (.read l wanted) →
    let ln : Line := { s.delay.lines[l] with
      readFifo := s.delay.lines[l].readFifo ++ wanted.map fun p => (p, Memory.sample s.delay.mem l p) }
    let s' : State := { s with delay := { s.delay with lines := s.delay.lines.set l ln, burst := none } }
    exec .readBurstComplete s = .next { s' with delay := s'.delay.arbitrate s'.readers }) ∧
  (∀ (s : State) (l : Fin 4) (entries : List (Nat × Int)) (stale : Bool), s.powered →
    s.delay.burst = some (.write l entries stale) →
    let ln : Line := { s.delay.lines[l] with
      writeFifo := if stale then s.delay.lines[l].writeFifo else s.delay.lines[l].writeFifo.drop entries.length }
    ∃ m,
      let s' : State := { s with delay := { s.delay with lines := s.delay.lines.set l ln, burst := none, mem := m } }
      exec .writeBurstComplete s = .next { s' with delay := s'.delay.arbitrate s'.readers } ∧
      (∀ a : Nat, (∀ e ∈ entries, a < sampleAddress l e.1 ∨ sampleAddress l e.1 + 3 ≤ a) →
        Memory.read m a = Memory.read s.delay.mem a) ∧
      (Memory.wf s.delay.mem = true → entries.Pairwise (fun e f => e.1 ≠ f.1) → (∀ e ∈ entries, sampleOk e.2) →
        ∀ e ∈ entries, Memory.sample m l e.1 = e.2)) ∧
  (∀ (d : DelayMemory) (readers : Vector Reader 4), (d.arbitrate readers).lines = d.lines ∧
    (d.arbitrate readers).mem = d.mem ∧ (d.arbitrate readers).present = d.present) ∧
  (∀ s : State, s.powered → s.delay.burst = none →
    exec .readBurstComplete s = .next s ∧ exec .writeBurstComplete s = .next s)

/-- The arbiter (R54): an idle port with a request standing is granted at once to a requesting FIFO; to an urgent one when one is
urgent; and to the first of its class in the ring after the last served; a busy port or one for which no request stands is left as
it is. When several requests arise together the arbiter looks once (log entry 15); the statement is about one look. A read FIFO asks
at a fill of 16 or less with a position to fetch, urgently at 8 or less; a write FIFO at 16 or more, urgently at 24 or more, or with a
cutting trail's remainder (R53). A read burst fetches up to 16 positions in order from the one after the last held, or from the
reader's next position, up to the recent window (R51); a write burst carries the 16 oldest entries or all of fewer (R52). Positions
beyond the written span are fetched too (log entry 32). -/
def Obligations.ArbiterServesUrgentFirstInRingOrder : Prop :=
  (∀ (d : DelayMemory) (readers : Vector Reader 4), d.burst ≠ none ∨ (∀ i, d.ringRequest readers i = none) →
    d.arbitrate readers = d) ∧
  (∀ (d : DelayMemory) (readers : Vector Reader 4) (l : Fin 4),
    let ln := d.lines[l]
    d.ringRequest readers ⟨2 * l.val, by omega⟩ =
      (if ln.readFifo.length ≤ 16 ∧ ln.fetchable readers[l] ≠ [] then some (decide (ln.readFifo.length ≤ 8)) else none) ∧
    d.ringRequest readers ⟨2 * l.val + 1, by omega⟩ =
      (if 16 ≤ ln.writeFifo.length ∨ (readers[l].remainder = true ∧ ln.writeFifo ≠ []) then
        some (decide (24 ≤ ln.writeFifo.length)) else none) ∧
    d.issue readers ⟨2 * l.val, by omega⟩ = .read l (ln.fetchable readers[l]) ∧
    d.issue readers ⟨2 * l.val + 1, by omega⟩ = .write l (ln.writeFifo.take 16) false) ∧
  (∀ (ln : Line) (reader : Reader),
    ((∀ age, reader.age = some age → age ≤ 64) → ln.fetchable reader = []) ∧
    (∀ age : Int, reader.age = some age → 64 < age →
      let start : Int := match ln.readFifo.getLast? with
        | some e => (e.1 : Int) + 1
        | none => (ln.wp : Int) + (if reader.ahead then 1 else 0) - age
      let inWindow (p : Nat) : Prop :=
        1 ≤ (ln.wp + 131072 - p) % 131072 ∧ (ln.wp + 131072 - p) % 131072 ≤ ln.window.length
      let ps := ln.fetchable reader
      ps.length ≤ 16 ∧ (∀ i p : Nat, ps[i]? = some p → (p : Int) = (start + i) % 131072 ∧ ¬inWindow p) ∧
      (ps.length < 16 → inWindow ((start + ps.length) % 131072).toNat))) ∧
  ∀ (d : DelayMemory) (readers : Vector Reader 4), d.burst = none → (∃ i, d.ringRequest readers i ≠ none) →
    ∃ j : Nat, j < 8 ∧
      let i := Fin.ofNat 8 (d.lastServed.val + 1 + j)
      (d.arbitrate readers).burst = some (d.issue readers i) ∧ (d.arbitrate readers).lastServed = i ∧
      d.ringRequest readers i ≠ none ∧
      ((∃ i', d.ringRequest readers i' = some true) → d.ringRequest readers i = some true) ∧
      (∀ j' < j, d.ringRequest readers (Fin.ofNat 8 (d.lastServed.val + 1 + j')) ≠ some true ∧
        (d.ringRequest readers i ≠ some true → d.ringRequest readers (Fin.ofNat 8 (d.lastServed.val + 1 + j')) = none))

/-- The delay memory (spec/03, 3.1; log entries 6 and 7): a byte reads as it was last written and every other byte as before, in any
memory in canonical form; a sample written reads back, and samples at other positions of the part's four lines are untouched. One
read of a line (R43, R50, R56): 0 beyond the span, the recent window up to age 64, else the read FIFO's head entry when it is for the
position read, else the value before with an underrun. One line input (R44, R50, R52): wp and span go on, the window takes it, and so
does the write FIFO unless it is full, which counts an overrun. -/
def Obligations.DelayMemoryReadsWhatWasWritten : Prop :=
  (∀ (m : List Host.Cell) (a b : Nat) (v : Byte), Memory.wf m = true →
    Memory.read (Memory.write m a v) b = if b = a then v else Memory.read m b) ∧
  (∀ (m : List Host.Cell) (l : Fin 4) (p : Nat) (v : Int), Memory.wf m = true → sampleOk v →
    Memory.sample (Memory.writeSample m l p v) l p = v) ∧
  (∀ (m : List Host.Cell) (l l' : Fin 4) (p p' : Nat) (v : Int), Memory.wf m = true → p < 131072 → p' < 131072 →
    (l, p) ≠ (l', p') → Memory.sample (Memory.writeSample m l p v) l' p' = Memory.sample m l' p') ∧
  (∀ (ln : Line) (age prev : Int),
    (age ≤ 0 ∨ (ln.span : Int) < age → ln.deliver age prev = (0, false)) ∧
    (1 ≤ age → age ≤ ln.span → age ≤ 64 → ln.deliver age prev = (ln.window.getD (age - 1).toNat 0, false)) ∧
    (64 < age → age ≤ ln.span →
      (∀ p v rest, ln.readFifo = (p, v) :: rest → (p : Int) = ((ln.wp : Int) - age) % 131072 → ln.deliver age prev = (v, false)) ∧
      ((∀ p v rest, ln.readFifo = (p, v) :: rest → (p : Int) ≠ ((ln.wp : Int) - age) % 131072) →
        ln.deliver age prev = (prev, true)))) ∧
  (∀ (ln : Line) (v : Int), ln.input v = { ln with
    wp := (ln.wp + 1) % 131072
    span := min 131072 (ln.span + 1)
    window := (v :: ln.window).take 64
    writeFifo := if ln.writeFifo.length < 32 then ln.writeFifo ++ [(ln.wp, v)] else ln.writeFifo
    overruns := if ln.writeFifo.length < 32 then ln.overruns else min 65535 (ln.overruns + 1) })

/-- TRAIL_OWN_END and TRAIL_FADE_END (R48, R49, R39): a running trail with a quiet count of 48 or an age of 10,000 begins its fade
and its line's holder becomes CUTTING; a trail that has faded leaves the list and its line is FREE and empty; other trails stay.
One sample of a running trail (R47) and of sample j of a fade (R49): what it reads, computes, writes and gives to each channel; and the
account of a block (R48). That each end is an event of its own is the model's choice (log entries 2 and 14), as is that a trail cut
between boundaries has no account at the boundary where its fade begins (log entry 36). -/
def Obligations.TrailsEndByThemselvesAndAfterTheirFade : Prop :=
  (∀ (s : State) (older : List Trail) (t : Trail) (younger : List Trail), s.powered →
    s.scenes.trails = older ++ t :: younger → (∀ u ∈ older ++ younger, u.line ≠ t.line) → t.state = .running → 48 ≤ t.quiet ∨ 10000 ≤ t.age →
    ∃ s', exec (.trailOwnEnd t.line) s = .next s' ∧
      s'.scenes = { s.scenes with trails := older ++ { t with state := .cutting 0 } :: younger } ∧
      s'.delay.lines[t.line] = { s.delay.lines[t.line] with holder := .cutting } ∧
      (∀ l : Fin 4, l ≠ t.line → s'.delay.lines[l] = s.delay.lines[l]) ∧ s'.delay.mem = s.delay.mem ∧
      s' = { s with scenes := s'.scenes, delay := s'.delay }) ∧
  (∀ (s : State) (older : List Trail) (t : Trail) (younger : List Trail) (j : Nat), s.powered →
    s.scenes.trails = older ++ t :: younger → (∀ u ∈ older ++ younger, u.line ≠ t.line) → t.state = .cutting j → 256 ≤ j →
    ∃ s', exec (.trailFadeEnd t.line) s = .next s' ∧ s'.scenes = { s.scenes with trails := older ++ younger } ∧
      s'.delay.lines[t.line] = { s.delay.lines[t.line] with holder := .free, readFifo := [], writeFifo := [], window := [] } ∧
      (∀ l : Fin 4, l ≠ t.line → s'.delay.lines[l] = s.delay.lines[l]) ∧ s'.delay.mem = s.delay.mem ∧
      s' = { s with scenes := s'.scenes, delay := s'.delay }) ∧
  (∀ (t : Trail) (p : Port), t.state = .running ∨ t.state = .cutWait →
    let ln := p.delay.lines[t.line]
    let got := ln.deliver t.offset t.r
    let w := sat (t.w + ((got.1 - t.w) * t.tone + 4194304) / 8388608)
    let v := round12 (w * t.wet)
    (t.render p).trail = { t with w := w, r := got.1, peak := max t.peak v.natAbs } ∧
    (t.render p).pair = (round12 (v * t.gainL), round12 (v * t.gainR)) ∧
    (t.render p).port.delay.lines[t.line] = Line.input { ln with
      underruns := if got.2 then min 65535 (ln.underruns + 1) else ln.underruns
      readFifo := ln.readFifo.filter fun e => e.1 ≠ positionAt ln.wp t.offset } (sat (round12 (w * t.feedback))) ∧
    (∀ l : Fin 4, l ≠ t.line → (t.render p).port.delay.lines[l] = p.delay.lines[l]) ∧
    (t.render p).port.delay.mem = p.delay.mem) ∧
  (∀ (t : Trail) (j : Nat) (p : Port), t.state = .cutting j →
    (256 ≤ j → (t.render p).trail = t ∧ (t.render p).port = p ∧ (t.render p).pair = (0, 0)) ∧
    (j < 256 →
      let ln := p.delay.lines[t.line]
      let got := ln.deliver ((t.offset : Int) - j) t.r
      let v := (round12 (got.1 * t.wet) * (256 - (j : Int)) + 128) / 256
      (t.render p).trail = { t with r := got.1, state := .cutting (j + 1) } ∧
      (t.render p).pair = (round12 (v * t.gainL), round12 (v * t.gainR)) ∧
      (t.render p).port.delay.lines[t.line] = { ln with
        underruns := if got.2 then min 65535 (ln.underruns + 1) else ln.underruns
        readFifo := ln.readFifo.filter fun e => e.1 ≠ positionAt ln.wp ((t.offset : Int) - j) } ∧
      (∀ l : Fin 4, l ≠ t.line → (t.render p).port.delay.lines[l] = p.delay.lines[l]) ∧
      (t.render p).port.delay.mem = p.delay.mem)) ∧
  (∀ t : Trail, t.closeBlock = match t.state with
    | .running => { t with age := t.age + 1, quiet := if t.peak < 16 then t.quiet + 1 else 0, peak := 0 }
    | _ => t)

/-! ## Latches and cues (spec/02, spec/07) -/

/-- SET_LATCH and GET_LATCHES (R26, R27). -/
def Obligations.LatchRequests : Prop :=
  (∀ (s : State) (tag latch value : Byte), s.accepting →
    (∀ h : latch.toNat < 8, value.toNat ≤ 1 → exec (.setLatch (requestFrame tag [latch, value])) s = .next
      (State.replied { s with latches := s.latches.set latch.toNat { value := value == 1, hold := none } h } 0x87 tag 0 [])) ∧
    (7 < latch.toNat ∨ 1 < value.toNat →
      exec (.setLatch (requestFrame tag [latch, value])) s = .next (s.replied 0x87 tag 4 []))) ∧
  (∀ (s : State) (tag : Byte), s.accepting → exec (.getLatches (requestFrame tag [])) s = .next
    (s.replied 0x88 tag 0 (s.latches.toList.flatMap fun l => match l.hold with
      | none => [if l.value then 1 else 0, 0, 0, 0]
      | some h => [if l.value then 1 else 0, 1, BitVec.ofNat 8 h.source.toNat, h.index])))

/-- LATCH bindings by mode and cue kind (R28), and the release of holds by a SWITCH_UP and by no other cue (R29). -/
def Obligations.LatchBindingsAndHoldReleases : Prop :=
  (∀ (l : Latch) (mode : LatchMode) (c : Cue), l.bind mode c =
    (if c.kind = .switchDown then
      (match mode with
       | .toggle => { value := !l.value, hold := none }
       | .momentary => { value := true, hold := some { source := c.source, index := c.index } }
       | .set => { value := true, hold := none }
       | .clear => { value := false, hold := none }
       | .threshold => l)
     else if c.kind = .control ∧ mode = .threshold then { value := decide (512 ≤ c.value.toNat), hold := none }
     else l)) ∧
  (∀ (ls : Vector Latch 8) (c : Cue) (i : Fin 8),
    (releaseHolds ls c)[i] = if c.kind = .switchUp ∧ ls[i].hold = some { source := c.source, index := c.index } then
      { value := false, hold := none } else ls[i])

/-- CUE_TAKEN (R135, R29, R136, R142, R144): the head leaves the queue and releases its holds; with no matching filter nothing else
happens; a matching filter with action NONE and the copy flag adds the cue to a FIFO with room, and CUES is posted exactly when the
count reaches the watermark; in a full FIFO the overflow flag is set. The filter used is the lowest-numbered enabled one whose masked
identifier agrees with the cue's (R136). -/
def Obligations.CueTakenHandlesTheHead : Prop :=
  (∀ (s : State) (c : Cue) (rest : List Cue), s.powered → s.cues.queue = c :: rest →
      let s' := { s with latches := releaseHolds s.latches c, cues := { s.cues with queue := rest } }
      (s.cues.matching c = none → exec .cueTaken s = .next s') ∧
      (∀ n, s.cues.matching c = some n → s.cues.filters[n].action = .none → s.cues.filters[n].copy = false →
        exec .cueTaken s = .next s') ∧
      (∀ n, s.cues.matching c = some n → s.cues.filters[n].action = .none → s.cues.filters[n].copy = true →
        s.cues.fifo.length < 32 →
        let s'' := { s' with cues := { s'.cues with fifo := s.cues.fifo ++ [{ cue := c, filter := n }] } }
        exec .cueTaken s = .next (if s.cues.fifo.length + 1 = s.cues.watermark then
          s''.post .cues 0 [BitVec.ofNat 8 (s.cues.fifo.length + 1), flagByte s.cues.overflow] else s'')) ∧
      (∀ n, s.cues.matching c = some n → s.cues.filters[n].action = .none → s.cues.filters[n].copy = true →
        32 ≤ s.cues.fifo.length → exec .cueTaken s = .next { s' with cues := { s'.cues with overflow := true } })) ∧
  (∀ (u : CueUnit) (c : Cue),
      let hit (n : Fin 24) : Prop := u.filters[n].enable = true ∧
        (BitVec.ofNat 16 (c.source.toNat * 4096 + c.kind.code * 256 + c.index.toNat) ^^^ u.filters[n].identifier) &&&
          (match u.filters[n].mask with
           | .mask i => u.masks[i]
           | .exact => 0xFFFF) = 0
      (∀ n, u.matching c = some n ↔ hit n ∧ ∀ m : Fin 24, m < n → ¬hit m) ∧ (u.matching c = none ↔ ∀ n, ¬hit n))

/-- CUE_TAKEN with a matching filter (R135, R139, R140, R141, R142, R144, R83): its action is carried out, and with the copy flag the cue
then joins the cue FIFO. The actions: RECALL by the slot formed, in every scene state; TAP and CLOCK with the cue's stamp; TUNER; and
BIND, which runs the entries of its number in list order, each on its latch or on its parameter of the edit context, a GATE's thresholds
included (R14). A CLOCK (R151, R152): the first of a run, the second, one in tolerance, with the oldest of eight intervals discarded, the
eighth, which waits to lock or to update or, when its sum makes no beat, empties the run, and one out of tolerance. That an ARMED
context's SUPERSEDED report carries the context's own source also after a STORE of PLAY re-pointed it is the model's choice (log entry
33), as are the fields of an incoming context that is not yet validated (log entry 29) and that a lock waits for CLOCK_LOCK (log entry 2).
-/
def Obligations.CueActionsAreCarriedOut : Prop :=
  (∀ (s : State) (c : Cue) (rest : List Cue) (n : Fin 24), s.powered → s.cues.queue = c :: rest → s.cues.matching c = some n →
    let s' := { s with latches := releaseHolds s.latches c, cues := { s.cues with queue := rest } }
    let u := s'.act s.cues.filters[n].action c
    (s.cues.filters[n].copy = false → exec .cueTaken s = .next u) ∧
    (s.cues.filters[n].copy = true → s.cues.fifo.length < 32 →
      let u' : State := { u with cues := { u.cues with fifo := s.cues.fifo ++ [{ cue := c, filter := n }] } }
      exec .cueTaken s = .next (if s.cues.fifo.length + 1 = s.cues.watermark then
        u'.post .cues 0 [BitVec.ofNat 8 (s.cues.fifo.length + 1), flagByte s.cues.overflow] else u')) ∧
    (s.cues.filters[n].copy = true → 32 ≤ s.cues.fifo.length →
      exec .cueTaken s = .next { u with cues := { u.cues with overflow := true } })) ∧
  (∀ (s : State) (k : Fin 16) (c : Cue),
    let edit := s.scenes.scene.built.getD s.scenes.playing
    s.act (.bind k) c = (edit.bindings.filter fun b => b.number = k.val).foldl (fun u b => u.runBinding c b.target) s) ∧
  (∀ (s : State) (c : Cue) (l : Fin 8) (mode : LatchMode),
    s.runBinding c (.latch l mode) = { s with latches := s.latches.set l (s.latches[l].bind mode c) }) ∧
  (∀ (s : State) (c : Cue) (stage id : Nat) (low high : Int),
    let edit := s.scenes.scene.built.getD s.scenes.playing
    (c.kind = .switchHold ∨ c.kind = .program ∨ c.kind = .clock ∨ c.kind = .tap →
      s.runBinding c (.param stage id low high) = s) ∧
    (∀ (st : Stage) (p : Int), edit.stages[stage]? = some st → id < (paramSpecs st.kind).length →
      st.params.length = (paramSpecs st.kind).length →
      (c.kind = .switchDown ∧ p = high) ∨ (c.kind = .switchUp ∧ p = low) ∨
        (c.kind = .control ∧ p = low + (2 * ((high - low) * c.value.toNat) + 1023) / 2046) →
      ∃ (t : State) (st' : Stage), s.runBinding c (.param stage id low high) = t ∧ t = { s with scenes := t.scenes } ∧
        t.scenes.scene.built.getD t.scenes.playing = { edit with stages := edit.stages.set stage st' } ∧
        t.scenes.trails = s.scenes.trails ∧ t.scenes.lastRecall = s.scenes.lastRecall ∧
        (s.scenes.scene.built.isSome = true → t.scenes.playing = s.scenes.playing ∧ t.scenes.scene.built.isSome = true) ∧
        (s.scenes.scene.built = none → t.scenes.scene = s.scenes.scene) ∧
        st' = { st with params := st'.params } ∧ st'.params.length = st.params.length ∧
        (∀ spec, (paramSpecs st.kind)[id]? = some spec →
          let v := max spec.lo (min spec.hi p)
          if st.kind = .gate ∧ id = 0 then
            st'.params.getD 0 0 = v ∧ st'.params.getD 1 0 = min (st.params.getD 1 0) v ∧
              ∀ i, 2 ≤ i → st'.params.getD i 0 = st.params.getD i 0
          else if st.kind = .gate ∧ id = 1 then
            st'.params.getD 1 0 = min (st.params.getD 0 0) v ∧ ∀ i, i ≠ 1 → st'.params.getD i 0 = st.params.getD i 0
          else st'.params = st.params.set id v))) ∧
  ∀ (s : State) (c : Cue) (rest : List Cue) (n : Fin 24), s.powered → s.cues.queue = c :: rest → s.cues.matching c = some n →
    s.cues.filters[n].copy = false →
    let s' := { s with latches := releaseHolds s.latches c, cues := { s.cues with queue := rest } }
    let edit := s.scenes.scene.built.getD s.scenes.playing
    (∀ arg, s.cues.filters[n].action = .startRecall arg →
      let slot := arg.val + if c.kind = .program ∨ c.kind = .control then c.value.toNat else 0
      (127 < slot → exec .cueTaken s = .next s') ∧
      (∀ k : Fin 128, k.val = slot → s.store.directory[k] = none → exec .cueTaken s = .next (s'.post .scene 7
        [BitVec.ofNat 8 slot, BitVec.ofNat 8 c.source.toNat, BitVec.ofNat 8 c.kind.code, c.index])) ∧
      (∀ k : Fin 128, k.val = slot → s.store.directory[k].isSome = true → ∃ t, exec .cueTaken s = .next t ∧
        recallTaken s' t ⟨.slot k, .cue, none, none, s.scenes.lastRecall + 1⟩) ∧
      (∀ k : Fin 128, k.val = slot → s.store.directory[k].isSome = true → s.scenes.scene = .steady →
        let number := s.scenes.lastRecall + 1
        ∃ inc : Context, inc.asQueued = ⟨.slot k, .cue, none, none, number⟩ ∧ exec .cueTaken s =
          .next { s' with scenes := { s.scenes with scene := .loading inc .toRead, lastRecall := number } })) ∧
    (s.cues.filters[n].action = .tap → ∃ t, exec .cueTaken s = .next t ∧ t.tempo = s.tempo.tap c.stamp ∧
      t = { s' with tempo := t.tempo, link := t.link } ∧
      t.link = if t.tempo.source = s.tempo.source then s.link else s.link.post .tempo 0 (bytesLE 4 t.tempo.beat ++ [2, 0])) ∧
    (s.cues.filters[n].action = .clock → s.tempo.clockCount < 8 → ∃ t, exec .cueTaken s = .next t ∧
      t = { s' with tempo := t.tempo } ∧ t.tempo.loss = some 24000 ∧ t.tempo.clockLast = some c.stamp ∧
      t.tempo.beat = s.tempo.beat ∧ t.tempo.position = s.tempo.position ∧ t.tempo.locked = s.tempo.locked ∧
      t.tempo.source = s.tempo.source ∧ t.tempo.tapRun = s.tempo.tapRun ∧
      (s.tempo.clockLast = none → t.tempo.clockFirst = none ∧ t.tempo.clockRun = [] ∧ t.tempo.clockCount = 0) ∧
      (∀ last, s.tempo.clockLast = some last →
        let i := (c.stamp - last).toNat
        (s.tempo.clockFirst = none → t.tempo.clockRun = [i] ∧ t.tempo.clockFirst = some i ∧ t.tempo.clockCount = 1) ∧
        (∀ p, s.tempo.clockFirst = some p →
          let run := (if 8 ≤ s.tempo.clockRun.length then s.tempo.clockRun.drop 1 else s.tempo.clockRun) ++ [i]
          (max i p - min i p ≤ p / 16 →
            (s.tempo.clockCount < 7 ∨ s.tempo.locked = true ∨ beatOk run.sum →
              t.tempo.clockRun = run ∧ t.tempo.clockFirst = some p ∧ t.tempo.clockCount = s.tempo.clockCount + 1) ∧
            (s.tempo.clockCount = 7 → s.tempo.locked = false → ¬beatOk run.sum →
              t.tempo.clockRun = [] ∧ t.tempo.clockFirst = none ∧ t.tempo.clockCount = 0)) ∧
          (p / 16 < max i p - min i p →
            t.tempo.clockRun = [i] ∧ t.tempo.clockFirst = some i ∧ t.tempo.clockCount = 1)))) ∧
    (s.cues.filters[n].action = .tuner → ∃ t, exec .cueTaken s = .next t ∧ t = { s' with tuner := t.tuner } ∧
      t.tuner.settings = s.tuner.settings ∧
      t.tuner.mode = if s.tuner.mode = .off then s.tuner.settings.toggle else .off) ∧
    (∀ k, s.cues.filters[n].action = .bind k →
      ((∀ b ∈ edit.bindings, b.number ≠ k.val) → exec .cueTaken s = .next s') ∧
      (∀ l mode, edit.bindings = [⟨k.val, .latch l mode⟩] → exec .cueTaken s =
        .next { s' with latches := s'.latches.set l (s'.latches[l].bind mode c) }) ∧
      (∀ stage id low high, edit.bindings = [⟨k.val, .param stage id low high⟩] →
        (c.kind = .switchHold ∨ c.kind = .program ∨ c.kind = .clock ∨ c.kind = .tap → exec .cueTaken s = .next s') ∧
        (∀ (st : Stage) (spec : ParamSpec) (p : Int), edit.stages[stage]? = some st → (paramSpecs st.kind)[id]? = some spec →
          st.kind ≠ .gate →
          (c.kind = .switchDown ∧ p = high) ∨ (c.kind = .switchUp ∧ p = low) ∨
            (c.kind = .control ∧ p = low + (2 * ((high - low) * c.value.toNat) + 1023) / 2046) →
          let st' : Stage := { st with params := st.params.set id (max spec.lo (min spec.hi p)) }
          ∃ t, exec .cueTaken s = .next t ∧ t = { s' with scenes := t.scenes } ∧
            t.scenes.scene.built.getD t.scenes.playing = { edit with stages := edit.stages.set stage st' } ∧
            t.scenes.trails = s.scenes.trails ∧ t.scenes.scene.built.isSome = s.scenes.scene.built.isSome)))

/-- SWITCH_DEBOUNCE and SWITCH_HOLD (R121, R122) for a switch below which no other switch's cue of the same reading comes first: the
debounced state follows the last reading's level, a press starts the hold count and makes SWITCH_DOWN, a release makes SWITCH_UP, the
first debounced level makes no cue; a hold makes SWITCH_HOLD and stops its count; an event that is not due changes nothing. One reading of
a switch (R121, R122): how its counts go and what they complete; AUDIO_FRAME reads all eight contacts, a low one as pressed (R120). The
order among switches, and that an event which is not due changes nothing, are the model's choices (log entries 2 and 13). -/
def Obligations.SwitchEventsMakeTheirCues : Prop :=
  (∀ (sw : Switch) (pressed : Bool) (debounce hold : Nat),
    let r := sw.read pressed debounce hold
    r.state = sw.state ∧ r.holdRunning = sw.holdRunning ∧ r.last = some pressed ∧
    (sw.state = .unknown → r.count = if sw.last = some pressed then sw.count + 1 else 1) ∧
    (sw.state = .pressed → r.count = if pressed = true then 0 else sw.count + 1) ∧
    (sw.state = .released → r.count = if pressed = true then sw.count + 1 else 0) ∧
    r.hold = (if sw.holdRunning = true then sw.hold + 1 else sw.hold) ∧
    (r.debounceDue = true ↔ 0 < r.count ∧ debounce ≤ r.count) ∧
    (r.holdDue = true ↔ sw.holdRunning = true ∧ hold ≤ r.hold)) ∧
  (∀ (s : State) (f : FrameInputs), s.startUp.phase = .running →
    (∀ i : Fin 8, s.cues.switches[i].debounceDue = false ∧ s.cues.switches[i].holdDue = false) →
    ∃ t, exec (.audioFrame f) s = .next t ∧ ∀ i : Fin 8, t.cues.switches[i] =
      s.cues.switches[i].read (!f.contacts.getLsbD i.val) (s.cues.debounceMs * 48) (s.cues.holdMs * 48)) ∧
  (∀ (s : State) (i : Fin 8), s.powered → s.cues.switches[i].debounceDue = true →
    (∀ j : Fin 8, j < i → s.cues.switches[j].debounceDue = false ∧ s.cues.switches[j].holdDue = false) →
    let sw := s.cues.switches[i]
    ∃ t, exec (.switchDebounce i) s = .next t ∧
      t.cues.switches[i].state = (if sw.last = some true then .pressed else .released) ∧
      t.cues.switches[i].count = 0 ∧ t.cues.switches[i].debounceDue = false ∧
      (∀ j : Fin 8, j ≠ i → t.cues.switches[j] = s.cues.switches[j]) ∧
      (sw.state = .released → sw.last = some true →
        t.cues.switches[i].hold = 0 ∧ t.cues.switches[i].holdRunning = true) ∧
      (sw.state = .unknown → t.cues.queue = s.cues.queue) ∧
      (sw.state = .released → s.cues.queue.length < 16 →
        t.cues.queue = s.cues.queue ++ [⟨0, .switchDown, BitVec.ofNat 8 i.val, 1023, s.sampleCounter⟩]) ∧
      (sw.state = .pressed → s.cues.queue.length < 16 →
        t.cues.queue = s.cues.queue ++ [⟨0, .switchUp, BitVec.ofNat 8 i.val, 0, s.sampleCounter⟩]) ∧
      (sw.state ≠ .unknown → 16 ≤ s.cues.queue.length → t.cues.queue = s.cues.queue ∧ t.cues.lost = true) ∧
      t = { s with cues := t.cues } ∧ t.cues.pedals = s.cues.pedals ∧ t.cues.fifo = s.cues.fifo) ∧
  (∀ (s : State) (i : Fin 8), s.powered → s.cues.switches[i].holdDue = true →
    (∀ j : Fin 8, j < i → s.cues.switches[j].debounceDue = false ∧ s.cues.switches[j].holdDue = false) →
    ∃ t, exec (.switchHold i) s = .next t ∧
      t.cues.switches = s.cues.switches.set i { s.cues.switches[i] with holdRunning := false, holdDue := false } ∧
      (s.cues.queue.length < 16 →
        t.cues.queue = s.cues.queue ++ [⟨0, .switchHold, BitVec.ofNat 8 i.val, 1023, s.sampleCounter⟩]) ∧
      (16 ≤ s.cues.queue.length → t.cues.queue = s.cues.queue ∧ t.cues.lost = true) ∧
      t = { s with cues := t.cues } ∧ t.cues.pedals = s.cues.pedals ∧ t.cues.fifo = s.cues.fifo) ∧
  (∀ (s : State) (i : Fin 8), s.powered →
    (s.cues.switches[i].debounceDue = false → exec (.switchDebounce i) s = .next s) ∧
    (s.cues.switches[i].holdDue = false → exec (.switchHold i) s = .next s))

/-! ## Scenes (spec/05) -/

/-- RECALL (R82, R84, R85), for every operand: refused for a bad code or an EMPTY slot; else it takes the next recall number and acts by
scene state, ending the recall it replaces SUPERSEDED. That an ARMED context's SUPERSEDED report carries the context's own source also
after a STORE of PLAY re-pointed it is the model's choice (log entry 33; R101 is silent), as are the cost and the edited flag of an
incoming context that is not yet validated (log entry 29) and that a bad code is refused before an EMPTY slot (log entry 35; R82 gives no
order). -/
def Obligations.RecallActsBySceneState : Prop :=
  (∀ (s : State) (tag src tim f0 f1 : Byte), s.accepting →
    129 < src.toNat ∨ 2 < tim.toNat ∨ (f1 ≠ 0 ∧ ¬(f0 = 0xFF ∧ f1 = 0xFF)) →
    exec (.recallScene (requestFrame tag [src, tim, f0, f1])) s = .next (s.replied 0x83 tag 4 [])) ∧
  (∀ (s : State) (tag : Byte) (n : Fin 128) (timing : Option Timing) (fade : Option (BitVec 8)), s.accepting →
    s.store.directory[n] = none →
    exec (.recallScene (requestFrame tag ([Source.code (.slot n), timingByte timing] ++ fadeBytes fade))) s =
      .next (s.replied 0x83 tag 6 [])) ∧
  (∀ (s : State) (tag : Byte) (source : Source) (timing : Option Timing) (fade : Option (BitVec 8)), s.accepting →
    (∀ n, source = .slot n → s.store.directory[n].isSome = true) →
    let n := s.scenes.lastRecall + 1
    let q : QueuedRecall :=
      { source := source, origin := .link, timingOverride := timing, fadeOverride := fade, number := n }
    ∃ (t : State) (inc : Context),
      exec (.recallScene (requestFrame tag ([source.code, timingByte timing] ++ fadeBytes fade))) s =
        .next (t.replied 0x83 tag 1 [n]) ∧
      inc.asQueued = q ∧ inc.edited = false ∧ inc.cost = 0 ∧
      t.scenes.playing = s.scenes.playing ∧ t.scenes.trails = s.scenes.trails ∧ t.scenes.lastRecall = n ∧
      t = { s with scenes := t.scenes, link := t.link, delay := t.delay } ∧
      (match s.scenes.scene with
       | .steady => t.scenes.scene = .loading inc .toRead ∧ t.link = s.link ∧ t.delay = s.delay
       | .loading c _ => t.scenes.scene = .loading inc .toRead ∧ t.delay = s.delay ∧
         t.link = s.link.post .scene 5 [c.number, c.origin.code, c.source.code, n]
       | .armed c _ => t.scenes.scene = .loading inc .toRead ∧
         t.link = s.link.post .scene 5 [c.number, c.origin.code, c.source.code, n] ∧
         (∀ l ∈ c.lines, t.delay.lines[l] =
           { s.delay.lines[l] with holder := .free, readFifo := [], writeFifo := [], window := [] }) ∧
         (∀ l : Fin 4, l ∉ c.lines → t.delay.lines[l] = s.delay.lines[l]) ∧ t.delay.mem = s.delay.mem
       | .crossfade c none => t.scenes.scene = .crossfade c (some q) ∧ t.link = s.link ∧ t.delay = s.delay
       | .crossfade c (some old) => t.scenes.scene = .crossfade c (some q) ∧ t.delay = s.delay ∧
         t.link = s.link.post .scene 5 [old.number, old.origin.code, old.source.code, n]
       | .dip c none => t.scenes.scene = .dip c (some q) ∧ t.link = s.link ∧ t.delay = s.delay
       | .dip c (some old) => t.scenes.scene = .dip c (some q) ∧ t.delay = s.delay ∧
         t.link = s.link.post .scene 5 [old.number, old.origin.code, old.source.code, n]))

/-- CANCEL (R86), in each scene state: refused when there is nothing to cancel; else the recall it ends is reported CANCELLED, an
armed context's lines are released and a queued recall is dropped. That an ARMED context's CANCELLED report carries the context's own
source also after a STORE of PLAY re-pointed it is the model's choice (log entry 33; R101 is silent). -/
def Obligations.CancelActsBySceneState : Prop :=
  ∀ (s : State) (tag : Byte), s.accepting →
    let cancelled (scene : Scene) (n : BitVec 8) (origin : Origin) (source : Source) : State :=
      State.replied { s with
        scenes := { s.scenes with scene := scene }
        link := s.link.post .scene 6 [n, origin.code, source.code] } 0x84 tag 0 [n]
    match s.scenes.scene with
    | .steady => exec (.cancel (requestFrame tag [])) s = .next (s.replied 0x84 tag 12 [])
    | .loading c _ => exec (.cancel (requestFrame tag [])) s = .next (cancelled .steady c.number c.origin c.source)
    | .armed c _ => ∃ t, exec (.cancel (requestFrame tag [])) s = .next t ∧
        t = { cancelled .steady c.number c.origin c.source with delay := t.delay } ∧
        (∀ l ∈ c.lines, t.delay.lines[l] =
          { s.delay.lines[l] with holder := .free, readFifo := [], writeFifo := [], window := [] }) ∧
        (∀ l : Fin 4, l ∉ c.lines → t.delay.lines[l] = s.delay.lines[l]) ∧ t.delay.mem = s.delay.mem
    | .crossfade c (some q) =>
      exec (.cancel (requestFrame tag [])) s = .next (cancelled (.crossfade c none) q.number q.origin q.source)
    | .dip c (some q) =>
      exec (.cancel (requestFrame tag [])) s = .next (cancelled (.dip c none) q.number q.origin q.source)
    | .crossfade _ none => exec (.cancel (requestFrame tag [])) s = .next (s.replied 0x84 tag 12 [])
    | .dip _ none => exec (.cancel (requestFrame tag [])) s = .next (s.replied 0x84 tag 12 [])

/-- LOAD_READ (R87, R88, R113): an EMPTY slot or a record that fails validation ends the load FAILED in STEADY; a read of a busy
bank waits; a good record gives the incoming context its fields, with the overrides over F and timing, and with lines enough
nothing else changes; with too few FREE lines trails are cut beside, oldest running first, until FREE and CUTTING lines are enough or
none runs, each cut line's holder becoming CUTTING (R89, R100, R49). When the load reads is the sender's (log entry 4), and
the fields of a context not yet validated are the model's (log entry 29). -/
def Obligations.LoadReadValidatesItsRecord : Prop :=
  ∀ (s : State) (c : Context) (phase : LoadPhase), s.powered → s.scenes.scene = .loading c phase →
    phase = .toRead ∨ phase = .waiting →
    let failed (reason : Byte) (offset : Nat) : State := { s with
      scenes := { s.scenes with scene := .steady }
      link := s.link.post .scene 4
        [c.number, c.origin.code, c.source.code, reason, BitVec.ofNat 8 offset, BitVec.ofNat 8 (offset / 256)] }
    (∀ n, c.source = .slot n → s.store.directory[n] = none → exec .loadRead s = .next (failed 11 0)) ∧
    (∀ n, c.source = .slot n → s.loadWaits n →
      exec .loadRead s = .next { s with scenes := { s.scenes with scene := .loading c .waiting } }) ∧
    (∀ bs reason offset, s.loadReads c.source bs → validate bs = .bad reason offset →
      exec .loadRead s = .next (failed reason.code offset)) ∧
    (∀ bs cost delays, s.loadReads c.source bs → validate bs = .ok cost delays →
      let r := readRecord bs
      let c' : Context := { c with
        name := r.name
        fade := c.fadeOverride.getD r.fade
        timing := c.timingOverride.getD r.timing
        parts := r.parts
        cost := cost
        delays := delays }
      (delays = 0 ∨ s.delay.present = false ∨ delays ≤ s.delay.freeLines →
        exec .loadRead s = .next { s with scenes := { s.scenes with scene := .loading c' (.lines r) } }) ∧
      (delays ≠ 0 → s.delay.present = true → s.delay.freeLines < delays →
        ∃ t, exec .loadRead s = .next t ∧ t = { s with scenes := t.scenes, delay := t.delay } ∧
          t.scenes = { s.scenes with scene := .loading c' (.lines r), trails := t.scenes.trails } ∧
          (runningTrails s.scenes.trails = 0 ∨ delays ≤ s.delay.freeLines + s.delay.cuttingLines →
            t.scenes.trails = s.scenes.trails ∧ t.delay = s.delay) ∧
          (s.linesOk →
            t.scenes.trails = cutOldestTrails (delays - (s.delay.freeLines + s.delay.cuttingLines)) s.scenes.trails ∧
            ∀ l : Fin 4, t.delay.lines[l] =
              if ∃ u ∈ t.scenes.trails, u.line = l ∧ u.state ≠ .running then { s.delay.lines[l] with holder := .cutting }
              else s.delay.lines[l]) ∧
          t.scenes.trails.map Trail.line = s.scenes.trails.map Trail.line ∧ t.delay.mem = s.delay.mem))

/-- LOAD_COMPLETE (R89, R90): with enough FREE lines the state becomes ARMED with every stage built from its entry, the bindings
taken and the edited flag clear, and SCENE ARMED is posted; with too few the load waits. The running state each stage is built with (R2,
R40, R41), and with the memory present one line for each DELAY stage in list order, the lowest-numbered FREE one, its wp and span 0
and its FIFOs and window empty (R38). When the load completes is the sender's (log entry 4). -/
def Obligations.LoadCompleteArmsTheContext : Prop :=
  ∀ (s : State) (c : Context) (r : Record), s.powered → s.scenes.scene = .loading c (.lines r) →
    (c.delays ≠ 0 → s.delay.present = true → s.delay.freeLines < c.delays → exec .loadComplete s = .next s) ∧
    (c.delays = 0 ∨ s.delay.present = false ∨ c.delays ≤ s.delay.freeLines →
      ∃ (t : State) (c' : Context), exec .loadComplete s = .next t ∧
        t.scenes = { s.scenes with scene := .armed c' false } ∧
        c' = { c with stages := c'.stages, bindings := r.bindings, edited := false } ∧
        c'.stages.length = r.stages.length ∧
        (∀ (i : Nat) (e : StageEntry), r.stages[i]? = some e → ∃ st : Stage, c'.stages[i]? = some st ∧
          st.kind = e.kind ∧ st.engage = e.engage ∧ st.latch = e.latch ∧ st.default = e.default ∧
          st.params = e.params ∧ st.current = e.params ∧ st.previous = e.params) ∧
        t.link = s.link.post .scene 1
          [c.number, c.origin.code, c.source.code, BitVec.ofNat 8 c.cost, BitVec.ofNat 8 c.delays, lineMask c'.lines,
            c.timing.code, c.fade] ∧
        t = { s with scenes := t.scenes, link := t.link, delay := t.delay } ∧ t.delay.mem = s.delay.mem ∧
        ((∀ e ∈ r.stages, e.kind ≠ .delay) → t.delay = s.delay) ∧
        (∀ (i : Nat) (e : StageEntry) (st : Stage), r.stages[i]? = some e → c'.stages[i]? = some st →
          (e.kind = .biquad → st.run = .biquad ⟨0, 0, 0, 0⟩) ∧
          (e.kind = .gate → ∃ g : GateRun, st.run = .gate g ∧ g.state = .closed ∧ g.gg = e.params.getD 5 0 ∧ g.hold = 0) ∧
          (e.kind = .delay → ∃ line : Option (Fin 4),
            let ratio := [(1, 1), (3, 4), (2, 3), (1, 2), (3, 8), (1, 3), (1, 4), (1, 6)].getD (e.params.getD 2 0).toNat (1, 6)
            let offset := if e.params.getD 0 0 = 0 then (e.params.getD 1 0).toNat else s.tempo.beat * ratio.1 / ratio.2
            st.run = .delay ⟨max 1 (min 131071 offset), 0, line, 0⟩ ∧ (s.delay.present = false → line = none))) ∧
        (s.delay.present = true → c.delays = (r.stages.filter fun e => e.kind = .delay).length →
          c'.lines = s.delay.freeList.take c.delays ∧
          (∀ (i : Nat) (st : Stage) (l : Fin 4) (o : Nat), c'.stages[i]? = some st → st.lineOffset = some (l, o) →
            t.delay.lines[l] = { s.delay.lines[l] with
              holder := .incoming i, wp := 0, span := 0, readFifo := [], writeFifo := [], window := [] }) ∧
          (∀ l : Fin 4, l ∉ c'.lines → t.delay.lines[l] = s.delay.lines[l])))

/-- SWITCH_POINT (R92..R95) at a boundary, for an armed context whose timing has come, by a beat of the block just ended or before:
nothing happens until then; then its tempo and latch field act and the input select is inherited when absent. With no tempo and no
latch field, every stage is at 256 or 0 as it is engaged, and the costs and F choose CUT, CROSSFADE or DIP, reported by
SWITCH_BEGUN; a CUT is over at once: the old context's DELAY stages become trails or give their lines up, the new one's lines become
the playing context's, and DONE counts the trails made and running; a crossfade that needs it cuts trails until it fits the budget.
The order of the boundary's parts is the model's choice (log entry 14), as is that the reports carry the context's own source also
after a STORE of PLAY re-pointed it (log entry 33; R101 is silent). -/
def Obligations.SwitchPointChoosesTheMode : Prop :=
  (∀ (s : State) (c : Context), s.powered → s.scenes.scene = .armed c false → c.timing = .beat →
    s.tempo.beatDue = false → exec .switchPoint s = .next s) ∧
  (∀ (s : State) (c : Context) (beat : Bool), s.powered → s.scenes.scene = .armed c beat →
    c.timing = .now ∨ beat = true ∨ s.tempo.beatDue = true → s.sampleCounter.toNat % 48 = 0 →
    s.chain.boundaryTaken = false →
    let tempo := { s.tempo with beatDue := false }
    ∃ t, exec .switchPoint s = .next t ∧ (∀ inc b, t.scenes.scene ≠ .armed inc b) ∧
      t.tempo = (match c.parts.tempo with
        | some v => if s.tempo.locked then tempo
            else { tempo with beat := max 12000 (min 144000 v), source := .preset, tapLast := none, tapRun := [] }
        | none => tempo) ∧
      (∀ i : Fin 8, t.latches[i] = (match c.parts.latches with
        | some f => if f.mask.getLsbD i.val then { value := f.values.getLsbD i.val, hold := none } else s.latches[i]
        | none => s.latches[i])) ∧
      t = { s with
        scenes := t.scenes
        chain := t.chain
        delay := t.delay
        tempo := t.tempo
        latches := t.latches
        link := t.link } ∧ t.delay.mem = s.delay.mem) ∧
  (∀ (s : State) (c : Context) (beat : Bool), s.powered → s.scenes.scene = .armed c beat →
    c.timing = .now ∨ beat = true ∨ s.tempo.beatDue = true → s.sampleCounter.toNat % 48 = 0 →
    s.chain.boundaryTaken = false → c.parts.tempo = none → c.parts.latches = none →
    let b := s.closeBlock
    let costs := s.scenes.playing.cost + c.cost
    let begun (mode : Byte) (cut : Byte) : Link :=
      b.link.post .scene 2 [c.number, c.origin.code, c.source.code, mode, c.fade, cut]
    ∃ (t : State) (c' : Context), exec .switchPoint s = .next t ∧
      c'.number = c.number ∧ c'.source = c.source ∧ c'.cost = c.cost ∧ c'.edited = c.edited ∧
      c'.input = c.parts.input.getD s.scenes.playing.input ∧
      c'.stages.length = c.stages.length ∧
      (∀ (i : Nat) (st : Stage), c.stages[i]? = some st → ∃ st' : Stage, c'.stages[i]? = some st' ∧ st'.params = st.params ∧
        st'.m = if st.engaged s.latches s.tuner.muting then 256 else 0) ∧
      t.tempo = { s.tempo with beatDue := false } ∧ t.latches = s.latches ∧
      (c.fade = 0 → t.scenes.scene = .steady ∧ t.scenes.playing = c' ∧ t.chain.mixer.phase = .single ∧
        t.chain.stageClip = 0 ∧ (s.linesOk → linesHandedOver s t) ∧ t.link = (begun 0 0).post .scene 3 [c.number, c.origin.code,
          c.source.code, BitVec.ofNat 8 s.trailsMade, BitVec.ofNat 8 (runningTrails s.scenes.trails + s.trailsMade)]) ∧
      (c.fade ≠ 0 → costs + 6 * runningTrails s.scenes.trails ≤ 128 →
        t.scenes.scene = .crossfade c' none ∧ t.scenes.playing = b.scenes.playing ∧ t.scenes.trails = b.scenes.trails ∧
        t.chain.mixer = { phase := .crossfade, k := 0, length := 48 * c.fade.toNat } ∧ t.link = begun 1 0) ∧
      (c.fade ≠ 0 → costs ≤ 128 → s.scenes.trails.length ≤ 4 →
        t.scenes.scene = .crossfade c' none ∧ t.scenes.playing = b.scenes.playing ∧
        t.chain.mixer = { phase := .crossfade, k := 0, length := 48 * c.fade.toNat } ∧
        costs + 6 * runningTrails t.scenes.trails ≤ 128 ∧
        t.link = begun 1 (BitVec.ofNat 8 (runningTrails s.scenes.trails - runningTrails t.scenes.trails))) ∧
      (c.fade ≠ 0 → 128 < costs →
        t.scenes.scene = .dip c' none ∧ t.scenes.playing = b.scenes.playing ∧ t.scenes.trails = b.scenes.trails ∧
        t.chain.mixer = { phase := .dipOut, k := 0, length := 24 * c.fade.toNat } ∧ t.link = begun 2 0))

/-- SWITCH_END (R98, R99, R22, R46), once the mixer has rendered a crossfade's or a dip's last sample and no other stage or trail
holds a line twice: each old DELAY stage with trail bit 1 becomes a running trail and each with 0 gives its line up; the incoming
context plays; the mixer is SINGLE, the stage flags are clear, and a queued recall begins its load. A trail keeps the line, the offset,
w, r, the stored k, fb and wet of its stage and the stored gains of the old OUTPUT stage; DONE tells the trails made and those that run
then, after the LEVELS report of the block just ended, if any (R23). That SWITCH_END is an event
the sender or the next frame takes is the model's choice (log entry 2), as is that a switch whose last sample falls inside a block, at
the sample counter's wrap, ends there (log entry 12), and that DONE carries the context's own source also after a STORE of PLAY
re-pointed it (log entry 33; R101 is silent). -/
def Obligations.SwitchEndHandsOverToTheIncomingContext : Prop :=
  ∀ (s : State) (c : Context) (q : Option QueuedRecall), s.powered →
    s.scenes.scene = .crossfade c q ∨ s.scenes.scene = .dip c q →
    s.chain.mixer.phase = .crossfade ∨ s.chain.mixer.phase = .dipIn → s.chain.mixer.length ≤ s.chain.mixer.k →
    s.linesOk →
    ∃ t, exec .switchEnd s = .next t ∧
      t.scenes.playing.number = c.number ∧ t.scenes.playing.source = c.source ∧ t.scenes.playing.edited = c.edited ∧
      t.scenes.playing.input = c.input ∧ t.scenes.playing.stages.map Stage.entry = c.stages.map Stage.entry ∧
      t.chain.mixer = { phase := .single, k := 0, length := 0 } ∧ t.chain.stageClip = 0 ∧
      (q = none → t.scenes.scene = .steady) ∧
      (∀ r, q = some r → ∃ inc, t.scenes.scene = .loading inc .toRead ∧ inc.asQueued = r) ∧
      linesHandedOver s t ∧ t.link = s.closeBlock.link.post .scene 3 [c.number, c.origin.code, c.source.code,
        BitVec.ofNat 8 s.trailsMade, BitVec.ofNat 8 (runningTrails s.scenes.trails + s.trailsMade)] ∧
      t.latches = s.latches ∧ t.tempo = s.tempo ∧ t.tuner = s.tuner ∧ t.cues = s.cues ∧ t.store = s.store ∧
      t.delay.mem = s.delay.mem

/-- EDIT and GET_PARAM (R78, R79, R80, R14, R63) on the edit context: refused beyond the stage list and for a foreign id; an EDIT
clamps and stores, with the rule for a GATE's thresholds, and sets the edited flag; the other context and the rest of the part
stay. -/
def Obligations.EditAndGetParamActOnTheEditContext : Prop :=
  ∀ (s : State) (tag stage id : Byte), s.accepting →
    let c := s.scenes.scene.built.getD s.scenes.playing
    (∀ v0 v1 v2 v3 : Byte, c.stages.length ≤ stage.toNat →
      exec (.edit (requestFrame tag [stage, id, v0, v1, v2, v3])) s = .next (s.replied 0x85 tag 7 []) ∧
      exec (.getParam (requestFrame tag [stage, id])) s = .next (s.replied 0x86 tag 7 [])) ∧
    (∀ (v0 v1 v2 v3 : Byte) (st : Stage), c.stages[stage.toNat]? = some st → (paramSpecs st.kind).length ≤ id.toNat →
      id.toNat ≠ 16 → id.toNat ≠ 17 → id.toNat ≠ 18 →
      exec (.edit (requestFrame tag [stage, id, v0, v1, v2, v3])) s = .next (s.replied 0x85 tag 4 []) ∧
      exec (.getParam (requestFrame tag [stage, id])) s = .next (s.replied 0x86 tag 4 [])) ∧
    (∀ st : Stage, c.stages[stage.toNat]? = some st → id.toNat < (paramSpecs st.kind).length ∨ id.toNat = 16 ∨
      id.toNat = 17 ∨ id.toNat = 18 →
      exec (.getParam (requestFrame tag [stage, id])) s = .next (s.replied 0x86 tag 0
        ([stage, id] ++ bytesSignedLE 4 (st.value id.toNat) ++ [if s.scenes.scene.built.isSome then 1 else 0]))) ∧
    (∀ (v : Int) (st st' : Stage) (more : List Byte), -2147483648 ≤ v → v ≤ 2147483647 →
      c.stages[stage.toNat]? = some st →
      ((∃ spec, (paramSpecs st.kind)[id.toNat]? = some spec ∧ (st.kind = .gate → 2 ≤ id.toNat) ∧
          st' = { st with params := st.params.set id.toNat (max spec.lo (min spec.hi v)) } ∧
          id.toNat < st.params.length ∧ more = []) ∨
       (st.kind = .gate ∧ id = 0 ∧ ∃ opn cls rest, st.params = opn :: cls :: rest ∧
          st' = { st with params := max 0 (min 8388607 v) :: min cls (max 0 (min 8388607 v)) :: rest } ∧
          more = bytesSignedLE 4 (min cls (max 0 (min 8388607 v)))) ∨
       (st.kind = .gate ∧ id = 1 ∧ ∃ opn cls rest, st.params = opn :: cls :: rest ∧
          st' = { st with params := opn :: min opn (max 0 (min 8388607 v)) :: rest } ∧
          more = bytesSignedLE 4 (min opn (max 0 (min 8388607 v)))) ∨
       (id = 16 ∧ st' = { st with engage := BitVec.ofInt 8 (max 0 (min 255 v)) } ∧ more = []) ∨
       (id = 17 ∧ st' = { st with latch := Fin.ofNat 8 (max 0 (min 7 v)).toNat } ∧ more = []) ∨
       (id = 18 ∧ st' = { st with default := decide (1 ≤ v) } ∧ more = [])) →
      ∃ (t : State), exec (.edit (requestFrame tag ([stage, id] ++ bytesSignedLE 4 v))) s = .next (t.replied 0x85 tag 0
          ([stage, id] ++ bytesSignedLE 4 (st'.value id.toNat) ++ more)) ∧
        t.scenes.scene.built.getD t.scenes.playing =
          { c with stages := c.stages.set stage.toNat st', edited := true } ∧
        t.scenes.scene.built.isSome = s.scenes.scene.built.isSome ∧
        (s.scenes.scene.built.isSome = true → t.scenes.playing = s.scenes.playing) ∧
        (s.scenes.scene.built = none → t.scenes.scene = s.scenes.scene) ∧
        t.scenes.trails = s.scenes.trails ∧ t = { s with scenes := t.scenes })

/-! ## Preset store, upload buffer and banks (spec/04, spec/06, spec/01) -/

/-- STORE (R108, R109): its three refusals in order, and for an accepted one the write image, the directory entry, the destroyed marker,
and for PLAY the edit context's source and flag. That an INVALID reply carries the reason in one byte and the offset in two is the model's
choice (log entry 39). -/
def Obligations.StoreFixesTheRecordAndStartsTheWrite : Prop :=
  ∀ (s : State) (tag slot src : Byte), s.accepting →
    (127 < slot.toNat ∨ 1 < src.toNat →
      exec (.store (requestFrame tag [slot, src])) s = .next (s.replied 0x90 tag 4 [])) ∧
    (slot.toNat ≤ 127 → src.toNat ≤ 1 → s.store.engine ≠ .idle →
      exec (.store (requestFrame tag [slot, src])) s = .next (s.replied 0x90 tag 8 [])) ∧
    (∀ (n : Fin 128) (bs : List Byte), slot = BitVec.ofNat 8 n.val → s.store.engine = .idle →
      (src = 1 ∧ bs = s.upload) ∨
        (src = 0 ∧ bs = writeRecord (Context.record (s.scenes.scene.built.getD s.scenes.playing))) →
      (∀ reason offset, validate bs = .bad reason offset → exec (.store (requestFrame tag [slot, src])) s =
        .next (s.replied 0x90 tag 10 [reason.code, BitVec.ofNat 8 offset, BitVec.ofNat 8 (offset / 256)])) ∧
      ((validate bs).isOk = true →
        let f : FlashSlot := { s.store.presets[n] with valid := false }
        let e : DirEntry := { length := bs.length, name := readName bs }
        let st : Store := { s.store with
          presets := s.store.presets.set n f
          directory := s.store.directory.set n (some e)
          engine := .writing (.store n) .erasing (.preset bs) }
        ∃ (t : State), exec (.store (requestFrame tag [slot, src])) s = .next (t.replied 0x90 tag 1 []) ∧
          t = { s with store := st, scenes := t.scenes } ∧
          (src = 1 → t.scenes = s.scenes) ∧
          (src = 0 →
            t.scenes.scene.built.getD t.scenes.playing =
              { s.scenes.scene.built.getD s.scenes.playing with source := .slot n, edited := false } ∧
            t.scenes.trails = s.scenes.trails ∧ t.scenes.lastRecall = s.scenes.lastRecall ∧
            (s.scenes.scene.built.isSome = true → t.scenes.playing = s.scenes.playing))))

/-- ERASE, TABLE_SAVE and SETUP_SAVE (R110, R111, R107): BAD_FIELD, then BUSY; an accepted one fixes its image and its effect on the
directory, destroys its slot's marker and starts the write. That a bad field is refused before a write in flight is the model's choice
(log entry 35; R110 and R111 give no order). -/
def Obligations.EraseAndSavesStartTheirWrites : Prop :=
  ∀ (s : State) (tag b : Byte), s.accepting →
    (127 < b.toNat → exec (.erase (requestFrame tag [b])) s = .next (s.replied 0x91 tag 4 [])) ∧
    (7 < b.toNat → exec (.tableSave (requestFrame tag [b])) s = .next (s.replied 0x96 tag 4 [])) ∧
    (127 < b.toNat → b ≠ 0xFF → exec (.setupSave (requestFrame tag [b])) s = .next (s.replied 0x9E tag 4 [])) ∧
    (s.store.engine ≠ .idle →
      (b.toNat ≤ 127 → exec (.erase (requestFrame tag [b])) s = .next (s.replied 0x91 tag 8 [])) ∧
      (b.toNat ≤ 7 → exec (.tableSave (requestFrame tag [b])) s = .next (s.replied 0x96 tag 8 [])) ∧
      (b.toNat ≤ 127 ∨ b = 0xFF → exec (.setupSave (requestFrame tag [b])) s = .next (s.replied 0x9E tag 8 []))) ∧
    (s.store.engine = .idle →
      (∀ n : Fin 128, b = BitVec.ofNat 8 n.val →
        let f : FlashSlot := { s.store.presets[n] with valid := false }
        let st : Store := { s.store with
          presets := s.store.presets.set n f
          directory := s.store.directory.set n none
          engine := .writing (.erase n) .erasing .empty }
        exec (.erase (requestFrame tag [b])) s = .next (State.replied { s with store := st } 0x91 tag 1 [])) ∧
      (∀ n : Fin 8, b = BitVec.ofNat 8 n.val →
        let f : TableSlot := { s.store.tables[n] with valid := false }
        let st : Store := { s.store with
          tables := s.store.tables.set n f
          engine := .writing (.tableSave n) .erasing (.table s.chain.banks[n]) }
        exec (.tableSave (requestFrame tag [b])) s = .next (State.replied { s with store := st } 0x96 tag 1 [])) ∧
      (∀ preset : Option (Fin 128), b = presetByte preset →
        let f : SetupSlot := { s.store.setup with valid := false }
        let st : Store := { s.store with
          setup := f
          engine := .writing .setupSave .erasing (.setup { powerOn := preset, settings := s.settings }) }
        exec (.setupSave (requestFrame tag [b])) s = .next (State.replied { s with store := st } 0x9E tag 1 [])))

/-- ERASE_COMPLETE and WRITE_COMPLETE (R112, R113): an ERASE ends DONE with its sector erased; another write goes to PROGRAMMING with
its sector erased, what a blank table or setup record reads as being the model's choice (log entry 5);
a programmed slot holds the image, the bytes and length of a slot whose verify failed being the model's choice (log entry 34; R112 is
silent), and is VALID only when it verified, a STORE that failed becoming EMPTY; STORE_DONE is posted and
the engine is IDLE; a load that waited reads then. When the flash completes is the sender's (log entry 4). -/
def Obligations.FlashCompletionsEndTheWrite : Prop :=
  (∀ (s : State) (op : StoreOp) (image : WriteImage), s.powered → s.store.engine = .writing op .erasing image →
    (∀ c, s.scenes.scene ≠ .loading c .waiting) →
    ∃ t, exec .eraseComplete s = .next t ∧ t = { s with store := t.store, link := t.link } ∧
      t.store.directory = s.store.directory ∧
      (∀ n, op = .erase n → t.store.engine = .idle ∧
        t.store.presets = s.store.presets.set n { valid := false, length := 0, bytes := [] } ∧
        t.store.tables = s.store.tables ∧ t.store.setup = s.store.setup ∧
        t.link = s.link.post .storeDone 0 [1, BitVec.ofNat 8 n.val, 0]) ∧
      ((∀ n, op ≠ .erase n) → t.store.engine = .writing op .programming image ∧ t.link = s.link) ∧
      (∀ n, op = .store n → t.store.presets[n].valid = false ∧
        ∀ m : Fin 128, m ≠ n → t.store.presets[m] = s.store.presets[m]) ∧
      (∀ n, op = .tableSave n → t.store.presets = s.store.presets ∧ t.store.setup = s.store.setup ∧
        t.store.tables = s.store.tables.set n { valid := false, length := 0, entries := Vector.replicate 257 0 }) ∧
      (op = .setupSave → t.store.presets = s.store.presets ∧ t.store.tables = s.store.tables ∧
        t.store.setup = { valid := false, length := 0, record := { powerOn := none, settings := settingsDefault } })) ∧
  (∀ (s : State) (op : StoreOp) (image : WriteImage) (ok : Bool), s.powered →
    s.store.engine = .writing op .programming image → (∀ c, s.scenes.scene ≠ .loading c .waiting) →
    ∃ t, exec (.writeComplete ok) s = .next t ∧ t = { s with store := t.store, link := t.link } ∧ t.store.engine = .idle ∧
      (∀ n bs, op = .store n → image = .preset bs →
        t.store.presets = s.store.presets.set n { valid := ok, length := bs.length, bytes := bs } ∧
        t.store.directory = (if ok then s.store.directory else s.store.directory.set n none) ∧
        t.link = s.link.post .storeDone 0 [0, BitVec.ofNat 8 n.val, if ok then 0 else 1]) ∧
      (∀ n es, op = .tableSave n → image = .table es →
        t.store.tables = s.store.tables.set n { valid := ok, length := 771, entries := es } ∧
        t.store.presets = s.store.presets ∧ t.store.directory = s.store.directory ∧
        t.link = s.link.post .storeDone 0 [2, BitVec.ofNat 8 n.val, if ok then 0 else 1]) ∧
      (∀ r, op = .setupSave → image = .setup r →
        t.store.setup.valid = ok ∧ t.store.setup.record = r ∧ t.store.presets = s.store.presets ∧
        t.store.directory = s.store.directory ∧ t.link = s.link.post .storeDone 0 [3, 0, if ok then 0 else 1])) ∧
  (∀ (s : State) (op : StoreOp) (image : WriteImage) (ok : Bool) (c : Context), s.powered →
    s.store.engine = .writing op .programming image → s.scenes.scene = .loading c .waiting →
    ∃ t, exec (.writeComplete ok) { s with scenes := { s.scenes with scene := .steady } } = .next t ∧
      exec (.writeComplete ok) s = exec .loadRead { t with scenes := s.scenes })

/-- READ_SLOT and LIST (R114, R115): the checks of a READ_SLOT in order, its bytes from the flash; LIST from the directory alone. -/
def Obligations.ReadSlotAndListShowTheStore : Prop :=
  (∀ (s : State) (tag slot o0 o1 count : Byte), s.accepting →
    let offset := o0.toNat + 256 * o1.toNat
    (127 < slot.toNat ∨ 1024 < offset ∨ 240 < count.toNat →
      exec (.readSlot (requestFrame tag [slot, o0, o1, count])) s = .next (s.replied 0x92 tag 4 [])) ∧
    (∀ n : Fin 128, slot = BitVec.ofNat 8 n.val → offset ≤ 1024 → count.toNat ≤ 240 →
      (s.store.directory[n] = none →
        exec (.readSlot (requestFrame tag [slot, o0, o1, count])) s = .next (s.replied 0x92 tag 6 [])) ∧
      (∀ op phase image, s.store.directory[n].isSome = true → s.store.engine = .writing op phase image →
        op.bank = n.val % 2 →
        exec (.readSlot (requestFrame tag [slot, o0, o1, count])) s = .next (s.replied 0x92 tag 8 [])) ∧
      (∀ e, s.store.directory[n] = some e → (∀ op phase image, s.store.engine = .writing op phase image →
          op.bank ≠ n.val % 2) →
        let got := ((s.store.presets[n].bytes.take e.length).drop offset).take count.toNat
        exec (.readSlot (requestFrame tag [slot, o0, o1, count])) s = .next (s.replied 0x92 tag 0
          ([BitVec.ofNat 8 e.length, BitVec.ofNat 8 (e.length / 256), BitVec.ofNat 8 got.length] ++ got))))) ∧
  (∀ (s : State) (tag start : Byte), s.accepting →
    (127 < start.toNat → exec (.list (requestFrame tag [start])) s = .next (s.replied 0x93 tag 4 [])) ∧
    (start.toNat ≤ 127 → ∃ (map entries : List Byte),
      exec (.list (requestFrame tag [start])) s = .next (s.replied 0x93 tag 0
        (map ++ [BitVec.ofNat 8 (min 8 (128 - start.toNat))] ++ entries)) ∧
      map.length = 16 ∧ (∀ n : Fin 128, (map.getD (n.val / 8) 0).getLsbD (n.val % 8) = s.store.directory[n].isSome) ∧
      entries = (List.range (min 8 (128 - start.toNat))).flatMap fun i =>
        match s.store.directory.toList.getD (start.toNat + i) none with
        | some e => [BitVec.ofNat 8 (start.toNat + i), 1, BitVec.ofNat 8 e.length, BitVec.ofNat 8 (e.length / 256),
            BitVec.ofNat 8 e.name.length] ++ (e.name ++ List.replicate 16 0).take 16
        | none => BitVec.ofNat 8 (start.toNat + i) :: List.replicate 20 0))

/-- TABLE_WRITE and TABLE_READ (R11, R12, R13): the refusals in order; entries from the start index on, none beyond index 256; a bank
that a SHAPER of the playing or the built incoming context names is not written; a read changes nothing. -/
def Obligations.TableWriteAndReadActOnTheBank : Prop :=
  ∀ (s : State) (tag b s0 s1 : Byte), s.accepting →
    let start := s0.toNat + 256 * s1.toNat
    let named (n : Nat) : Prop := ∃ c, (c = s.scenes.playing ∨ s.scenes.scene.built = some c) ∧
      ∃ st ∈ c.stages, st.kind = .shaper ∧ (st.current.getD 2 0 = n ∨ st.params.getD 2 0 = n)
    (∀ vs : List Int, vs.length ≤ 80 → (∀ v ∈ vs, sampleOk v) →
      let f := requestFrame tag ([b, s0, s1] ++ vs.flatMap (bytesSignedLE 3))
      (7 < b.toNat ∨ 256 < start → exec (.tableWrite f) s = .next (s.replied 0x94 tag 4 [])) ∧
      (b.toNat ≤ 7 → start ≤ 256 → named b.toNat → exec (.tableWrite f) s = .next (s.replied 0x94 tag 9 [])) ∧
      (∀ n : Fin 8, b = BitVec.ofNat 8 n.val → start ≤ 256 → ¬named n.val →
        ∃ bank : Table, exec (.tableWrite f) s = .next (State.replied
            { s with chain := { s.chain with banks := s.chain.banks.set n bank } } 0x94 tag 0
            [BitVec.ofNat 8 (min vs.length (257 - start))]) ∧
          ∀ i : Fin 257, bank[i] =
            if start ≤ i.val ∧ i.val < start + vs.length then vs.getD (i.val - start) 0 else s.chain.banks[n][i])) ∧
    (∀ count : Byte,
      let f := requestFrame tag [b, s0, s1, count]
      (7 < b.toNat ∨ 256 < start ∨ 80 < count.toNat → exec (.tableRead f) s = .next (s.replied 0x95 tag 4 [])) ∧
      (∀ n : Fin 8, b = BitVec.ofNat 8 n.val → start ≤ 256 → count.toNat ≤ 80 →
        exec (.tableRead f) s = .next (s.replied 0x95 tag 0 (BitVec.ofNat 8 (min count.toNat (257 - start)) ::
          (((s.chain.banks[n].toList.drop start).take count.toNat).flatMap (bytesSignedLE 3))))))

/-- UPLOAD_OPEN, UPLOAD_DATA and UPLOAD_CHECK (R71, R72, R73). The buffer is held as the bytes appended (log entry 26). That an INVALID
reply carries the reason in one byte and the offset in two, and a BAD_LENGTH the cursor in two, is the model's choice (log entry 39). -/
def Obligations.UploadBufferRequests : Prop :=
  (∀ (s : State) (tag : Byte), s.accepting → exec (.uploadOpen (requestFrame tag [])) s =
    .next (State.replied { s with upload := [] } 0x8D tag 0 [])) ∧
  (∀ (s : State) (tag : Byte) (data : List Byte), s.accepting → data.length ≤ 250 →
    let n := s.upload.length + data.length
    (n ≤ 1024 → exec (.uploadData (requestFrame tag data)) s = .next (State.replied { s with upload := s.upload ++ data }
      0x8E tag 0 [BitVec.ofNat 8 n, BitVec.ofNat 8 (n / 256)])) ∧
    (1024 < n → exec (.uploadData (requestFrame tag data)) s = .next (s.replied 0x8E tag 2
      [BitVec.ofNat 8 s.upload.length, BitVec.ofNat 8 (s.upload.length / 256)]))) ∧
  (∀ (s : State) (tag : Byte), s.accepting →
    (∀ cost delays, validate s.upload = .ok cost delays → exec (.uploadCheck (requestFrame tag [])) s =
      .next (s.replied 0x8F tag 0 [BitVec.ofNat 8 cost, BitVec.ofNat 8 delays])) ∧
    (∀ reason offset, validate s.upload = .bad reason offset → exec (.uploadCheck (requestFrame tag [])) s =
      .next (s.replied 0x8F tag 10 [reason.code, BitVec.ofNat 8 offset, BitVec.ofNat 8 (offset / 256)])))

/-! ## Scanners, control port and cue requests (spec/07) -/

/-- A pedal's reading (R125, R126, R127), and PEDAL_SCAN, PEDAL_UNPLUG and PEDAL_PLUG: the value and whether it is sent, the run
count, a scan in which no plug change falls due, and the plug changes with their report and cue. A cue that arrives at the cue input
queue (R133): it joins one that holds fewer than 16; in a full one a pedal's cue takes the place of the youngest cue of its pedal, and
without one, as any other cue, it is lost with the flag set. That a scan waits at a pedal
whose plug change is due is the model's choice (log entries 2 and 13). -/
def Obligations.PedalScansAndPlugChanges : Prop :=
  (∀ (u : CueUnit) (c : Cue),
    (u.queue.length < 16 → u.enqueue c = { u with queue := u.queue ++ [c] }) ∧
    (16 ≤ u.queue.length → c.source ≠ 1 ∨ (∀ d ∈ u.queue, d.source ≠ 1 ∨ d.index ≠ c.index) →
      u.enqueue c = { u with lost := true }) ∧
    (∀ older d younger, u.queue = older ++ d :: younger → 16 ≤ u.queue.length → c.source = 1 → d.source = 1 →
      d.index = c.index → (∀ e ∈ younger, e.source ≠ 1 ∨ e.index ≠ c.index) →
      u.enqueue c = { u with queue := older ++ c :: younger })) ∧
  (∀ (p : Pedal) (r : Nat), p.plugged = true → r < 1016 → p.settings.lo ≠ p.settings.hi →
    let v := p.settings.valueOf r
    (p.scan r).1 = { p with raw := r, run := 0, value := v, lastSent := if p.sends v then some v else p.lastSent } ∧
    (p.scan r).2 = (if p.sends v then some v else none) ∧ v ≤ 1023 ∧
    (p.sends v = true ↔ p.lastSent = none ∨ ∃ last, p.lastSent = some last ∧
      (p.settings.deadband ≤ max v last - min v last ∨ ((v = 0 ∨ v = 1023) ∧ v ≠ last))) ∧
    (p.settings.lo < p.settings.hi → p.settings.lo ≤ r → r ≤ p.settings.hi →
      2 * v * (p.settings.hi - p.settings.lo) ≤ 2046 * (r - p.settings.lo) + (p.settings.hi - p.settings.lo) ∧
      2046 * (r - p.settings.lo) + (p.settings.hi - p.settings.lo) < (2 * v + 2) * (p.settings.hi - p.settings.lo))) ∧
  (∀ (p : Pedal) (r : Nat), p.plugged = true → r < 1016 → p.settings.lo = p.settings.hi →
    p.scan r = ({ p with raw := r, run := 0 }, none)) ∧
  (∀ (p : Pedal) (r : Nat), p.plugged = true → 1016 ≤ r → p.scan r = ({ p with raw := r, run := p.run + 1 }, none)) ∧
  (∀ (p : Pedal) (r : Nat), p.plugged = false →
    p.scan r = ({ p with raw := r, run := if r < 1016 then p.run + 1 else 0 }, none)) ∧
  (∀ s : State, s.startUp.phase = .running → s.cues.countdown = 0 → s.cues.scanAt = none →
    s.cues.queue.length + 4 ≤ 16 →
    (∀ i : Fin 4, s.cues.pedals[i].settings.enabled = true →
      (s.cues.pedals[i].scan s.pins.pedals[i].toNat).1.run < 4) →
    ∃ t, exec .pedalScan s = .next t ∧ t = { s with cues := t.cues } ∧ t.cues.countdown = s.cues.scanMs * 48 ∧
      (∀ i : Fin 4, t.cues.pedals[i] = if s.cues.pedals[i].settings.enabled then
        (s.cues.pedals[i].scan s.pins.pedals[i].toNat).1 else s.cues.pedals[i]) ∧
      t.cues.queue = s.cues.queue ++ (List.finRange 4).filterMap (fun i =>
        if s.cues.pedals[i].settings.enabled then
          (s.cues.pedals[i].scan s.pins.pedals[i].toNat).2.map fun v =>
            (⟨1, .control, BitVec.ofNat 8 i.val, BitVec.ofNat 10 v, s.sampleCounter⟩ : Cue)
        else none)) ∧
  (∀ (s : State) (i : Fin 4), s.powered → s.cues.scanAt = some i → 4 ≤ s.cues.pedals[i].run →
    (∀ j : Fin 4, i < j → s.cues.pedals[j].settings.enabled = false) →
    let p := s.cues.pedals[i]
    (p.plugged = true → ∃ t, exec (.pedalUnplug i) s = .next t ∧ t.cues.scanAt = none ∧
      t.cues.pedals = s.cues.pedals.set i { p with plugged := false, run := 0 } ∧ t.cues.queue = s.cues.queue ∧
      t.link = s.link.post .pedal 0 [BitVec.ofNat 8 i.val, 1, BitVec.ofNat 8 p.raw, BitVec.ofNat 8 (p.raw / 256)] ∧
      t = { s with cues := t.cues, link := t.link }) ∧
    (p.plugged = false → p.settings.lo ≠ p.settings.hi → s.cues.queue.length < 16 →
      ∃ t, exec (.pedalPlug i) s = .next t ∧ t.cues.scanAt = none ∧
        (let v := p.settings.valueOf p.raw
         t.cues.pedals = s.cues.pedals.set i { p with plugged := true, run := 0, value := v, lastSent := some v }) ∧
        t.cues.queue =
          s.cues.queue ++ [⟨1, .control, BitVec.ofNat 8 i.val, BitVec.ofNat 10 (p.settings.valueOf p.raw), s.sampleCounter⟩] ∧
        t.link = s.link.post .pedal 0 [BitVec.ofNat 8 i.val, 0, BitVec.ofNat 8 p.raw, BitVec.ofNat 8 (p.raw / 256)] ∧
        t = { s with cues := t.cues, link := t.link }) ∧
    (p.plugged = false → p.settings.lo = p.settings.hi →
      ∃ t, exec (.pedalPlug i) s = .next t ∧ t.cues.scanAt = none ∧
        t.cues.pedals = s.cues.pedals.set i { p with plugged := true, run := 0 } ∧ t.cues.queue = s.cues.queue ∧
        t.link = s.link.post .pedal 0 [BitVec.ofNat 8 i.val, 0, BitVec.ofNat 8 p.raw, BitVec.ofNat 8 (p.raw / 256)] ∧
        t = { s with cues := t.cues, link := t.link }))

/-- The control port (R130, R131, R132, R193): CONTROL_FRAME_BYTE, CONTROL_FRAME and CONTROL_DISCARD by what the receiver holds;
the four bytes of any cue a unit may send give that cue back. That all three rows receive a byte in one way is the model's choice
(log entry 19). -/
def Obligations.ControlPortAssemblesFrames : Prop :=
  (∀ (s : State) (b : Byte), s.startUp.phase = .running →
    let u := s.cues
    (b.msb = true → u.frame = [] → exec (.controlFrameByte b) s = .next { s with cues := { u with frame := [b] } }) ∧
    (b.msb = true → u.frame ≠ [] → exec (.controlDiscard b false) s =
      .next { s with cues := { u with frame := [b], discards := min 65535 (u.discards + 1) } }) ∧
    (b.msb = false → u.frame = [] → exec (.controlDiscard b false) s =
      .next { s with cues := { u with discards := min 65535 (u.discards + 1) } }) ∧
    (u.frame ≠ [] → exec (.controlDiscard b true) s =
      .next { s with cues := { u with frame := [], discards := min 65535 (u.discards + 1) } }) ∧
    (u.frame = [] → exec (.controlDiscard b true) s = .next s) ∧
    (b.msb = false → u.frame ≠ [] → u.frame.length < 3 →
      exec (.controlFrameByte b) s = .next { s with cues := { u with frame := u.frame ++ [b] } }) ∧
    (∀ b0 b1 b2 : Byte, b.msb = false → u.frame = [b0, b1, b2] →
      (b0.toNat % 16 < 3 ∨ b0.toNat / 16 % 8 = 7 → exec (.controlFrame b) s =
        .next { s with cues := { u with frame := [], discards := min 65535 (u.discards + 1) } }) ∧
      (∀ kind : CueKind, 3 ≤ b0.toNat % 16 → b0.toNat / 16 % 8 = kind.code → u.queue.length < 16 →
        let value : BitVec 10 := BitVec.ofNat 10 (b2.toNat % 128 * 8 + b.toNat % 8)
        let c : Cue := ⟨BitVec.ofNat 4 b0.toNat, kind, BitVec.ofNat 8 (b1.toNat % 128), value, s.sampleCounter⟩
        exec (.controlFrame b) s = .next { s with cues := { u with frame := [], queue := u.queue ++ [c] } }))) ∧
  (∀ s : State, s.startUp.phase ≠ .running → ∀ b : Byte, exec (.controlFrameByte b) s = .next s ∧
    exec (.controlFrame b) s = .next s ∧ exec (.controlDiscard b false) s = .next s ∧ exec (.controlDiscard b true) s = .next s) ∧
  (∀ c : Cue, 3 ≤ c.source.toNat → c.index.toNat < 128 →
    frameCue (BitVec.ofNat 8 (128 + c.kind.code * 16 + c.source.toNat)) c.index (BitVec.ofNat 8 (c.value.toNat / 8))
      (BitVec.ofNat 8 (c.value.toNat % 8)) c.stamp = some c)

/-- SEND_CUE, SET_FILTER, SET_MASK and READ_CUES (R134, R137, R138, R143, R144): READ_CUES sets the watermark and answers the oldest
entries with the flag as it stood, which it clears; CUES is posted when the count left is at or above the watermark. That the CUES report
which a READ_CUES leaves shows the flag after it is cleared is the model's choice (log entry 22), as is that a SEND_CUE's bad field is
refused before a full queue (log entry 35; R134 gives no order). -/
def Obligations.CueUnitRequests : Prop :=
  (∀ (s : State) (tag k i v0 v1 : Byte), s.accepting →
    let v := v0.toNat + 256 * v1.toNat
    (6 < k.toNat ∨ 1023 < v →
      exec (.sendCue (requestFrame tag [k, i, v0, v1])) s = .next (s.replied 0x89 tag 4 [])) ∧
    (k.toNat ≤ 6 → v ≤ 1023 → 16 ≤ s.cues.queue.length →
      exec (.sendCue (requestFrame tag [k, i, v0, v1])) s = .next (s.replied 0x89 tag 8 [])) ∧
    (∀ kind : CueKind, k = BitVec.ofNat 8 kind.code → v ≤ 1023 → s.cues.queue.length < 16 →
      let c : Cue := ⟨2, kind, i, BitVec.ofNat 10 v, s.sampleCounter⟩
      exec (.sendCue (requestFrame tag [k, i, v0, v1])) s =
        .next (State.replied { s with cues := { s.cues with queue := s.cues.queue ++ [c] } } 0x89 tag 0 []))) ∧
  (∀ (s : State) (tag n en i0 i1 m a arg cp : Byte), s.accepting →
    let f := requestFrame tag [n, en, i0, i1, m, a, arg, cp]
    (23 < n.toNat ∨ 4 < m.toNat ∨ 5 < a.toNat ∨ (a = 1 ∧ 15 < arg.toNat) ∨ (a = 2 ∧ 127 < arg.toNat) →
      exec (.setFilter f) s = .next (s.replied 0x8A tag 4 [])) ∧
    (∀ (k : Fin 24) (mask : MaskSel) (action : Action), n = BitVec.ofNat 8 k.val → m = mask.code → a = action.code →
      (∀ x, action.argument = some x → arg = x) →
      let e : Filter := ⟨en != 0, BitVec.ofNat 16 (i0.toNat + 256 * i1.toNat), mask, action, cp != 0⟩
      exec (.setFilter f) s = .next (State.replied
        { s with cues := { s.cues with filters := s.cues.filters.set k e } } 0x8A tag 0 []))) ∧
  (∀ (s : State) (tag n v0 v1 : Byte), s.accepting →
    (3 < n.toNat → exec (.setMask (requestFrame tag [n, v0, v1])) s = .next (s.replied 0x8B tag 4 [])) ∧
    (∀ k : Fin 4, n = BitVec.ofNat 8 k.val →
      let masks := s.cues.masks.set k (BitVec.ofNat 16 (v0.toNat + 256 * v1.toNat))
      exec (.setMask (requestFrame tag [n, v0, v1])) s =
        .next (State.replied { s with cues := { s.cues with masks := masks } } 0x8B tag 0 []))) ∧
  (∀ (s : State) (tag most mark : Byte), s.accepting →
      (8 < most.toNat ∨ 32 < mark.toNat →
        exec (.readCues (requestFrame tag [most, mark])) s = .next (s.replied 0x8C tag 4 [])) ∧
      (most.toNat ≤ 8 → mark.toNat ≤ 32 →
        let got := s.cues.fifo.take most.toNat
        let left := s.cues.fifo.drop most.toNat
        let water := if mark = 0 then s.cues.watermark else mark.toNat
        let t : State := { s with cues := { s.cues with watermark := water, fifo := left, overflow := false } }
        exec (.readCues (requestFrame tag [most, mark])) s = .next (State.replied
          (if water ≤ left.length then t.post .cues 0 [BitVec.ofNat 8 left.length, 0] else t) 0x8C tag 0
          ([flagByte s.cues.overflow, BitVec.ofNat 8 left.length, BitVec.ofNat 8 got.length] ++ got.flatMap fun e =>
            [BitVec.ofNat 8 e.cue.source.toNat, BitVec.ofNat 8 e.cue.kind.code, e.cue.index] ++
              bytesLE 2 e.cue.value.toNat ++ bytesLE 4 e.cue.stamp.toNat ++ [BitVec.ofNat 8 e.filter.val]))))

/-- SWITCH_SET, PEDAL_SET and PEDAL_READ (R123, R128, R129), the PEDAL_SET while no plug change of a scan waits. That hypothesis
comes of the model's choice of a scan that waits (log entry 13). -/
def Obligations.ScannerRequests : Prop :=
  (∀ (s : State) (tag d h0 h1 : Byte), s.accepting →
    let hold := h0.toNat + 256 * h1.toNat
    (d.toNat < 2 ∨ 40 < d.toNat ∨ hold < 300 ∨ 2000 < hold →
      exec (.switchSet (requestFrame tag [d, h0, h1])) s = .next (s.replied 0x9D tag 4 [])) ∧
    (2 ≤ d.toNat → d.toNat ≤ 40 → 300 ≤ hold → hold ≤ 2000 →
      exec (.switchSet (requestFrame tag [d, h0, h1])) s = .next (State.replied
        { s with cues := { s.cues with debounceMs := d.toNat, holdMs := hold } } 0x9D tag 0 []))) ∧
  (∀ (s : State) (tag n en l0 l1 h0 h1 db si : Byte), s.accepting →
    let f := requestFrame tag [n, en, l0, l1, h0, h1, db, si]
    let lo := l0.toNat + 256 * l1.toNat
    let hi := h0.toNat + 256 * h1.toNat
    (3 < n.toNat ∨ 1 < en.toNat ∨ 1023 < lo ∨ 1023 < hi ∨ db = 0 ∨ 32 < db.toNat ∨ si = 0 ∨ 20 < si.toNat →
      exec (.pedalSet f) s = .next (s.replied 0x9B tag 4 [])) ∧
    (∀ k : Fin 4, n = BitVec.ofNat 8 k.val → en.toNat ≤ 1 → lo ≤ 1023 → hi ≤ 1023 → 1 ≤ db.toNat → db.toNat ≤ 32 →
      1 ≤ si.toNat → si.toNat ≤ 20 → s.cues.scanAt = none →
      let settings : PedalSettings := ⟨en == 1, lo, hi, db.toNat⟩
      let p : Pedal := { s.cues.pedals[k] with settings := settings, run := 0, lastSent := none }
      let u : CueUnit := { s.cues with pedals := s.cues.pedals.set k p, scanMs := si.toNat }
      exec (.pedalSet f) s = .next (State.replied { s with cues := u } 0x9B tag 0 []))) ∧
  (∀ (s : State) (tag : Byte), s.accepting → exec (.pedalRead (requestFrame tag [])) s = .next (s.replied 0x9C tag 0
    (BitVec.ofNat 8 s.cues.scanMs :: s.cues.pedals.toList.flatMap fun p =>
      [flagByte p.settings.enabled] ++ bytesLE 2 p.settings.lo ++ bytesLE 2 p.settings.hi ++
        [BitVec.ofNat 8 p.settings.deadband, if p.plugged then 0 else 1] ++ bytesLE 2 p.raw ++ bytesLE 2 p.value ++
        bytesLE 2 (p.lastSent.getD 65535))))

/-! ## Tempo and tuner (spec/08, spec/09) -/

/-- TEMPO_SET and TEMPO_READ (R155, R156, R148, R157). -/
def Obligations.TempoRequests : Prop :=
  (∀ (s : State) (tag : Byte) (v : Nat), s.accepting → v < 4294967296 →
    (s.tempo.locked = true → exec (.tempoSet (requestFrame tag (bytesLE 4 v))) s = .next (s.replied 0x99 tag 11 [])) ∧
    (s.tempo.locked = false →
      let b := max 12000 (min 144000 v)
      let t : State := { s with tempo := { s.tempo with beat := b, source := .link, tapLast := none, tapRun := [] } }
      exec (.tempoSet (requestFrame tag (bytesLE 4 v))) s = .next (State.replied
        (if s.tempo.source = .link then t else t.post .tempo 0 (bytesLE 4 b ++ [4, 0])) 0x99 tag 0 (bytesLE 4 b)))) ∧
  (∀ (s : State) (tag : Byte), s.accepting → exec (.tempoRead (requestFrame tag [])) s = .next (s.replied 0x9A tag 0
    (bytesLE 4 s.tempo.beat ++ bytesLE 4 s.tempo.position ++ [s.tempo.source.code, flagByte s.tempo.locked])))

/-- A tap (R149, R150): ignored while locked or within 12,000 samples of the last; the first tap of a run, or one more than
144,000 samples after the last, only places the beat; otherwise B becomes the floor of the mean of the last intervals, four at
most. And BEAT_EVENT, CLOCK_LOSS_EXPIRY, CLOCK_LOCK and CLOCK_UPDATE (R92, R147, R151, R152, R153, R157). That an event which is
not due changes nothing is the model's choice (log entry 2). -/
def Obligations.TapsAndTempoEventsTakeEffect : Prop :=
  (∀ (t : Tempo) (stamp : Stamp),
      (t.locked = true → t.tap stamp = t) ∧
      (t.locked = false → t.tapLast = none → t.tap stamp = { t with tapLast := some stamp, tapRun := [], restart := true }) ∧
      (∀ last, t.locked = false → t.tapLast = some last →
        let i := (stamp - last).toNat
        (i < 12000 → t.tap stamp = t) ∧
        (144000 < i → t.tap stamp = { t with tapLast := some stamp, tapRun := [], restart := true }) ∧
        (12000 ≤ i → i ≤ 144000 → t.tapRun.length < 4 → t.tap stamp = { t with
          tapLast := some stamp
          tapRun := t.tapRun ++ [i]
          beat := (t.tapRun ++ [i]).sum / (t.tapRun.length + 1)
          restart := true
          source := .tap }) ∧
        (∀ a b c d, 12000 ≤ i → i ≤ 144000 → t.tapRun = [a, b, c, d] → t.tap stamp = { t with
          tapLast := some stamp
          tapRun := [b, c, d, i]
          beat := (b + c + d + i) / 4
          restart := true
          source := .tap }))) ∧
  (∀ (s : State), s.powered → s.tempo.beatDue = true →
    (∀ c beat, s.scenes.scene = .armed c beat → exec .beatEvent s = .next { s with
      tempo := { s.tempo with beatDue := false }
      scenes := { s.scenes with scene := .armed c (beat || decide (c.timing = .beat)) } }) ∧
    ((∀ c beat, s.scenes.scene ≠ .armed c beat) →
      exec .beatEvent s = .next { s with tempo := { s.tempo with beatDue := false } })) ∧
  (∀ (s : State), s.powered → s.tempo.loss = some 0 →
    let e : Tempo := { s.tempo with loss := none, clockLast := none, clockFirst := none, clockRun := [], clockCount := 0 }
    (s.tempo.locked = false → exec .clockLossExpiry s = .next { s with tempo := e }) ∧
    (s.tempo.locked = true → exec .clockLossExpiry s = .next (State.post
      { s with tempo := { e with locked := false, source := .held } } .tempo 0 (bytesLE 4 s.tempo.beat ++ [5, 0])))) ∧
  (∀ (s : State), s.powered → s.tempo.locked = false → s.tempo.clockCount = 8 → beatOk s.tempo.clockRun.sum →
    exec .clockLock s = .next (State.post { s with tempo := { s.tempo with
      locked := true, beat := s.tempo.clockRun.sum, source := .clock, restart := true, clockCount := 0, tapLast := none,
      tapRun := [] } } .tempo 0 (bytesLE 4 s.tempo.clockRun.sum ++ [3, 1]))) ∧
  (∀ (s : State), s.powered → s.tempo.locked = true → s.tempo.clockCount = 8 →
    exec .clockUpdate s = .next { s with tempo := { s.tempo with
      beat := max 12000 (min 144000 s.tempo.clockRun.sum), restart := true, clockCount := 0, tapLast := none,
      tapRun := [] } }) ∧
  (∀ (s : State), s.powered →
    (s.tempo.beatDue = false → exec .beatEvent s = .next s) ∧ (s.tempo.loss ≠ some 0 → exec .clockLossExpiry s = .next s) ∧
    (s.tempo.clockCount ≠ 8 → exec .clockLock s = .next s ∧ exec .clockUpdate s = .next s))

/-- TUNER_SET and TUNER_READ (R158..R162, R175): bad codes are refused; accepted numbers are clamped and stored and answered as
stored; with the window unchanged nothing is reported, and the mode change starts or stops the measurement. What each changed setting
does to a measurement that goes on (R162): source and threshold empty the run and c_prev, the run length the run alone, the window
marks the latest reading afresh with a report when its flag differs from the last reported reading's (R174), and the reference and the
toggle mode nothing. A change between SILENT and MUTE leaves the measurement as it stood (R159), and the reading that a report carries
becomes the last reported one, which changes otherwise only with an entry from OFF (R160, R174). That a change of window is judged
against a reported reading alone, and its report before the change of mode, is the model's choice (log entry 21). -/
def Obligations.TunerRequests : Prop :=
  (∀ (s : State) (tag src mode tog r0 r1 w n : Byte) (thr : Nat), s.accepting → thr < 4294967296 →
    let f := requestFrame tag ([src, mode, tog, r0, r1, w, n] ++ bytesLE 4 thr)
    (1 < src.toNat ∨ 2 < mode.toNat ∨ tog.toNat = 0 ∨ 2 < tog.toNat →
      exec (.tunerSet f) s = .next (s.replied 0x97 tag 4 [])) ∧
    (∀ (source : TunerSource) (m toggle : TunerMode), src = source.code → mode = m.code → tog = toggle.code →
      toggle ≠ .off →
      let v : TunerSettings :=
        { source := source
          toggle := toggle
          reference := max 4300 (min 4500 (r0.toNat + 256 * r1.toNat))
          window := max 1 (min 50 w.toNat)
          runLength := if 16 ≤ n.toNat then 16 else if 8 ≤ n.toNat then 8 else if 4 ≤ n.toNat then 4 else 2
          threshold := min 8388607 thr }
      ∃ (t : State), exec (.tunerSet f) s = .next (t.replied 0x97 tag 0 ([src, mode, tog] ++ bytesLE 2 v.reference ++
          [BitVec.ofNat 8 v.window, BitVec.ofNat 8 v.runLength] ++ bytesSignedLE 4 v.threshold)) ∧
        t.tuner.settings = v ∧ t.tuner.mode = m ∧ t.tuner.y = s.tuner.y ∧ t.tuner.positive = s.tuner.positive ∧
        (s.tuner.mode = .off → m ≠ .off →
          t.tuner.measure = .seeking ∧ t.tuner.loss = some 9600 ∧ t.tuner.reported = .none) ∧
        (s.tuner.mode ≠ .off → m = .off → t.tuner.measure = .off ∧ t.tuner.loss = none ∧ t.tuner.count = 0 ∧
          t.tuner.lastCrossing = none) ∧
        (v = s.tuner.settings → s.tuner.mode = m → t = s) ∧
        (v.window = s.tuner.settings.window → t = { s with tuner := t.tuner } ∧ t.tuner.latest = s.tuner.latest) ∧
        (v.window = s.tuner.settings.window → ¬(s.tuner.mode = .off ∧ m ≠ .off) → t.tuner.reported = s.tuner.reported) ∧
        ((s.tuner.mode = .off ↔ m = .off) →
          let o := s.tuner.settings
          let moved : Prop := v.source ≠ o.source ∨ v.threshold ≠ o.threshold
          let emptied : Prop := moved ∨ v.runLength ≠ o.runLength
          t.tuner.measure = s.tuner.measure ∧ t.tuner.loss = s.tuner.loss ∧
          t.tuner.lastCrossing = (if moved then none else s.tuner.lastCrossing) ∧
          t.tuner.first = (if emptied then none else s.tuner.first) ∧
          t.tuner.count = (if emptied then 0 else s.tuner.count) ∧ t.tuner.sum = (if emptied then 0 else s.tuner.sum)) ∧
        (v.window ≠ s.tuner.settings.window →
          let goesOn : Prop := ¬(s.tuner.mode = .off ∧ m ≠ .off)
          (s.tuner.latest = none → t.tuner.latest = none ∧ t.link = s.link ∧
            (goesOn → t.tuner.reported = s.tuner.reported)) ∧
          ((∀ old, s.tuner.reported ≠ .reading old) → t.link = s.link ∧ (goesOn → t.tuner.reported = s.tuner.reported)) ∧
          (∀ r, s.tuner.latest = some r →
            let r' : Reading := { r with inTune := decide (r.cents.natAbs ≤ v.window) }
            t.tuner.latest = some r' ∧
            (∀ old, s.tuner.reported = .reading old →
              (old.inTune = r'.inTune ∨ s.link.mask.getLsbD 2 = false → t.link = s.link ∧
                (goesOn → t.tuner.reported = s.tuner.reported)) ∧
              (old.inTune ≠ r'.inTune → s.link.mask.getLsbD 2 = true → (goesOn → t.tuner.reported = .reading r') ∧
                t.link = s.link.post .tuner 0 ([s.tuner.measure.code, 1, BitVec.ofNat 8 r.note] ++ bytesSignedLE 2 r.cents ++
                  [flagByte r'.inTune] ++ bytesLE 3 r.period))))) ∧
        t = { s with tuner := t.tuner, link := t.link })) ∧
  (∀ (s : State) (tag : Byte), s.accepting → exec (.tunerRead (requestFrame tag [])) s = .next (s.replied 0x98 tag 0
    (s.tuner.readingBytes ++ [s.tuner.mode.code, s.tuner.settings.source.code, s.tuner.settings.toggle.code] ++
      bytesLE 2 s.tuner.settings.reference ++
      [BitVec.ofNat 8 s.tuner.settings.window, BitVec.ofNat 8 s.tuner.settings.runLength] ++
      bytesSignedLE 4 s.tuner.settings.threshold)))

/-- TUNER_RUN_COMPLETE and TUNER_LOSS_EXPIRY (R168, R170..R172, R174), and the ranges of every reading of a valid period (R171). A
completed run posts TUNER when its reading differs from the last reported one in note, cents or flag. One sample (R164..R168): the
filter, the comparator, the crossing time, the period and the run; AUDIO_FRAME takes one, numbered by the counter as it has advanced it
(log entry 11). The loss timer counts at each sample, and its expiry gives way to a run that completes at the same sample (R172).
That a first reading or NO_SIGNAL counts as a change is the model's choice (log entry 21), as is that an event which is not due
changes nothing (log entry 2). -/
def Obligations.TunerEventsMakeReadings : Prop :=
  (∀ (s : State), s.powered → s.tuner.mode ≠ .off → s.tuner.settings.runLength ≤ s.tuner.count →
    ∃ t, exec .tunerRunComplete s = .next t ∧ t = { s with tuner := t.tuner, link := t.link } ∧
      t.tuner.latest = some (readingOf (s.tuner.sum / s.tuner.settings.runLength) s.tuner.settings) ∧
      t.tuner.measure = .tracking ∧ t.tuner.loss = some 9600 ∧ t.tuner.count = 0 ∧ t.tuner.sum = 0 ∧
      t.tuner.first = none ∧ t.tuner.settings = s.tuner.settings ∧ t.tuner.mode = s.tuner.mode ∧
      (let r := readingOf (s.tuner.sum / s.tuner.settings.runLength) s.tuner.settings
       let same : Prop := ∃ old, s.tuner.reported = .reading old ∧ old.note = r.note ∧ old.cents = r.cents ∧ old.inTune = r.inTune
       (s.link.mask.getLsbD 2 = true ∧ ¬same → t.tuner.reported = .reading r ∧ t.link = s.link.post .tuner 0
         ([2, 1, BitVec.ofNat 8 r.note] ++ bytesSignedLE 2 r.cents ++ [flagByte r.inTune] ++ bytesLE 3 r.period)) ∧
       (s.link.mask.getLsbD 2 = false ∨ same → t.link = s.link ∧ t.tuner.reported = s.tuner.reported))) ∧
  (∀ (s : State), s.powered → s.tuner.mode ≠ .off → s.tuner.settings.runLength ≤ s.tuner.count →
    exec .tunerLossExpiry s = .next s) ∧
  (∀ (t : Tuner) (n : Stamp) (ab : Pair), t.mode = .off → t.sample n ab = t) ∧
  (∀ (t : Tuner) (n : Stamp) (ab : Pair), t.mode ≠ .off →
    let x := if t.settings.source = .a then ab.1 else ab.2
    let y := t.y + (x - t.y) / 8
    let h := t.settings.threshold
    let rises : Prop := t.positive = false ∧ h ≤ y ∧ ¬y ≤ -h
    let falls : Prop := t.positive = true ∧ y ≤ -h ∧ ¬h ≤ y
    let t' := t.sample n ab
    t'.y = y ∧ (t'.positive = true ↔ rises ∨ (t.positive = true ∧ ¬falls)) ∧ t'.loss = t.loss.map (· - 1) ∧
    t'.settings = t.settings ∧ t'.mode = t.mode ∧ t'.measure = t.measure ∧ t'.latest = t.latest ∧ t'.reported = t.reported ∧
    (¬rises → t'.lastCrossing = t.lastCrossing ∧ t'.first = t.first ∧ t'.count = t.count ∧ t'.sum = t.sum) ∧
    (rises →
      let c := (256 * (n - 1).toNat + if h ≤ t.y then 0 else (256 * (h - t.y) / (y - t.y)).toNat) % 1099511627776
      t'.lastCrossing = some c ∧
      (t.lastCrossing = none → t'.first = t.first ∧ t'.count = t.count ∧ t'.sum = t.sum) ∧
      (∀ c0, t.lastCrossing = some c0 →
        let p := (c + 1099511627776 - c0) % 1099511627776
        (p < 8778 ∨ 614400 < p → t'.first = none ∧ t'.count = 0 ∧ t'.sum = 0) ∧
        (8778 ≤ p → p ≤ 614400 →
          (t.first = none → t'.first = some p ∧ t'.count = 1 ∧ t'.sum = p) ∧
          (∀ p1, t.first = some p1 →
            (max p p1 - min p p1 ≤ p1 / 16 → t'.first = some p1 ∧ t'.count = t.count + 1 ∧ t'.sum = t.sum + p) ∧
            (p1 / 16 < max p p1 - min p p1 → t'.first = some p ∧ t'.count = 1 ∧ t'.sum = p)))))) ∧
  (∀ (s : State) (f : FrameInputs), s.powered → s.tuner.mode = .off ∨ s.tuner.count < s.tuner.settings.runLength →
    s.tuner.loss ≠ some 0 →
    ∃ t, exec (.audioFrame f) s = .next t ∧ t.tuner =
      s.tuner.sample (s.sampleCounter + 1) ((f.adin[0].extractLsb' 8 24).toInt, (f.adin[1].extractLsb' 8 24).toInt)) ∧
  (∀ (s : State), s.powered → s.tuner.loss = some 0 → s.tuner.mode = .off ∨ s.tuner.count < s.tuner.settings.runLength →
    let e : Tuner := { s.tuner with loss := none, measure := .seeking, latest := none }
    (s.tuner.reported = .noSignal ∨ s.link.enabled .tuner = false →
      exec .tunerLossExpiry s = .next { s with tuner := e }) ∧
    (s.tuner.reported ≠ .noSignal → s.link.enabled .tuner = true →
      exec .tunerLossExpiry s = .next (State.post { s with tuner := { e with reported := .noSignal } } .tuner 0
        [1, 0, 0, 0, 0, 0, 0, 0, 0]))) ∧
  (∀ (s : State), s.powered → (s.tuner.mode = .off ∨ s.tuner.count < s.tuner.settings.runLength →
      exec .tunerRunComplete s = .next s) ∧ (s.tuner.loss ≠ some 0 → exec .tunerLossExpiry s = .next s)) ∧
  (∀ (p : Nat) (v : TunerSettings), 8778 ≤ p → p ≤ 614400 → 4300 ≤ v.reference → v.reference ≤ 4500 →
    let r := readingOf p v
    r.note ≤ 127 ∧ -500 ≤ r.cents ∧ r.cents ≤ 500 ∧ (r.inTune = true ↔ r.cents.natAbs ≤ v.window) ∧ r.period = p)

/-! ## The host link (spec/10) -/

/-- READ_RECORD, IGNORED_TRANSACTION and INCOMPLETE_FRAME (R176, R177, R180, R181): a whole read sends the status byte, the head
record and zeros, clears the two flags and removes the record exactly when all of its bytes were clocked out; a read released in
its status byte changes nothing in the link. MISO sends 0x00 in the first byte of every transaction and throughout a write and an
ignored one. The first byte selects the transaction: the bytes after a 'W' are kind, tag, length and payload, fewer than four of them
are no request, and any first byte but 'W' and 'R', or none, changes nothing. Posting a report of each of the nine kinds (R183,
R184): nothing while it is disabled; a coalesced kind replaces its slot's report, which a read in progress of that slot learns; another
kind joins a queue of 21 records or fewer, and is else discarded with reports-lost set. What removing the record read takes away
(R180, R184), and when ATTN is asserted (R185). The two halves of a READ_RECORD and what a read of no whole byte leaves are the
model's choices (log entries 17 and 18). -/
def Obligations.LinkTransactions : Prop :=
  (∀ (s : State) (n : Nat), s.powered →
    let head := s.link.head
    let l : Link := { s.link with dropped := false, lost := false, reading := none }
    exec (.readRecord (.whole (n + 1))) s = .next { s with
      pins := { s.pins with sent := 0 :: s.link.statusByte :: (head.bytes ++ List.replicate n 0).take n }
      link := if head.bytes.length ≤ n then l.remove head else l }) ∧
  (∀ s : State, s.powered → exec (.readRecord (.whole 0)) s = .next { s with
    pins := { s.pins with sent := [] }, link := { s.link with reading := none } }) ∧
  (∀ (s : State) (n : Nat), s.powered →
    ∃ t, exec (.readRecord .start) s = .next t ∧ t.link.queue = s.link.queue ∧ t.link.dropped = false ∧
      t.link.lost = false ∧ t.link.reading = some s.link.head ∧
      exec (.readRecord (.release n)) t = exec (.readRecord (.whole (n + 1))) s) ∧
  (∀ l : Link, l.head = match l.queue, l.tuner, l.levels, l.cues with
    | r :: _, _, _, _ => .queue r
    | [], some r, _, _ => .slot .tuner r false
    | [], none, some r, _ => .slot .levels r false
    | [], none, none, some r => .slot .cues r false
    | [], none, none, none => .nothing) ∧
  (∀ l : Link, l.queue.length ≤ 24 →
    l.statusByte.toNat % 32 = l.queue.length ∧
    l.statusByte.getLsbD 5 = (l.tuner.isSome || l.levels.isSome || l.cues.isSome) ∧
    l.statusByte.getLsbD 6 = l.dropped ∧ l.statusByte.getLsbD 7 = l.lost) ∧
  (∀ (s : State) (bytes : List Byte), s.powered → bytes.head? ≠ some 0x57 → bytes.head? ≠ some 0x52 →
    exec (.ignoredTransaction bytes) s = .next { s with
      pins := { s.pins with sent := [] }, link := { s.link with reading := none } }) ∧
  (∀ (s : State) (n : Fin 4), s.powered →
    exec (.incompleteFrame n) s = .next { s with
      pins := { s.pins with sent := [] }, link := { s.link with dropped := true, reading := none } }) ∧
  (∀ (s : State) (i : Nat), s.powered → s.pins.sent = [] → s.miso i = some 0) ∧
  (∀ (s : State) (kind tag l0 l1 : Byte) (payload : List Byte), exec (.ignoredTransaction (0x57 :: kind :: tag :: l0 :: l1 :: payload)) s =
    exec (.unknownRequest kind ⟨tag :: l0 :: l1 :: payload⟩) s) ∧
  (∀ (s : State) (bytes : List Byte), s.powered → bytes.length < 4 → exec (.ignoredTransaction (0x57 :: bytes)) s =
    .next { s with pins := { s.pins with sent := [] }, link := { s.link with dropped := true, reading := none } }) ∧
  (∀ (s : State) (bytes : List Byte), s.powered →
    exec (.ignoredTransaction (0x52 :: bytes)) s = exec (.readRecord (.whole bytes.length)) s) ∧
  (∀ (l : Link) (k : ReportKind) (bit : Nat) (sub : Byte) (payload : List Byte),
    (k, bit) ∈ [(ReportKind.scene, 0), (.storeDone, 1), (.tuner, 2), (.levels, 3), (.cues, 4), (.pedal, 5), (.tempo, 6),
      (.delay, 7), (.started, 8)] →
    let r : OutRecord := { kind := BitVec.ofNat 8 (0x41 + bit), tag := 0, status := sub, payload := payload }
    let learns (slot : Slot) : Option ReadHead := l.reading.map fun h => match h with
      | .slot at' old replaced => .slot at' old (replaced || at' == slot)
      | other => other
    (l.mask.getLsbD bit = false → l.post k sub payload = l) ∧
    (l.mask.getLsbD bit = true →
      (k = .tuner → l.post k sub payload = { l with tuner := some r, reading := learns .tuner }) ∧
      (k = .levels → l.post k sub payload = { l with levels := some r, reading := learns .levels }) ∧
      (k = .cues → l.post k sub payload = { l with cues := some r, reading := learns .cues }) ∧
      (k ≠ .tuner → k ≠ .levels → k ≠ .cues →
        (l.queue.length ≤ 21 → l.post k sub payload = { l with queue := l.queue ++ [r] }) ∧
        (22 ≤ l.queue.length → l.post k sub payload = { l with lost := true })))) ∧
  (∀ (l : Link) (r : OutRecord),
    l.remove (.queue r) = { l with queue := l.queue.drop 1 } ∧
    l.remove (.slot .tuner r false) = { l with tuner := none } ∧ l.remove (.slot .levels r false) = { l with levels := none } ∧
    l.remove (.slot .cues r false) = { l with cues := none } ∧ (∀ slot, l.remove (.slot slot r true) = l) ∧
    l.remove .nothing = l) ∧
  (∀ s : State, s.attn = true ↔
    s.powered ∧ (s.link.queue ≠ [] ∨ s.link.tuner ≠ none ∨ s.link.levels ≠ none ∨ s.link.cues ≠ none))

/-- Every request, the 32 of the catalogue and UNKNOWN_REQUEST (R177, R178, R179, R190, R194), its frame being tag, length with the low
byte first and payload after the kind byte: dropped while the queue holds 24 records; else executed and answered with exactly one reply
at the queue's young end, after any report of its own, with its kind and tag; the four common checks decide in their order, before the
request's own, the fourth by the catalogue's payload lengths. A frame of fewer than three bytes after its kind is no request. An
UNKNOWN_REQUEST whose kind is in the catalogue is that request, by the model's choice (log entry 18). -/
def Obligations.EveryRequestIsDroppedOrAnsweredOnce : Prop :=
  (∀ (c : Instr) (kind : Byte) (f : Frame) (s : State), requestOf c = some (kind, f) → s.powered → f.bytes.length < 3 →
    exec c s = .next { s with
      pins := { s.pins with sent := [] }, link := { s.link with dropped := true, reading := none } }) ∧
  ∀ (c : Instr) (kind tag l0 l1 : Byte) (payload : List Byte) (s : State),
    requestOf c = some (kind, ⟨tag :: l0 :: l1 :: payload⟩) → s.powered →
    let n := l0.toNat + 256 * l1.toNat
    (24 ≤ s.link.queue.length →
      exec c s = .next { s with
        pins := { s.pins with sent := [] }, link := { s.link with dropped := true, reading := none } }) ∧
    (s.link.queue.length < 24 →
      (∃ (t : State) (status : Byte) (reply : List Byte), exec c s = .next (t.replied (kind ||| 0x80) tag status reply) ∧
        status.toNat ≤ 12 ∧ (t.link.queue.filter fun r => !r.isReport).length ≤
          (s.link.queue.filter fun r => !r.isReport).length) ∧
      (n ≠ payload.length ∨ 250 < n → exec c s = .next (s.replied (kind ||| 0x80) tag 2 [])) ∧
      (n = payload.length → n ≤ 250 →
        (kind = 0 ∨ 32 < kind.toNat → exec c s = .next (s.replied (kind ||| 0x80) tag 3 [])) ∧
        (1 ≤ kind.toNat → kind.toNat ≤ 32 →
          (kind ≠ 1 → kind ≠ 2 → s.startUp.phase ≠ .running → exec c s = .next (s.replied (kind ||| 0x80) tag 5 [])) ∧
          (kind = 1 ∨ kind = 2 ∨ s.startUp.phase = .running → ¬catalogueLength kind.toNat n →
            exec c s = .next (s.replied (kind ||| 0x80) tag 2 [])))))

/-- IDENT in every phase of start-up, STATUS and REPORTS (R187, R188, R186, R23, R144, R174): IDENT and a STATUS with clear flag 0
change nothing; a STATUS reply's 96 bytes are the five parts of R195, and a set clear flag clears the counts after they are
taken; REPORTS stores a mask of nine bits, posts CUES when it enables that kind with
the count at or above the watermark, leaves LEVELS to the next boundary when it enables that kind, and posts TUNER when it enables that
kind while the latest reading differs from the last reported one in note, cents or flag, or is NO_SIGNAL against one that is not; the
reading it carries then becomes the last reported one. That a last reported reading of none, and a NO_SIGNAL against a reading, count as
different is the model's choice (log entry 21). -/
def Obligations.IdentStatusAndReports : Prop :=
  (∀ (s : State) (tag : Byte), s.powered → s.link.queue.length < 24 → exec (.ident (requestFrame tag [])) s = .next (s.replied
    0x81 tag 0 [0xBF, 0xCC, 0x02, 1, 1, 1, if s.startUp.phase = .running then 1 else 0])) ∧
  (∀ (s : State) (tag : Byte), s.powered → s.link.queue.length < 24 →
    let m := s.scenes
    let u := s.cues
    let bit (b : Bool) (v : Nat) : Nat := if b then v else 0
    let link : List Byte := [BitVec.ofNat 8 s.link.mask.toNat, BitVec.ofNat 8 (s.link.mask.toNat / 256),
      BitVec.ofNat 8 s.link.queue.length,
      BitVec.ofNat 8 (bit s.link.tuner.isSome 1 + bit s.link.levels.isSome 2 + bit s.link.cues.isSome 4)]
    let line (ln : Line) : List Byte :=
      (match ln.holder with
        | .free => [0, 0]
        | .playing n => [1, BitVec.ofNat 8 n]
        | .incoming n => [2, BitVec.ofNat 8 n]
        | .trail => [3, 0]
        | .cutting => [4, 0]) ++ bytesLE 3 ln.span ++ bytesLE 2 ln.underruns ++ bytesLE 2 ln.overruns
    let delay : List Byte := flagByte s.delay.present ::
      (line s.delay.lines[(0 : Fin 4)] ++ line s.delay.lines[(1 : Fin 4)] ++ line s.delay.lines[(2 : Fin 4)] ++
        line s.delay.lines[(3 : Fin 4)])
    let state : Byte := match m.scene with
      | .steady => 0
      | .loading _ _ => 1
      | .armed _ _ => 2
      | .crossfade _ _ => 3
      | .dip _ _ => if s.chain.mixer.phase = .dipIn then 5 else 4
    let contexts : Nat := match m.scene with
      | .crossfade c _ => m.playing.cost + c.cost
      | .dip c _ => max m.playing.cost c.cost
      | _ => m.playing.cost
    let fading (t : Trail) : Bool := match t.state with
      | .cutting _ => true
      | _ => false
    let account := contexts + 6 * (m.trails.filter fun t => !fading t).length
    let incoming : List Byte := match m.scene.incoming with
      | some c => [1, c.source.code, c.number, c.origin.code, BitVec.ofNat 8 c.cost, flagByte c.edited]
      | none => [0, 0, 0, 0, 0, 0]
    let queued : List Byte := match m.scene.queued with
      | some q => [1, q.source.code, q.number, q.origin.code]
      | none => [0, 0, 0, 0]
    let trails : List Byte := m.trails.flatMap fun t =>
      [BitVec.ofNat 8 t.line.val, if t.state = .running then 0 else 1] ++ bytesLE 2 t.age
    let scene : List Byte :=
      [state, BitVec.ofNat 8 account, m.lastRecall, m.playing.source.code, m.playing.number, BitVec.ofNat 8 m.playing.cost,
        m.playing.input.code, flagByte m.playing.edited] ++ incoming ++ queued ++
      BitVec.ofNat 8 m.trails.length :: (trails ++ List.replicate 16 0).take 16
    let store : List Byte :=
      (match s.store.engine with
        | .idle => [0, 0, 0, 0xFF]
        | .writing op phase _ =>
          [if phase = .erasing then 1 else 2, op.codes.1, op.codes.2, if op.bank = 0 then 0 else 1]) ++
      [BitVec.ofNat 8 (s.store.directory.toList.filter Option.isSome).length]
    let switch (i : Fin 8) : Byte := match u.switches[i].state with
      | .released => 0
      | .pressed => 1
      | .unknown => 2
    let cue : List Byte :=
      [BitVec.ofNat 8 u.queue.length, flagByte u.lost] ++ bytesLE 2 u.discards ++
        [BitVec.ofNat 8 u.fifo.length, flagByte u.overflow, BitVec.ofNat 8 u.watermark] ++
        [switch 0, switch 1, switch 2, switch 3, switch 4, switch 5, switch 6, switch 7]
    ∃ payload : List Byte, payload = link ++ delay ++ scene ++ store ++ cue ∧ payload.length = 96 ∧
      exec (.status (requestFrame tag [0])) s = .next (s.replied 0x82 tag 0 payload) ∧
      ∀ flag : Byte, flag ≠ 0 → ∃ (t : State), exec (.status (requestFrame tag [flag])) s = .next (t.replied 0x82 tag 0 payload) ∧
        (∀ l : Fin 4, t.delay.lines[l] = { s.delay.lines[l] with underruns := 0, overruns := 0 }) ∧
        t.cues = { s.cues with lost := false, discards := 0 } ∧ t = { s with delay := t.delay, cues := t.cues } ∧
        t.delay.mem = s.delay.mem) ∧
  (∀ (s : State) (tag m0 m1 : Byte), s.accepting →
    (1 < m1.toNat → exec (.reports (requestFrame tag [m0, m1])) s = .next (s.replied 0x9F tag 4 [])) ∧
    (m1.toNat ≤ 1 →
      let mask := BitVec.ofNat 16 (m0.toNat + 256 * m1.toNat)
      ∃ (t : State), exec (.reports (requestFrame tag [m0, m1])) s = .next (t.replied 0x9F tag 0 [m0, m1]) ∧
        t.link.mask = mask ∧ t.link.queue = s.link.queue ∧ t.link.levels = s.link.levels ∧
        (s.link.mask.getLsbD 2 = true ∨ mask.getLsbD 2 = false → t.link.tuner = s.link.tuner ∧ t.tuner = s.tuner) ∧
        (let u := s.tuner
         let differs : Prop := match u.latest, u.reported with
           | some r, .reading old => r.note ≠ old.note ∨ r.cents ≠ old.cents ∨ r.inTune ≠ old.inTune
           | some _, _ => True
           | none, reported => reported ≠ .noSignal
         s.link.mask.getLsbD 2 = false → mask.getLsbD 2 = true →
           (¬differs → t.link.tuner = s.link.tuner ∧ t.tuner = u) ∧
           (differs → ∃ state : Byte, state = (match u.measure with
               | .off => 0
               | .seeking => 1
               | .tracking => 2) ∧
             (u.latest = none → t.tuner = { u with reported := .noSignal } ∧
               t.link.tuner = some ⟨0x43, 0, 0, [state, 0, 0, 0, 0, 0, 0, 0, 0]⟩) ∧
             (∀ r, u.latest = some r → t.tuner = { u with reported := .reading r } ∧
               t.link.tuner = some ⟨0x43, 0, 0, [state, 1, BitVec.ofNat 8 r.note] ++ bytesSignedLE 2 r.cents ++
                 [flagByte r.inTune] ++ bytesLE 3 r.period⟩))) ∧
        (t.chain.levelsCatchUp = true ↔
          s.chain.levelsCatchUp = true ∨ (s.link.mask.getLsbD 3 = false ∧ mask.getLsbD 3 = true)) ∧
        (s.link.mask.getLsbD 4 = false → mask.getLsbD 4 = true → s.cues.watermark ≤ s.cues.fifo.length →
          t.link.cues = some ⟨0x45, 0, 0, [BitVec.ofNat 8 s.cues.fifo.length, flagByte s.cues.overflow]⟩) ∧
        (s.link.mask.getLsbD 4 = true ∨ mask.getLsbD 4 = false ∨ s.cues.fifo.length < s.cues.watermark →
          t.link.cues = s.link.cues) ∧
        t = { s with link := t.link, tuner := t.tuner, chain := t.chain } ∧
        t.chain = { s.chain with levelsCatchUp := t.chain.levelsCatchUp }))

/-! ## Invariants that every step keeps, and records -/

/-- Every step keeps the delay memory in its one canonical form (log entry 6). -/
def Obligations.DelayMemoryStaysCanonical : Prop :=
  ∀ s t : State, Memory.wf s.delay.mem = true → step s = .next t → Memory.wf t.delay.mem = true

/-- Every step keeps the outbound queue at 24 records or fewer, of which reports take at most 22 (R182), and the enable mask
within its nine bits (R186). -/
def Obligations.OutboundQueueStaysBounded : Prop :=
  ∀ s t : State, s.link.ok → step s = .next t → t.link.ok

/-- Every step keeps the pair on DAOUT in the sample range (R1, R21). -/
def Obligations.OutputsStayInTheSampleRange : Prop :=
  ∀ s t : State, s.outputsOk → step s = .next t → t.outputsOk

/-- Every step keeps the ramp position of every stage in 0..256 (R33). -/
def Obligations.RampPositionsStayInRange : Prop :=
  ∀ s t : State, s.rampsOk → step s = .next t → t.rampsOk

/-- Every step keeps the beat length in 12,000..144,000 samples and CLOCK as the source of a locked unit (R146), together with
what makes this so: the tap run's intervals in range and eight clock intervals only while they wait to lock or to update. -/
def Obligations.TempoStaysInRangeAndLockedToTheClock : Prop :=
  ∀ s t : State, s.tempo.ok → step s = .next t → t.tempo.ok

/-- Every step keeps this: a preset slot is VALID in the directory only if its flash, or the write image of a write in flight to
it, holds a record that passed validation, with the directory's length and name (R105); and a write in flight has destroyed its
preset slot's marker. -/
def Obligations.DirectoryHoldsOnlyValidRecords : Prop :=
  ∀ s t : State, s.store.ok → step s = .next t → t.store.ok

/-- Every step keeps this: each delay line is held by exactly the stage or trail that its holder names, and the trail list holds
no line twice (R37, R38, R100). -/
def Obligations.LineTableAgreesWithItsHolders : Prop :=
  ∀ s t : State, s.linesOk → step s = .next t → t.linesOk

/-- Every step keeps the FIFOs, windows, queues, counts and buffers within their sizes (R37, R50, R51, R52, R71, R130, R133,
R142). -/
def Obligations.BuffersStayWithinTheirSizes : Prop :=
  ∀ s t : State, s.sizesOk → step s = .next t → t.sizesOk

/-- Every one of these invariants holds at reset. Where the spec gives State.reset no value, it holds the model's choices (log entries 5,
6, 9, 10 and 29). -/
def Obligations.InvariantsHoldAtReset : Prop :=
  Memory.wf State.reset.delay.mem = true ∧ State.reset.link.ok ∧ State.reset.outputsOk ∧ State.reset.rampsOk ∧
    State.reset.tempo.ok ∧ State.reset.store.ok ∧ State.reset.linesOk ∧ State.reset.sizesOk

/-- A record in order passes validation with its cost and DELAY count when it is written in the layout of R192, and reading those
bytes gives the record back (R67, R109, R192). -/
def Obligations.RecordsInOrderSurviveWritingAndReading : Prop :=
  ∀ r : Record, r.ok →
    readRecord (writeRecord r) = r ∧
      validate (writeRecord r) = .ok (r.stages.map fun e => e.kind.cost).sum (r.stages.filter fun e => e.kind == .delay).length
end

