-- ==== Sys2Proof/Laws/Bytes.lean ====
section
/-! SUPPORT. Numbers as bytes, least significant first (R191), and samples in slots (R196): writing and reading agree. -/

namespace Sys2Proof.Machine

@[simp] theorem bytesLE_length (n v : Nat) : (bytesLE n v).length = n := by
  induction n generalizing v with
  | zero => rfl
  | succ n ih => simp [bytesLE, ih]

@[simp] theorem bytesSignedLE_length (n : Nat) (v : Int) : (bytesSignedLE n v).length = n := bytesLE_length _ _

theorem ofBytesLE_bytesLE (n v : Nat) : ofBytesLE (bytesLE n v) = v % 256 ^ n := by
  induction n generalizing v with
  | zero => simp [bytesLE, ofBytesLE, Nat.mod_one]
  | succ n ih =>
    have h : (BitVec.ofNat 8 v).toNat = v % 256 := by simp
    rw [bytesLE, ofBytesLE, ih, h, Nat.pow_succ', Nat.mod_mul]

theorem ofBytesLE_lt (bs : List Byte) : ofBytesLE bs < 256 ^ bs.length := by
  induction bs with
  | nil => simp [ofBytesLE]
  | cons b bs ih =>
    simp only [ofBytesLE, List.length_cons, pow_succ']
    have := b.isLt
    omega

/-- Reading back a number in its unsigned range. -/
theorem ofBytesLE_bytesLE_of_lt {n v : Nat} (h : v < 256 ^ n) : ofBytesLE (bytesLE n v) = v := by
  rw [ofBytesLE_bytesLE, Nat.mod_eq_of_lt h]

/-- Reading back a number in its two's complement range. -/
theorem ofBytesSignedLE_bytesSignedLE {n : Nat} {v : Int} (hl : -(256 ^ n : Nat) ≤ 2 * v) (hh : 2 * v < (256 ^ n : Nat)) :
    ofBytesSignedLE n (bytesSignedLE n v) = v := by
  have hp : (0 : Int) < (256 ^ n : Nat) := by positivity
  have h0 := Int.emod_nonneg v (ne_of_gt hp)
  have h1 := Int.emod_lt_of_pos v hp
  have e : ofBytesLE (bytesSignedLE n v) = (v % (256 ^ n : Nat)).toNat := ofBytesLE_bytesLE_of_lt (by omega)
  simp only [ofBytesSignedLE, e]
  by_cases hv : 0 ≤ v
  · rw [Int.emod_eq_of_lt hv (by omega)]
    split <;> omega
  · have e' : v % (256 ^ n : Nat) = v + (256 ^ n : Nat) := by
      rw [← Int.add_emod_right, Int.emod_eq_of_lt (by omega) (by omega)]
    rw [e']
    split <;> omega

theorem numAt_zero_append (bs rest : List Byte) : numAt (bs ++ rest) 0 bs.length = ofBytesLE bs := by
  simp [numAt]

@[simp] theorem byteAt_nil (i : Nat) : byteAt [] i = 0 := rfl
@[simp] theorem byteAt_cons_zero (b : Byte) (bs : List Byte) : byteAt (b :: bs) 0 = b.toNat := rfl
@[simp] theorem byteAt_cons_succ (b : Byte) (bs : List Byte) (i : Nat) : byteAt (b :: bs) (i + 1) = byteAt bs i := rfl

@[simp] theorem byteOf_toNat (b : Byte) : byteOf b.toNat = b := by simp [byteOf]

theorem byteOf_injective_of_lt {m n : Nat} (hm : m < 256) (hn : n < 256) (h : byteOf m = byteOf n) : m = n := by
  have := congrArg BitVec.toNat h
  simp only [byteOf, BitVec.toNat_ofNat] at this
  omega

/-! ## Slots of the audio port -/

/-- A slot's 32 bits are 256 times its sample: the sample's 24 bits stand before eight bits 0 (R196). -/
theorem toSlot_toInt {x : Int} (hl : sampleMin ≤ x) (hh : x ≤ sampleMax) : (toSlot x).toInt = 256 * x := by
  unfold sampleMin at hl
  unfold sampleMax at hh
  have h : (BitVec.ofInt 24 x).toInt = x := by
    rw [BitVec.toInt_ofInt, Int.bmod_eq_of_le] <;> omega
  unfold toSlot
  rw [BitVec.toInt_append]
  simp [h]

/-- A sample that is sent in a slot is read back from it (R196). -/
theorem ofSlot_toSlot {x : Int} (hl : sampleMin ≤ x) (hh : x ≤ sampleMax) : ofSlot (toSlot x) = x := by
  unfold sampleMin at hl
  unfold sampleMax at hh
  have h : (toSlot x).extractLsb' 8 24 = BitVec.ofInt 24 x := BitVec.extractLsb'_append_eq_left
  unfold ofSlot
  rw [h, BitVec.toInt_ofInt, Int.bmod_eq_of_le] <;> omega

@[simp] theorem toSlot_zero : toSlot 0 = 0 := by decide

end Sys2Proof.Machine
end

