-- ==== Sys2Proof/Laws/State.lean ====
section
/-! SUPPORT. One lemma per field per update of State, so that no proof unfolds a record update. -/

namespace Sys2Proof.Machine

/-! ### withCounter -/

@[simp] theorem State.withCounter_sampleCounter (s : State) (v : Stamp) : (s.withCounter v).sampleCounter = v := rfl
@[simp] theorem State.withCounter_startUp (s : State) (v : Stamp) : (s.withCounter v).startUp = s.startUp := rfl
@[simp] theorem State.withCounter_pins (s : State) (v : Stamp) : (s.withCounter v).pins = s.pins := rfl
@[simp] theorem State.withCounter_chain (s : State) (v : Stamp) : (s.withCounter v).chain = s.chain := rfl
@[simp] theorem State.withCounter_latches (s : State) (v : Stamp) : (s.withCounter v).latches = s.latches := rfl
@[simp] theorem State.withCounter_delay (s : State) (v : Stamp) : (s.withCounter v).delay = s.delay := rfl
@[simp] theorem State.withCounter_scenes (s : State) (v : Stamp) : (s.withCounter v).scenes = s.scenes := rfl
@[simp] theorem State.withCounter_store (s : State) (v : Stamp) : (s.withCounter v).store = s.store := rfl
@[simp] theorem State.withCounter_upload (s : State) (v : Stamp) : (s.withCounter v).upload = s.upload := rfl
@[simp] theorem State.withCounter_cues (s : State) (v : Stamp) : (s.withCounter v).cues = s.cues := rfl
@[simp] theorem State.withCounter_tempo (s : State) (v : Stamp) : (s.withCounter v).tempo = s.tempo := rfl
@[simp] theorem State.withCounter_tuner (s : State) (v : Stamp) : (s.withCounter v).tuner = s.tuner := rfl
@[simp] theorem State.withCounter_link (s : State) (v : Stamp) : (s.withCounter v).link = s.link := rfl
@[simp] theorem State.withCounter_pending (s : State) (v : Stamp) : (s.withCounter v).pending = s.pending := rfl

/-! ### withStartUp -/

@[simp] theorem State.withStartUp_sampleCounter (s : State) (v : StartUp) : (s.withStartUp v).sampleCounter = s.sampleCounter := rfl
@[simp] theorem State.withStartUp_startUp (s : State) (v : StartUp) : (s.withStartUp v).startUp = v := rfl
@[simp] theorem State.withStartUp_pins (s : State) (v : StartUp) : (s.withStartUp v).pins = s.pins := rfl
@[simp] theorem State.withStartUp_chain (s : State) (v : StartUp) : (s.withStartUp v).chain = s.chain := rfl
@[simp] theorem State.withStartUp_latches (s : State) (v : StartUp) : (s.withStartUp v).latches = s.latches := rfl
@[simp] theorem State.withStartUp_delay (s : State) (v : StartUp) : (s.withStartUp v).delay = s.delay := rfl
@[simp] theorem State.withStartUp_scenes (s : State) (v : StartUp) : (s.withStartUp v).scenes = s.scenes := rfl
@[simp] theorem State.withStartUp_store (s : State) (v : StartUp) : (s.withStartUp v).store = s.store := rfl
@[simp] theorem State.withStartUp_upload (s : State) (v : StartUp) : (s.withStartUp v).upload = s.upload := rfl
@[simp] theorem State.withStartUp_cues (s : State) (v : StartUp) : (s.withStartUp v).cues = s.cues := rfl
@[simp] theorem State.withStartUp_tempo (s : State) (v : StartUp) : (s.withStartUp v).tempo = s.tempo := rfl
@[simp] theorem State.withStartUp_tuner (s : State) (v : StartUp) : (s.withStartUp v).tuner = s.tuner := rfl
@[simp] theorem State.withStartUp_link (s : State) (v : StartUp) : (s.withStartUp v).link = s.link := rfl
@[simp] theorem State.withStartUp_pending (s : State) (v : StartUp) : (s.withStartUp v).pending = s.pending := rfl

/-! ### withPins -/

@[simp] theorem State.withPins_sampleCounter (s : State) (v : Pins) : (s.withPins v).sampleCounter = s.sampleCounter := rfl
@[simp] theorem State.withPins_startUp (s : State) (v : Pins) : (s.withPins v).startUp = s.startUp := rfl
@[simp] theorem State.withPins_pins (s : State) (v : Pins) : (s.withPins v).pins = v := rfl
@[simp] theorem State.withPins_chain (s : State) (v : Pins) : (s.withPins v).chain = s.chain := rfl
@[simp] theorem State.withPins_latches (s : State) (v : Pins) : (s.withPins v).latches = s.latches := rfl
@[simp] theorem State.withPins_delay (s : State) (v : Pins) : (s.withPins v).delay = s.delay := rfl
@[simp] theorem State.withPins_scenes (s : State) (v : Pins) : (s.withPins v).scenes = s.scenes := rfl
@[simp] theorem State.withPins_store (s : State) (v : Pins) : (s.withPins v).store = s.store := rfl
@[simp] theorem State.withPins_upload (s : State) (v : Pins) : (s.withPins v).upload = s.upload := rfl
@[simp] theorem State.withPins_cues (s : State) (v : Pins) : (s.withPins v).cues = s.cues := rfl
@[simp] theorem State.withPins_tempo (s : State) (v : Pins) : (s.withPins v).tempo = s.tempo := rfl
@[simp] theorem State.withPins_tuner (s : State) (v : Pins) : (s.withPins v).tuner = s.tuner := rfl
@[simp] theorem State.withPins_link (s : State) (v : Pins) : (s.withPins v).link = s.link := rfl
@[simp] theorem State.withPins_pending (s : State) (v : Pins) : (s.withPins v).pending = s.pending := rfl

/-! ### withChain -/

@[simp] theorem State.withChain_sampleCounter (s : State) (v : Chain) : (s.withChain v).sampleCounter = s.sampleCounter := rfl
@[simp] theorem State.withChain_startUp (s : State) (v : Chain) : (s.withChain v).startUp = s.startUp := rfl
@[simp] theorem State.withChain_pins (s : State) (v : Chain) : (s.withChain v).pins = s.pins := rfl
@[simp] theorem State.withChain_chain (s : State) (v : Chain) : (s.withChain v).chain = v := rfl
@[simp] theorem State.withChain_latches (s : State) (v : Chain) : (s.withChain v).latches = s.latches := rfl
@[simp] theorem State.withChain_delay (s : State) (v : Chain) : (s.withChain v).delay = s.delay := rfl
@[simp] theorem State.withChain_scenes (s : State) (v : Chain) : (s.withChain v).scenes = s.scenes := rfl
@[simp] theorem State.withChain_store (s : State) (v : Chain) : (s.withChain v).store = s.store := rfl
@[simp] theorem State.withChain_upload (s : State) (v : Chain) : (s.withChain v).upload = s.upload := rfl
@[simp] theorem State.withChain_cues (s : State) (v : Chain) : (s.withChain v).cues = s.cues := rfl
@[simp] theorem State.withChain_tempo (s : State) (v : Chain) : (s.withChain v).tempo = s.tempo := rfl
@[simp] theorem State.withChain_tuner (s : State) (v : Chain) : (s.withChain v).tuner = s.tuner := rfl
@[simp] theorem State.withChain_link (s : State) (v : Chain) : (s.withChain v).link = s.link := rfl
@[simp] theorem State.withChain_pending (s : State) (v : Chain) : (s.withChain v).pending = s.pending := rfl

/-! ### withLatches -/

@[simp] theorem State.withLatches_sampleCounter (s : State) (v : Vector Latch 8) : (s.withLatches v).sampleCounter = s.sampleCounter := rfl
@[simp] theorem State.withLatches_startUp (s : State) (v : Vector Latch 8) : (s.withLatches v).startUp = s.startUp := rfl
@[simp] theorem State.withLatches_pins (s : State) (v : Vector Latch 8) : (s.withLatches v).pins = s.pins := rfl
@[simp] theorem State.withLatches_chain (s : State) (v : Vector Latch 8) : (s.withLatches v).chain = s.chain := rfl
@[simp] theorem State.withLatches_latches (s : State) (v : Vector Latch 8) : (s.withLatches v).latches = v := rfl
@[simp] theorem State.withLatches_delay (s : State) (v : Vector Latch 8) : (s.withLatches v).delay = s.delay := rfl
@[simp] theorem State.withLatches_scenes (s : State) (v : Vector Latch 8) : (s.withLatches v).scenes = s.scenes := rfl
@[simp] theorem State.withLatches_store (s : State) (v : Vector Latch 8) : (s.withLatches v).store = s.store := rfl
@[simp] theorem State.withLatches_upload (s : State) (v : Vector Latch 8) : (s.withLatches v).upload = s.upload := rfl
@[simp] theorem State.withLatches_cues (s : State) (v : Vector Latch 8) : (s.withLatches v).cues = s.cues := rfl
@[simp] theorem State.withLatches_tempo (s : State) (v : Vector Latch 8) : (s.withLatches v).tempo = s.tempo := rfl
@[simp] theorem State.withLatches_tuner (s : State) (v : Vector Latch 8) : (s.withLatches v).tuner = s.tuner := rfl
@[simp] theorem State.withLatches_link (s : State) (v : Vector Latch 8) : (s.withLatches v).link = s.link := rfl
@[simp] theorem State.withLatches_pending (s : State) (v : Vector Latch 8) : (s.withLatches v).pending = s.pending := rfl

/-! ### withDelay -/

@[simp] theorem State.withDelay_sampleCounter (s : State) (v : DelayMemory) : (s.withDelay v).sampleCounter = s.sampleCounter := rfl
@[simp] theorem State.withDelay_startUp (s : State) (v : DelayMemory) : (s.withDelay v).startUp = s.startUp := rfl
@[simp] theorem State.withDelay_pins (s : State) (v : DelayMemory) : (s.withDelay v).pins = s.pins := rfl
@[simp] theorem State.withDelay_chain (s : State) (v : DelayMemory) : (s.withDelay v).chain = s.chain := rfl
@[simp] theorem State.withDelay_latches (s : State) (v : DelayMemory) : (s.withDelay v).latches = s.latches := rfl
@[simp] theorem State.withDelay_delay (s : State) (v : DelayMemory) : (s.withDelay v).delay = v := rfl
@[simp] theorem State.withDelay_scenes (s : State) (v : DelayMemory) : (s.withDelay v).scenes = s.scenes := rfl
@[simp] theorem State.withDelay_store (s : State) (v : DelayMemory) : (s.withDelay v).store = s.store := rfl
@[simp] theorem State.withDelay_upload (s : State) (v : DelayMemory) : (s.withDelay v).upload = s.upload := rfl
@[simp] theorem State.withDelay_cues (s : State) (v : DelayMemory) : (s.withDelay v).cues = s.cues := rfl
@[simp] theorem State.withDelay_tempo (s : State) (v : DelayMemory) : (s.withDelay v).tempo = s.tempo := rfl
@[simp] theorem State.withDelay_tuner (s : State) (v : DelayMemory) : (s.withDelay v).tuner = s.tuner := rfl
@[simp] theorem State.withDelay_link (s : State) (v : DelayMemory) : (s.withDelay v).link = s.link := rfl
@[simp] theorem State.withDelay_pending (s : State) (v : DelayMemory) : (s.withDelay v).pending = s.pending := rfl

/-! ### withScenes -/

@[simp] theorem State.withScenes_sampleCounter (s : State) (v : SceneManager) : (s.withScenes v).sampleCounter = s.sampleCounter := rfl
@[simp] theorem State.withScenes_startUp (s : State) (v : SceneManager) : (s.withScenes v).startUp = s.startUp := rfl
@[simp] theorem State.withScenes_pins (s : State) (v : SceneManager) : (s.withScenes v).pins = s.pins := rfl
@[simp] theorem State.withScenes_chain (s : State) (v : SceneManager) : (s.withScenes v).chain = s.chain := rfl
@[simp] theorem State.withScenes_latches (s : State) (v : SceneManager) : (s.withScenes v).latches = s.latches := rfl
@[simp] theorem State.withScenes_delay (s : State) (v : SceneManager) : (s.withScenes v).delay = s.delay := rfl
@[simp] theorem State.withScenes_scenes (s : State) (v : SceneManager) : (s.withScenes v).scenes = v := rfl
@[simp] theorem State.withScenes_store (s : State) (v : SceneManager) : (s.withScenes v).store = s.store := rfl
@[simp] theorem State.withScenes_upload (s : State) (v : SceneManager) : (s.withScenes v).upload = s.upload := rfl
@[simp] theorem State.withScenes_cues (s : State) (v : SceneManager) : (s.withScenes v).cues = s.cues := rfl
@[simp] theorem State.withScenes_tempo (s : State) (v : SceneManager) : (s.withScenes v).tempo = s.tempo := rfl
@[simp] theorem State.withScenes_tuner (s : State) (v : SceneManager) : (s.withScenes v).tuner = s.tuner := rfl
@[simp] theorem State.withScenes_link (s : State) (v : SceneManager) : (s.withScenes v).link = s.link := rfl
@[simp] theorem State.withScenes_pending (s : State) (v : SceneManager) : (s.withScenes v).pending = s.pending := rfl

/-! ### withStore -/

@[simp] theorem State.withStore_sampleCounter (s : State) (v : Store) : (s.withStore v).sampleCounter = s.sampleCounter := rfl
@[simp] theorem State.withStore_startUp (s : State) (v : Store) : (s.withStore v).startUp = s.startUp := rfl
@[simp] theorem State.withStore_pins (s : State) (v : Store) : (s.withStore v).pins = s.pins := rfl
@[simp] theorem State.withStore_chain (s : State) (v : Store) : (s.withStore v).chain = s.chain := rfl
@[simp] theorem State.withStore_latches (s : State) (v : Store) : (s.withStore v).latches = s.latches := rfl
@[simp] theorem State.withStore_delay (s : State) (v : Store) : (s.withStore v).delay = s.delay := rfl
@[simp] theorem State.withStore_scenes (s : State) (v : Store) : (s.withStore v).scenes = s.scenes := rfl
@[simp] theorem State.withStore_store (s : State) (v : Store) : (s.withStore v).store = v := rfl
@[simp] theorem State.withStore_upload (s : State) (v : Store) : (s.withStore v).upload = s.upload := rfl
@[simp] theorem State.withStore_cues (s : State) (v : Store) : (s.withStore v).cues = s.cues := rfl
@[simp] theorem State.withStore_tempo (s : State) (v : Store) : (s.withStore v).tempo = s.tempo := rfl
@[simp] theorem State.withStore_tuner (s : State) (v : Store) : (s.withStore v).tuner = s.tuner := rfl
@[simp] theorem State.withStore_link (s : State) (v : Store) : (s.withStore v).link = s.link := rfl
@[simp] theorem State.withStore_pending (s : State) (v : Store) : (s.withStore v).pending = s.pending := rfl

/-! ### withUpload -/

@[simp] theorem State.withUpload_sampleCounter (s : State) (v : List Byte) : (s.withUpload v).sampleCounter = s.sampleCounter := rfl
@[simp] theorem State.withUpload_startUp (s : State) (v : List Byte) : (s.withUpload v).startUp = s.startUp := rfl
@[simp] theorem State.withUpload_pins (s : State) (v : List Byte) : (s.withUpload v).pins = s.pins := rfl
@[simp] theorem State.withUpload_chain (s : State) (v : List Byte) : (s.withUpload v).chain = s.chain := rfl
@[simp] theorem State.withUpload_latches (s : State) (v : List Byte) : (s.withUpload v).latches = s.latches := rfl
@[simp] theorem State.withUpload_delay (s : State) (v : List Byte) : (s.withUpload v).delay = s.delay := rfl
@[simp] theorem State.withUpload_scenes (s : State) (v : List Byte) : (s.withUpload v).scenes = s.scenes := rfl
@[simp] theorem State.withUpload_store (s : State) (v : List Byte) : (s.withUpload v).store = s.store := rfl
@[simp] theorem State.withUpload_upload (s : State) (v : List Byte) : (s.withUpload v).upload = v := rfl
@[simp] theorem State.withUpload_cues (s : State) (v : List Byte) : (s.withUpload v).cues = s.cues := rfl
@[simp] theorem State.withUpload_tempo (s : State) (v : List Byte) : (s.withUpload v).tempo = s.tempo := rfl
@[simp] theorem State.withUpload_tuner (s : State) (v : List Byte) : (s.withUpload v).tuner = s.tuner := rfl
@[simp] theorem State.withUpload_link (s : State) (v : List Byte) : (s.withUpload v).link = s.link := rfl
@[simp] theorem State.withUpload_pending (s : State) (v : List Byte) : (s.withUpload v).pending = s.pending := rfl

/-! ### withCues -/

@[simp] theorem State.withCues_sampleCounter (s : State) (v : CueUnit) : (s.withCues v).sampleCounter = s.sampleCounter := rfl
@[simp] theorem State.withCues_startUp (s : State) (v : CueUnit) : (s.withCues v).startUp = s.startUp := rfl
@[simp] theorem State.withCues_pins (s : State) (v : CueUnit) : (s.withCues v).pins = s.pins := rfl
@[simp] theorem State.withCues_chain (s : State) (v : CueUnit) : (s.withCues v).chain = s.chain := rfl
@[simp] theorem State.withCues_latches (s : State) (v : CueUnit) : (s.withCues v).latches = s.latches := rfl
@[simp] theorem State.withCues_delay (s : State) (v : CueUnit) : (s.withCues v).delay = s.delay := rfl
@[simp] theorem State.withCues_scenes (s : State) (v : CueUnit) : (s.withCues v).scenes = s.scenes := rfl
@[simp] theorem State.withCues_store (s : State) (v : CueUnit) : (s.withCues v).store = s.store := rfl
@[simp] theorem State.withCues_upload (s : State) (v : CueUnit) : (s.withCues v).upload = s.upload := rfl
@[simp] theorem State.withCues_cues (s : State) (v : CueUnit) : (s.withCues v).cues = v := rfl
@[simp] theorem State.withCues_tempo (s : State) (v : CueUnit) : (s.withCues v).tempo = s.tempo := rfl
@[simp] theorem State.withCues_tuner (s : State) (v : CueUnit) : (s.withCues v).tuner = s.tuner := rfl
@[simp] theorem State.withCues_link (s : State) (v : CueUnit) : (s.withCues v).link = s.link := rfl
@[simp] theorem State.withCues_pending (s : State) (v : CueUnit) : (s.withCues v).pending = s.pending := rfl

/-! ### withTempo -/

@[simp] theorem State.withTempo_sampleCounter (s : State) (v : Tempo) : (s.withTempo v).sampleCounter = s.sampleCounter := rfl
@[simp] theorem State.withTempo_startUp (s : State) (v : Tempo) : (s.withTempo v).startUp = s.startUp := rfl
@[simp] theorem State.withTempo_pins (s : State) (v : Tempo) : (s.withTempo v).pins = s.pins := rfl
@[simp] theorem State.withTempo_chain (s : State) (v : Tempo) : (s.withTempo v).chain = s.chain := rfl
@[simp] theorem State.withTempo_latches (s : State) (v : Tempo) : (s.withTempo v).latches = s.latches := rfl
@[simp] theorem State.withTempo_delay (s : State) (v : Tempo) : (s.withTempo v).delay = s.delay := rfl
@[simp] theorem State.withTempo_scenes (s : State) (v : Tempo) : (s.withTempo v).scenes = s.scenes := rfl
@[simp] theorem State.withTempo_store (s : State) (v : Tempo) : (s.withTempo v).store = s.store := rfl
@[simp] theorem State.withTempo_upload (s : State) (v : Tempo) : (s.withTempo v).upload = s.upload := rfl
@[simp] theorem State.withTempo_cues (s : State) (v : Tempo) : (s.withTempo v).cues = s.cues := rfl
@[simp] theorem State.withTempo_tempo (s : State) (v : Tempo) : (s.withTempo v).tempo = v := rfl
@[simp] theorem State.withTempo_tuner (s : State) (v : Tempo) : (s.withTempo v).tuner = s.tuner := rfl
@[simp] theorem State.withTempo_link (s : State) (v : Tempo) : (s.withTempo v).link = s.link := rfl
@[simp] theorem State.withTempo_pending (s : State) (v : Tempo) : (s.withTempo v).pending = s.pending := rfl

/-! ### withTuner -/

@[simp] theorem State.withTuner_sampleCounter (s : State) (v : Tuner) : (s.withTuner v).sampleCounter = s.sampleCounter := rfl
@[simp] theorem State.withTuner_startUp (s : State) (v : Tuner) : (s.withTuner v).startUp = s.startUp := rfl
@[simp] theorem State.withTuner_pins (s : State) (v : Tuner) : (s.withTuner v).pins = s.pins := rfl
@[simp] theorem State.withTuner_chain (s : State) (v : Tuner) : (s.withTuner v).chain = s.chain := rfl
@[simp] theorem State.withTuner_latches (s : State) (v : Tuner) : (s.withTuner v).latches = s.latches := rfl
@[simp] theorem State.withTuner_delay (s : State) (v : Tuner) : (s.withTuner v).delay = s.delay := rfl
@[simp] theorem State.withTuner_scenes (s : State) (v : Tuner) : (s.withTuner v).scenes = s.scenes := rfl
@[simp] theorem State.withTuner_store (s : State) (v : Tuner) : (s.withTuner v).store = s.store := rfl
@[simp] theorem State.withTuner_upload (s : State) (v : Tuner) : (s.withTuner v).upload = s.upload := rfl
@[simp] theorem State.withTuner_cues (s : State) (v : Tuner) : (s.withTuner v).cues = s.cues := rfl
@[simp] theorem State.withTuner_tempo (s : State) (v : Tuner) : (s.withTuner v).tempo = s.tempo := rfl
@[simp] theorem State.withTuner_tuner (s : State) (v : Tuner) : (s.withTuner v).tuner = v := rfl
@[simp] theorem State.withTuner_link (s : State) (v : Tuner) : (s.withTuner v).link = s.link := rfl
@[simp] theorem State.withTuner_pending (s : State) (v : Tuner) : (s.withTuner v).pending = s.pending := rfl

/-! ### withLink -/

@[simp] theorem State.withLink_sampleCounter (s : State) (v : Link) : (s.withLink v).sampleCounter = s.sampleCounter := rfl
@[simp] theorem State.withLink_startUp (s : State) (v : Link) : (s.withLink v).startUp = s.startUp := rfl
@[simp] theorem State.withLink_pins (s : State) (v : Link) : (s.withLink v).pins = s.pins := rfl
@[simp] theorem State.withLink_chain (s : State) (v : Link) : (s.withLink v).chain = s.chain := rfl
@[simp] theorem State.withLink_latches (s : State) (v : Link) : (s.withLink v).latches = s.latches := rfl
@[simp] theorem State.withLink_delay (s : State) (v : Link) : (s.withLink v).delay = s.delay := rfl
@[simp] theorem State.withLink_scenes (s : State) (v : Link) : (s.withLink v).scenes = s.scenes := rfl
@[simp] theorem State.withLink_store (s : State) (v : Link) : (s.withLink v).store = s.store := rfl
@[simp] theorem State.withLink_upload (s : State) (v : Link) : (s.withLink v).upload = s.upload := rfl
@[simp] theorem State.withLink_cues (s : State) (v : Link) : (s.withLink v).cues = s.cues := rfl
@[simp] theorem State.withLink_tempo (s : State) (v : Link) : (s.withLink v).tempo = s.tempo := rfl
@[simp] theorem State.withLink_tuner (s : State) (v : Link) : (s.withLink v).tuner = s.tuner := rfl
@[simp] theorem State.withLink_link (s : State) (v : Link) : (s.withLink v).link = v := rfl
@[simp] theorem State.withLink_pending (s : State) (v : Link) : (s.withLink v).pending = s.pending := rfl

/-! ### post -/

@[simp] theorem State.post_sampleCounter (s : State) (k : ReportKind) (sub : Byte) (p : List Byte) : (s.post k sub p).sampleCounter = s.sampleCounter := rfl
@[simp] theorem State.post_startUp (s : State) (k : ReportKind) (sub : Byte) (p : List Byte) : (s.post k sub p).startUp = s.startUp := rfl
@[simp] theorem State.post_pins (s : State) (k : ReportKind) (sub : Byte) (p : List Byte) : (s.post k sub p).pins = s.pins := rfl
@[simp] theorem State.post_chain (s : State) (k : ReportKind) (sub : Byte) (p : List Byte) : (s.post k sub p).chain = s.chain := rfl
@[simp] theorem State.post_latches (s : State) (k : ReportKind) (sub : Byte) (p : List Byte) : (s.post k sub p).latches = s.latches := rfl
@[simp] theorem State.post_delay (s : State) (k : ReportKind) (sub : Byte) (p : List Byte) : (s.post k sub p).delay = s.delay := rfl
@[simp] theorem State.post_scenes (s : State) (k : ReportKind) (sub : Byte) (p : List Byte) : (s.post k sub p).scenes = s.scenes := rfl
@[simp] theorem State.post_store (s : State) (k : ReportKind) (sub : Byte) (p : List Byte) : (s.post k sub p).store = s.store := rfl
@[simp] theorem State.post_upload (s : State) (k : ReportKind) (sub : Byte) (p : List Byte) : (s.post k sub p).upload = s.upload := rfl
@[simp] theorem State.post_cues (s : State) (k : ReportKind) (sub : Byte) (p : List Byte) : (s.post k sub p).cues = s.cues := rfl
@[simp] theorem State.post_tempo (s : State) (k : ReportKind) (sub : Byte) (p : List Byte) : (s.post k sub p).tempo = s.tempo := rfl
@[simp] theorem State.post_tuner (s : State) (k : ReportKind) (sub : Byte) (p : List Byte) : (s.post k sub p).tuner = s.tuner := rfl
@[simp] theorem State.post_pending (s : State) (k : ReportKind) (sub : Byte) (p : List Byte) : (s.post k sub p).pending = s.pending := rfl

@[simp] theorem State.post_link (s : State) (k : ReportKind) (sub : Byte) (p : List Byte) : (s.post k sub p).link = s.link.post k sub p := rfl

/-! ### setScene -/

@[simp] theorem State.setScene_sampleCounter (s : State) (sc : Scene) : (s.setScene sc).sampleCounter = s.sampleCounter := rfl
@[simp] theorem State.setScene_startUp (s : State) (sc : Scene) : (s.setScene sc).startUp = s.startUp := rfl
@[simp] theorem State.setScene_pins (s : State) (sc : Scene) : (s.setScene sc).pins = s.pins := rfl
@[simp] theorem State.setScene_chain (s : State) (sc : Scene) : (s.setScene sc).chain = s.chain := rfl
@[simp] theorem State.setScene_latches (s : State) (sc : Scene) : (s.setScene sc).latches = s.latches := rfl
@[simp] theorem State.setScene_delay (s : State) (sc : Scene) : (s.setScene sc).delay = s.delay := rfl
@[simp] theorem State.setScene_store (s : State) (sc : Scene) : (s.setScene sc).store = s.store := rfl
@[simp] theorem State.setScene_upload (s : State) (sc : Scene) : (s.setScene sc).upload = s.upload := rfl
@[simp] theorem State.setScene_cues (s : State) (sc : Scene) : (s.setScene sc).cues = s.cues := rfl
@[simp] theorem State.setScene_tempo (s : State) (sc : Scene) : (s.setScene sc).tempo = s.tempo := rfl
@[simp] theorem State.setScene_tuner (s : State) (sc : Scene) : (s.setScene sc).tuner = s.tuner := rfl
@[simp] theorem State.setScene_link (s : State) (sc : Scene) : (s.setScene sc).link = s.link := rfl
@[simp] theorem State.setScene_pending (s : State) (sc : Scene) : (s.setScene sc).pending = s.pending := rfl

@[simp] theorem State.setScene_scenes (s : State) (sc : Scene) : (s.setScene sc).scenes = { s.scenes with scene := sc } := rfl

/-! ### setPedal -/

@[simp] theorem State.setPedal_sampleCounter (s : State) (i : Fin 4) (p : Pedal) : (s.setPedal i p).sampleCounter = s.sampleCounter := rfl
@[simp] theorem State.setPedal_startUp (s : State) (i : Fin 4) (p : Pedal) : (s.setPedal i p).startUp = s.startUp := rfl
@[simp] theorem State.setPedal_pins (s : State) (i : Fin 4) (p : Pedal) : (s.setPedal i p).pins = s.pins := rfl
@[simp] theorem State.setPedal_chain (s : State) (i : Fin 4) (p : Pedal) : (s.setPedal i p).chain = s.chain := rfl
@[simp] theorem State.setPedal_latches (s : State) (i : Fin 4) (p : Pedal) : (s.setPedal i p).latches = s.latches := rfl
@[simp] theorem State.setPedal_delay (s : State) (i : Fin 4) (p : Pedal) : (s.setPedal i p).delay = s.delay := rfl
@[simp] theorem State.setPedal_scenes (s : State) (i : Fin 4) (p : Pedal) : (s.setPedal i p).scenes = s.scenes := rfl
@[simp] theorem State.setPedal_store (s : State) (i : Fin 4) (p : Pedal) : (s.setPedal i p).store = s.store := rfl
@[simp] theorem State.setPedal_upload (s : State) (i : Fin 4) (p : Pedal) : (s.setPedal i p).upload = s.upload := rfl
@[simp] theorem State.setPedal_tempo (s : State) (i : Fin 4) (p : Pedal) : (s.setPedal i p).tempo = s.tempo := rfl
@[simp] theorem State.setPedal_tuner (s : State) (i : Fin 4) (p : Pedal) : (s.setPedal i p).tuner = s.tuner := rfl
@[simp] theorem State.setPedal_link (s : State) (i : Fin 4) (p : Pedal) : (s.setPedal i p).link = s.link := rfl
@[simp] theorem State.setPedal_pending (s : State) (i : Fin 4) (p : Pedal) : (s.setPedal i p).pending = s.pending := rfl

/-! ### endRead -/

@[simp] theorem State.endRead_sampleCounter (s : State) : (s.endRead).sampleCounter = s.sampleCounter := rfl
@[simp] theorem State.endRead_startUp (s : State) : (s.endRead).startUp = s.startUp := rfl
@[simp] theorem State.endRead_pins (s : State) : (s.endRead).pins = { s.pins with sent := [] } := rfl
@[simp] theorem State.endRead_chain (s : State) : (s.endRead).chain = s.chain := rfl
@[simp] theorem State.endRead_latches (s : State) : (s.endRead).latches = s.latches := rfl
@[simp] theorem State.endRead_delay (s : State) : (s.endRead).delay = s.delay := rfl
@[simp] theorem State.endRead_scenes (s : State) : (s.endRead).scenes = s.scenes := rfl
@[simp] theorem State.endRead_store (s : State) : (s.endRead).store = s.store := rfl
@[simp] theorem State.endRead_upload (s : State) : (s.endRead).upload = s.upload := rfl
@[simp] theorem State.endRead_cues (s : State) : (s.endRead).cues = s.cues := rfl
@[simp] theorem State.endRead_tempo (s : State) : (s.endRead).tempo = s.tempo := rfl
@[simp] theorem State.endRead_tuner (s : State) : (s.endRead).tuner = s.tuner := rfl
@[simp] theorem State.endRead_pending (s : State) : (s.endRead).pending = s.pending := rfl

/-! ### arbitrate -/

@[simp] theorem State.arbitrate_sampleCounter (s : State) : (s.arbitrate).sampleCounter = s.sampleCounter := rfl
@[simp] theorem State.arbitrate_startUp (s : State) : (s.arbitrate).startUp = s.startUp := rfl
@[simp] theorem State.arbitrate_pins (s : State) : (s.arbitrate).pins = s.pins := rfl
@[simp] theorem State.arbitrate_chain (s : State) : (s.arbitrate).chain = s.chain := rfl
@[simp] theorem State.arbitrate_latches (s : State) : (s.arbitrate).latches = s.latches := rfl
@[simp] theorem State.arbitrate_scenes (s : State) : (s.arbitrate).scenes = s.scenes := rfl
@[simp] theorem State.arbitrate_store (s : State) : (s.arbitrate).store = s.store := rfl
@[simp] theorem State.arbitrate_upload (s : State) : (s.arbitrate).upload = s.upload := rfl
@[simp] theorem State.arbitrate_cues (s : State) : (s.arbitrate).cues = s.cues := rfl
@[simp] theorem State.arbitrate_tempo (s : State) : (s.arbitrate).tempo = s.tempo := rfl
@[simp] theorem State.arbitrate_tuner (s : State) : (s.arbitrate).tuner = s.tuner := rfl
@[simp] theorem State.arbitrate_link (s : State) : (s.arbitrate).link = s.link := rfl
@[simp] theorem State.arbitrate_pending (s : State) : (s.arbitrate).pending = s.pending := rfl

/-! ### makeCue -/

@[simp] theorem State.makeCue_sampleCounter (s : State) (src : BitVec 4) (k : CueKind) (i : BitVec 8) (v : BitVec 10) : (s.makeCue src k i v).sampleCounter = s.sampleCounter := rfl
@[simp] theorem State.makeCue_startUp (s : State) (src : BitVec 4) (k : CueKind) (i : BitVec 8) (v : BitVec 10) : (s.makeCue src k i v).startUp = s.startUp := rfl
@[simp] theorem State.makeCue_pins (s : State) (src : BitVec 4) (k : CueKind) (i : BitVec 8) (v : BitVec 10) : (s.makeCue src k i v).pins = s.pins := rfl
@[simp] theorem State.makeCue_chain (s : State) (src : BitVec 4) (k : CueKind) (i : BitVec 8) (v : BitVec 10) : (s.makeCue src k i v).chain = s.chain := rfl
@[simp] theorem State.makeCue_latches (s : State) (src : BitVec 4) (k : CueKind) (i : BitVec 8) (v : BitVec 10) : (s.makeCue src k i v).latches = s.latches := rfl
@[simp] theorem State.makeCue_delay (s : State) (src : BitVec 4) (k : CueKind) (i : BitVec 8) (v : BitVec 10) : (s.makeCue src k i v).delay = s.delay := rfl
@[simp] theorem State.makeCue_scenes (s : State) (src : BitVec 4) (k : CueKind) (i : BitVec 8) (v : BitVec 10) : (s.makeCue src k i v).scenes = s.scenes := rfl
@[simp] theorem State.makeCue_store (s : State) (src : BitVec 4) (k : CueKind) (i : BitVec 8) (v : BitVec 10) : (s.makeCue src k i v).store = s.store := rfl
@[simp] theorem State.makeCue_upload (s : State) (src : BitVec 4) (k : CueKind) (i : BitVec 8) (v : BitVec 10) : (s.makeCue src k i v).upload = s.upload := rfl
@[simp] theorem State.makeCue_tempo (s : State) (src : BitVec 4) (k : CueKind) (i : BitVec 8) (v : BitVec 10) : (s.makeCue src k i v).tempo = s.tempo := rfl
@[simp] theorem State.makeCue_tuner (s : State) (src : BitVec 4) (k : CueKind) (i : BitVec 8) (v : BitVec 10) : (s.makeCue src k i v).tuner = s.tuner := rfl
@[simp] theorem State.makeCue_link (s : State) (src : BitVec 4) (k : CueKind) (i : BitVec 8) (v : BitVec 10) : (s.makeCue src k i v).link = s.link := rfl
@[simp] theorem State.makeCue_pending (s : State) (src : BitVec 4) (k : CueKind) (i : BitVec 8) (v : BitVec 10) : (s.makeCue src k i v).pending = s.pending := rfl

end Sys2Proof.Machine
end

