-- ==== Sys2Proof/Laws/Link.lean ====
section
/-! SUPPORT. What the operations of the link controller do: running while RESETn is high, the common path of a request (R177..R179),
and posting a report (R182, R183). -/

namespace Sys2Proof.Machine

/-! ## Running while RESETn is high -/

theorem inReset_eq_false {s : State} (h : s.powered) : s.inReset = false := by
  simpa [State.inReset, State.powered] using h

theorem inReset_eq_true {s : State} (h : s.startUp.phase = .held) : s.inReset = true := by
  simp [State.inReset, h]

theorem whilePowered_powered {s : State} (h : s.powered) (act : State → State) : whilePowered s act = .next (act s) := by
  simp [whilePowered, inReset_eq_false h]

theorem whilePowered_held {s : State} (h : s.startUp.phase = .held) (act : State → State) : whilePowered s act = .next s := by
  simp [whilePowered, inReset_eq_true h]

theorem State.accepting.powered {s : State} (h : s.accepting) : s.powered := by
  simp [State.powered, h.1]

theorem State.accepting.ready {s : State} (h : s.accepting) : s.ready = true := by
  simp [State.ready, h.1]

/-! ## The common path of a request -/

theorem frameLengthOk_iff (f : Frame) :
    frameLengthOk f = true ↔ f.length.toNat ≤ 250 ∧ f.length.toNat = f.payload.length := by
  rw [frameLengthOk, Bool.and_eq_true, decide_eq_true_iff, beq_iff_eq]
  exact Iff.rfl

theorem frameLengthOk_requestFrame (tag : Byte) (p : List Byte) (h : p.length ≤ 250) :
    frameLengthOk (requestFrame tag p) = true := by
  rw [frameLengthOk_iff]
  simp only [requestFrame, Frame.length, Frame.payload, List.getD_cons_succ, List.getD_cons_zero, List.drop_succ_cons,
    List.drop_zero, BitVec.toNat_ofNat, show (0 : Byte).toNat = 0 from rfl]
  omega

@[simp] theorem complete_requestFrame (tag : Byte) (p : List Byte) : (requestFrame tag p).complete = true := by
  simp [requestFrame, Frame.complete]

@[simp] theorem tag_requestFrame (tag : Byte) (p : List Byte) : (requestFrame tag p).tag = tag := rfl

@[simp] theorem payload_requestFrame (tag : Byte) (p : List Byte) : (requestFrame tag p).payload = p := rfl

/-- A frame whose header is incomplete is no request (R177). -/
theorem request_incomplete {f : Frame} (h : f.complete = false) (s : State) (kind : Byte) (known early : Bool)
    (fits : Nat → Bool) (body : State → List Byte → Answer) : s.request kind f known early fits body = s.dropFrame := by
  simp [State.request, h, State.dropFrame]

/-- A request that comes to a full queue is dropped (R178). -/
theorem request_full {s : State} (h : 24 ≤ s.link.queue.length) (kind : Byte) (f : Frame) (known early : Bool)
    (fits : Nat → Bool) (body : State → List Byte → Answer) :
    s.request kind f known early fits body = s.endRead.withLink { s.endRead.link with dropped := true } := by
  have : s.endRead.link.queue = s.link.queue := rfl
  simp [State.request, this, Config.queueLength, h]

/-- A request that passes the four common checks is answered by its body (R178, R179). -/
theorem request_runs {s : State} {kind : Byte} {f : Frame} {early : Bool} {fits : Nat → Bool}
    {body : State → List Byte → Answer} (hq : s.link.queue.length < 24) (hc : f.complete = true)
    (hl : frameLengthOk f = true) (hr : s.ready = true ∨ early = true) (hf : fits f.payload.length = true) :
    s.request kind f true early fits body = (body s.endRead f.payload).post kind f.tag := by
  have h1 : s.endRead.link.queue = s.link.queue := rfl
  have h2 : s.endRead.ready = s.ready := rfl
  have h3 : ¬Config.queueLength ≤ s.link.queue.length := by simp only [Config.queueLength]; omega
  rcases hr with hr | hr <;> simp [State.request, hc, h1, h2, h3, hl, hr, hf]

/-- The same for a frame whose length field agrees with its payload, while requests are accepted. -/
theorem request_accepting {s : State} {kind tag : Byte} {p : List Byte} {early : Bool} {fits : Nat → Bool}
    {body : State → List Byte → Answer} (h : s.accepting) (hp : p.length ≤ 250) (hf : fits p.length = true) :
    s.request kind (requestFrame tag p) true early fits body = (body s.endRead p).post kind tag := by
  rw [request_runs h.2 (complete_requestFrame tag p) (frameLengthOk_requestFrame tag p hp) (.inl h.ready)]
  · rfl
  · exact hf

/-- A body's answer in the terms of the statements: one reply at the queue's young end. -/
theorem Answer.post_eq_replied (a : Answer) (kind tag : Byte) (h : a.state.link.reading = none) (hs : a.state.pins.sent = []) :
    a.post kind tag = a.state.replied (kind ||| 0x80) tag a.status.code a.payload := by
  simp only [Answer.post, State.replied, State.withLink, replyRecord]
  rw [← h, ← hs]

@[simp] theorem replied_endRead (s : State) (kind tag status : Byte) (payload : List Byte) :
    s.endRead.replied kind tag status payload = s.replied kind tag status payload := rfl

@[simp] theorem endRead_link_reading (s : State) : s.endRead.link.reading = none := rfl

/-- A refusal changes nothing but the queue (R179). -/
theorem refuse_post (s : State) (status : Status) (kind tag : Byte) :
    (s.endRead.refuse status).post kind tag = s.replied (kind ||| 0x80) tag status.code [] :=
  Answer.post_eq_replied _ _ _ rfl rfl

/-- Check 1 (R178). -/
theorem request_bad_length {s : State} (hq : s.link.queue.length < 24) {f : Frame} (hc : f.complete = true)
    (hl : frameLengthOk f = false) (kind : Byte)
    (known early : Bool) (fits : Nat → Bool) (body : State → List Byte → Answer) :
    s.request kind f known early fits body = s.replied (kind ||| 0x80) f.tag 2 [] := by
  have h1 : s.endRead.link.queue = s.link.queue := rfl
  have h3 : ¬Config.queueLength ≤ s.link.queue.length := by simp only [Config.queueLength]; omega
  simp only [State.request, hc, Bool.not_true, Bool.false_or, decide_eq_true_iff, h1, h3, hl, if_false, Bool.not_false, if_true]
  exact refuse_post s .badLength kind f.tag

/-- Check 3 (R178). -/
theorem request_not_ready {s : State} (hq : s.link.queue.length < 24) {f : Frame} (hc : f.complete = true)
    (hl : frameLengthOk f = true)
    (hr : s.ready = false) (kind : Byte) (fits : Nat → Bool) (body : State → List Byte → Answer) :
    s.request kind f true false fits body = s.replied (kind ||| 0x80) f.tag 5 [] := by
  have h1 : s.endRead.link.queue = s.link.queue := rfl
  have h2 : s.endRead.ready = false := hr
  have h3 : ¬Config.queueLength ≤ s.link.queue.length := by simp only [Config.queueLength]; omega
  simp only [State.request, hc, Bool.not_true, Bool.false_or, decide_eq_true_iff, h1, h2, h3, hl, if_false, Bool.not_false, Bool.not_true, if_true, Bool.and_self, Bool.false_eq_true]
  exact refuse_post s .notReady kind f.tag

/-- Check 4 (R178). -/
theorem request_unfit {s : State} (hq : s.link.queue.length < 24) {f : Frame} (hc : f.complete = true)
    (hl : frameLengthOk f = true) {early : Bool}
    (hr : s.ready = true ∨ early = true) {fits : Nat → Bool} (hf : fits f.payload.length = false) (kind : Byte)
    (body : State → List Byte → Answer) :
    s.request kind f true early fits body = s.replied (kind ||| 0x80) f.tag 2 [] := by
  have h1 : s.endRead.link.queue = s.link.queue := rfl
  have h2 : s.endRead.ready = s.ready := rfl
  have h3 : ¬Config.queueLength ≤ s.link.queue.length := by simp only [Config.queueLength]; omega
  have h4 : (!s.ready && !early) = false := by rcases hr with hr | hr <;> simp [hr]
  simp only [State.request, hc, Bool.not_true, Bool.false_or, decide_eq_true_iff, h1, h2, h3, hl, h4, hf, if_false, Bool.not_false, Bool.not_true, if_true, Bool.false_eq_true]
  exact refuse_post s .badLength kind f.tag

/-! ## Posting a report -/

theorem post_disabled {l : Link} {k : ReportKind} (h : l.enabled k = false) (sub : Byte) (payload : List Byte) :
    l.post k sub payload = l := by
  simp [Link.post, h]

/-- A report of a kind that is not coalesced (R183): with 21 records or fewer it joins the queue, else it is lost. -/
theorem post_queued {l : Link} {k : ReportKind} (h : l.enabled k = true) (hk : k.slot = none) (sub : Byte) (payload : List Byte) :
    l.post k sub payload = if l.queue.length < 22 then
      { l with queue := l.queue ++ [{ kind := k.code, tag := 0, status := sub, payload := payload }] }
    else { l with lost := true } := by
  simp only [Link.post, h, hk, Bool.not_true, Bool.false_eq_true, if_false]
  rfl

/-- Everything that posting a report can change: the queue grows by at most the one report and only below 22 records, the slots
change for a coalesced kind alone, and the reports-lost flag is only ever set. -/
theorem post_cases (l : Link) (k : ReportKind) (sub : Byte) (payload : List Byte) :
    l.post k sub payload = l ∨
    (k.slot = none ∧ l.queue.length < 22 ∧ l.post k sub payload =
      { l with queue := l.queue ++ [{ kind := k.code, tag := 0, status := sub, payload := payload }] }) ∨
    (k.slot = none ∧ l.post k sub payload = { l with lost := true }) ∨
    ∃ slot, k.slot = some slot ∧
      l.post k sub payload = l.place slot { kind := k.code, tag := 0, status := sub, payload := payload } := by
  by_cases h : l.enabled k
  · cases hk : k.slot with
    | none =>
      rw [post_queued h hk]
      by_cases hq : l.queue.length < 22
      · exact .inr (.inl ⟨rfl, hq, by simp [hq]⟩)
      · exact .inr (.inr (.inl ⟨rfl, by simp [hq]⟩))
    | some slot => exact .inr (.inr (.inr ⟨slot, rfl, by simp [Link.post, h, hk]⟩))
  · exact .inl (post_disabled (by simpa using h) _ _)

theorem place_queue (l : Link) (slot : Slot) (r : OutRecord) : (l.place slot r).queue = l.queue := by
  cases slot <;> rfl

theorem place_mask (l : Link) (slot : Slot) (r : OutRecord) : (l.place slot r).mask = l.mask := by
  cases slot <;> rfl

theorem post_mask (l : Link) (k : ReportKind) (sub : Byte) (payload : List Byte) : (l.post k sub payload).mask = l.mask := by
  rcases post_cases l k sub payload with h | ⟨-, -, h⟩ | ⟨-, h⟩ | ⟨slot, -, h⟩ <;> rw [h]
  exact place_mask l slot _

theorem post_reading_none (l : Link) (k : ReportKind) (sub : Byte) (payload : List Byte) (h : l.reading = none) :
    (l.post k sub payload).reading = none := by
  rcases post_cases l k sub payload with e | ⟨-, -, e⟩ | ⟨-, e⟩ | ⟨slot, -, e⟩ <;> rw [e]
  · exact h
  · exact h
  · exact h
  · cases slot <;> simp [Link.place, h]

/-- The reply of a request that posted a report is the same whether or not a read was in progress before. -/
theorem replied_post_of_link (s t : State)
    (h : s = { t with pins := { t.pins with sent := [] }, link := { t.link with reading := none } }) (k : ReportKind)
    (sub : Byte) (payload : List Byte) (kind tag status : Byte) (p : List Byte) :
    (s.post k sub payload).replied kind tag status p = (t.post k sub payload).replied kind tag status p := by
  subst h
  simp only [State.post, State.replied, State.withLink, Link.post, Link.enabled]
  by_cases he : t.link.mask.getLsbD k.bit
  · simp only [he, Bool.not_true, Bool.false_eq_true, if_false]
    cases k <;> simp only [ReportKind.slot, Link.place] <;> split <;> rfl
  · simp only [he, Bool.not_false, if_true]

end Sys2Proof.Machine
end

