-- ==== Sys2Proof/Laws/Commands.lean ====
section
/-! SUPPORT. What each command's meaning is while RESETn is high, one equation per command: the lemma to rewrite with in place of
unfolding exec. A request's equation names its kind, its payload lengths and its body. -/

namespace Sys2Proof.Machine

theorem exec_resetnAssert {s : State} (h : s.powered) :
    exec .resetnAssert s = .next s.assertReset := by
  change execResetnAssert s = _
  unfold execResetnAssert
  exact whilePowered_powered h _

theorem exec_audioFrame {s : State} (h : s.powered) (inputs : FrameInputs) :
    exec (.audioFrame inputs) s = .next (s.takeFrame inputs) := by
  change execAudioFrame inputs s = _
  unfold execAudioFrame
  exact whilePowered_powered h _

theorem exec_readBurstComplete {s : State} (h : s.powered) :
    exec .readBurstComplete s = .next (match s.delay.burst with
      | some (.read _ _) => (s.withDelay s.delay.completeRead).arbitrate
      | _ => s) := by
  change execReadBurstComplete s = _
  unfold execReadBurstComplete
  exact whilePowered_powered h _

theorem exec_writeBurstComplete {s : State} (h : s.powered) :
    exec .writeBurstComplete s = .next (match s.delay.burst with
      | some (.write _ _ _) => (s.withDelay s.delay.completeWrite).arbitrate
      | _ => s) := by
  change execWriteBurstComplete s = _
  unfold execWriteBurstComplete
  exact whilePowered_powered h _

theorem exec_tunerRunComplete {s : State} (h : s.powered) :
    exec .tunerRunComplete s = .next s.takeTunerRun := by
  change execTunerRunComplete s = _
  unfold execTunerRunComplete
  exact whilePowered_powered h _

theorem exec_tunerLossExpiry {s : State} (h : s.powered) :
    exec .tunerLossExpiry s = .next s.takeTunerLoss := by
  change execTunerLossExpiry s = _
  unfold execTunerLossExpiry
  exact whilePowered_powered h _

theorem exec_beatEvent {s : State} (h : s.powered) :
    exec .beatEvent s = .next s.takeBeat := by
  change execBeatEvent s = _
  unfold execBeatEvent
  exact whilePowered_powered h _

theorem exec_clockLossExpiry {s : State} (h : s.powered) :
    exec .clockLossExpiry s = .next s.takeClockLoss := by
  change execClockLossExpiry s = _
  unfold execClockLossExpiry
  exact whilePowered_powered h _

theorem exec_blockBoundary {s : State} (h : s.powered) :
    exec .blockBoundary s = .next s.takeBoundary := by
  change execBlockBoundary s = _
  unfold execBlockBoundary
  exact whilePowered_powered h _

theorem exec_gateHoldEnd {s : State} (h : s.powered) (incoming : Bool) (stage : Fin 12) :
    exec (.gateHoldEnd incoming stage) s = .next (s.takeGateHoldEnd incoming stage.val) := by
  change execGateHoldEnd incoming stage s = _
  unfold execGateHoldEnd
  exact whilePowered_powered h _

theorem exec_trailOwnEnd {s : State} (h : s.powered) (line : Fin 4) :
    exec (.trailOwnEnd line) s = .next (s.takeTrailOwnEnd line).arbitrate := by
  change execTrailOwnEnd line s = _
  unfold execTrailOwnEnd
  exact whilePowered_powered h _

theorem exec_trailFadeEnd {s : State} (h : s.powered) (line : Fin 4) :
    exec (.trailFadeEnd line) s = .next (s.takeTrailFadeEnd line).arbitrate := by
  change execTrailFadeEnd line s = _
  unfold execTrailFadeEnd
  exact whilePowered_powered h _

theorem exec_loadRead {s : State} (h : s.powered) :
    exec .loadRead s = .next s.takeLoadRead := by
  change execLoadRead s = _
  unfold execLoadRead
  exact whilePowered_powered h _

theorem exec_loadComplete {s : State} (h : s.powered) :
    exec .loadComplete s = .next s.takeLoadComplete := by
  change execLoadComplete s = _
  unfold execLoadComplete
  exact whilePowered_powered h _

theorem exec_switchPoint {s : State} (h : s.powered) :
    exec .switchPoint s = .next (if s.switchDue then s.takeSwitchPoint.arbitrate else s) := by
  change execSwitchPoint s = _
  unfold execSwitchPoint
  exact whilePowered_powered h _

theorem exec_dipIn {s : State} (h : s.powered) :
    exec .dipIn s = .next (if s.chain.mixer.outDone then s.takeDipIn.arbitrate else s) := by
  change execDipIn s = _
  unfold execDipIn
  exact whilePowered_powered h _

theorem exec_switchEnd {s : State} (h : s.powered) :
    exec .switchEnd s = .next (if s.switchEndDue then s.takeSwitchEnd.arbitrate else s) := by
  change execSwitchEnd s = _
  unfold execSwitchEnd
  exact whilePowered_powered h _

theorem exec_eraseComplete {s : State} (h : s.powered) :
    exec .eraseComplete s = .next s.takeEraseComplete := by
  change execEraseComplete s = _
  unfold execEraseComplete
  exact whilePowered_powered h _

theorem exec_writeComplete {s : State} (h : s.powered) (verified : Bool) :
    exec (.writeComplete verified) s = .next (s.takeWriteComplete verified) := by
  change execWriteComplete verified s = _
  unfold execWriteComplete
  exact whilePowered_powered h _

theorem exec_switchDebounce {s : State} (h : s.powered) (switch : Fin 8) :
    exec (.switchDebounce switch) s =
      .next (if s.cues.switches[switch].debounceDue then (s.settleSwitches switch.val).debounce switch else s) := by
  change execSwitchDebounce switch s = _
  unfold execSwitchDebounce
  exact whilePowered_powered h _

theorem exec_switchHold {s : State} (h : s.powered) (switch : Fin 8) :
    exec (.switchHold switch) s =
      .next (if s.cues.switches[switch].holdDue then (s.settleSwitches switch.val).holdCue switch else s) := by
  change execSwitchHold switch s = _
  unfold execSwitchHold
  exact whilePowered_powered h _

theorem exec_pedalScan {s : State} (h : s.powered) :
    exec .pedalScan s = .next s.takePedalScan := by
  change execPedalScan s = _
  unfold execPedalScan
  exact whilePowered_powered h _

theorem exec_pedalUnplug {s : State} (h : s.powered) (pedal : Fin 4) :
    exec (.pedalUnplug pedal) s = .next (s.takeUnplug pedal) := by
  change execPedalUnplug pedal s = _
  unfold execPedalUnplug
  exact whilePowered_powered h _

theorem exec_pedalPlug {s : State} (h : s.powered) (pedal : Fin 4) :
    exec (.pedalPlug pedal) s = .next (s.takePlug pedal) := by
  change execPedalPlug pedal s = _
  unfold execPedalPlug
  exact whilePowered_powered h _

theorem exec_controlFrame {s : State} (h : s.powered) (byte : Byte) :
    exec (.controlFrame byte) s = .next (s.receiveByte byte false) := by
  change execControlFrame byte s = _
  unfold execControlFrame
  exact whilePowered_powered h _

theorem exec_controlDiscard {s : State} (h : s.powered) (byte : Byte) (framingError : Bool) :
    exec (.controlDiscard byte framingError) s = .next (s.receiveByte byte framingError) := by
  change execControlDiscard byte framingError s = _
  unfold execControlDiscard
  exact whilePowered_powered h _

theorem exec_cueTaken {s : State} (h : s.powered) :
    exec .cueTaken s = .next s.takeCue := by
  change execCueTaken s = _
  unfold execCueTaken
  exact whilePowered_powered h _

theorem exec_clockLock {s : State} (h : s.powered) :
    exec .clockLock s = .next s.takeClockLock := by
  change execClockLock s = _
  unfold execClockLock
  exact whilePowered_powered h _

theorem exec_clockUpdate {s : State} (h : s.powered) :
    exec .clockUpdate s = .next s.takeClockUpdate := by
  change execClockUpdate s = _
  unfold execClockUpdate
  exact whilePowered_powered h _

theorem exec_readRecord {s : State} (h : s.powered) (event : ReadEvent) :
    exec (.readRecord event) s = .next (s.readRecord event) := by
  change execReadRecord event s = _
  unfold execReadRecord
  exact whilePowered_powered h _

/-- An IGNORED_TRANSACTION by what its bytes select. -/
theorem exec_ignoredTransaction {s : State} (h : s.powered) (bytes : List Byte) :
    exec (.ignoredTransaction bytes) s = match transactionOf bytes with
      | .request kind frame => exec (.unknownRequest kind frame) s
      | .incomplete => .next s.dropFrame
      | .read clocked => .next (s.readRecord (.whole clocked))
      | .ignored => .next s.endRead := by
  change execIgnoredTransaction bytes s = _
  unfold execIgnoredTransaction
  cases transactionOf bytes with
  | request kind frame => rfl
  | incomplete => exact whilePowered_powered h _
  | read clocked => exact whilePowered_powered h _
  | ignored => exact whilePowered_powered h _

theorem exec_incompleteFrame {s : State} (h : s.powered) (headerBytes : Fin 4) :
    exec (.incompleteFrame headerBytes) s = .next s.dropFrame := by
  change execIncompleteFrame headerBytes s = _
  unfold execIncompleteFrame
  exact whilePowered_powered h _

theorem exec_ident {s : State} (h : s.powered) (frame : Frame) :
    exec (.ident frame) s = .next (s.request 0x01 frame true true (· == 0) identBody) := by
  change execIdent frame s = _
  unfold execIdent
  exact whilePowered_powered h _

theorem exec_status {s : State} (h : s.powered) (frame : Frame) :
    exec (.status frame) s = .next (s.request 0x02 frame true true (· == 1) statusBody) := by
  change execStatus frame s = _
  unfold execStatus
  exact whilePowered_powered h _

theorem exec_recallScene {s : State} (h : s.powered) (frame : Frame) :
    exec (.recallScene frame) s = .next (s.request 0x03 frame true false (· == 4) recallBody) := by
  change execRecall frame s = _
  unfold execRecall
  exact whilePowered_powered h _

theorem exec_cancel {s : State} (h : s.powered) (frame : Frame) :
    exec (.cancel frame) s = .next (s.request 0x04 frame true false (· == 0) cancelBody) := by
  change execCancel frame s = _
  unfold execCancel
  exact whilePowered_powered h _

theorem exec_edit {s : State} (h : s.powered) (frame : Frame) :
    exec (.edit frame) s = .next (s.request 0x05 frame true false (· == 6) editBody) := by
  change execEdit frame s = _
  unfold execEdit
  exact whilePowered_powered h _

theorem exec_getParam {s : State} (h : s.powered) (frame : Frame) :
    exec (.getParam frame) s = .next (s.request 0x06 frame true false (· == 2) getParamBody) := by
  change execGetParam frame s = _
  unfold execGetParam
  exact whilePowered_powered h _

theorem exec_setLatch {s : State} (h : s.powered) (frame : Frame) :
    exec (.setLatch frame) s = .next (s.request 0x07 frame true false (· == 2) setLatchBody) := by
  change execSetLatch frame s = _
  unfold execSetLatch
  exact whilePowered_powered h _

theorem exec_getLatches {s : State} (h : s.powered) (frame : Frame) :
    exec (.getLatches frame) s = .next (s.request 0x08 frame true false (· == 0) getLatchesBody) := by
  change execGetLatches frame s = _
  unfold execGetLatches
  exact whilePowered_powered h _

theorem exec_sendCue {s : State} (h : s.powered) (frame : Frame) :
    exec (.sendCue frame) s = .next (s.request 0x09 frame true false (· == 4) sendCueBody) := by
  change execSendCue frame s = _
  unfold execSendCue
  exact whilePowered_powered h _

theorem exec_setFilter {s : State} (h : s.powered) (frame : Frame) :
    exec (.setFilter frame) s = .next (s.request 0x0A frame true false (· == 8) setFilterBody) := by
  change execSetFilter frame s = _
  unfold execSetFilter
  exact whilePowered_powered h _

theorem exec_setMask {s : State} (h : s.powered) (frame : Frame) :
    exec (.setMask frame) s = .next (s.request 0x0B frame true false (· == 3) setMaskBody) := by
  change execSetMask frame s = _
  unfold execSetMask
  exact whilePowered_powered h _

theorem exec_readCues {s : State} (h : s.powered) (frame : Frame) :
    exec (.readCues frame) s = .next (s.request 0x0C frame true false (· == 2) readCuesBody) := by
  change execReadCues frame s = _
  unfold execReadCues
  exact whilePowered_powered h _

theorem exec_uploadOpen {s : State} (h : s.powered) (frame : Frame) :
    exec (.uploadOpen frame) s = .next (s.request 0x0D frame true false (· == 0) uploadOpenBody) := by
  change execUploadOpen frame s = _
  unfold execUploadOpen
  exact whilePowered_powered h _

theorem exec_uploadData {s : State} (h : s.powered) (frame : Frame) :
    exec (.uploadData frame) s = .next (s.request 0x0E frame true false (fun n => decide (n ≤ Config.maxPayload)) uploadDataBody) := by
  change execUploadData frame s = _
  unfold execUploadData
  exact whilePowered_powered h _

theorem exec_uploadCheck {s : State} (h : s.powered) (frame : Frame) :
    exec (.uploadCheck frame) s = .next (s.request 0x0F frame true false (· == 0) uploadCheckBody) := by
  change execUploadCheck frame s = _
  unfold execUploadCheck
  exact whilePowered_powered h _

theorem exec_store {s : State} (h : s.powered) (frame : Frame) :
    exec (.store frame) s = .next (s.request 0x10 frame true false (· == 2) storeBody) := by
  change execStore frame s = _
  unfold execStore
  exact whilePowered_powered h _

theorem exec_erase {s : State} (h : s.powered) (frame : Frame) :
    exec (.erase frame) s = .next (s.request 0x11 frame true false (· == 1) eraseBody) := by
  change execErase frame s = _
  unfold execErase
  exact whilePowered_powered h _

theorem exec_readSlot {s : State} (h : s.powered) (frame : Frame) :
    exec (.readSlot frame) s = .next (s.request 0x12 frame true false (· == 4) readSlotBody) := by
  change execReadSlot frame s = _
  unfold execReadSlot
  exact whilePowered_powered h _

theorem exec_list {s : State} (h : s.powered) (frame : Frame) :
    exec (.list frame) s = .next (s.request 0x13 frame true false (· == 1) listBody) := by
  change execList frame s = _
  unfold execList
  exact whilePowered_powered h _

theorem exec_tableWrite {s : State} (h : s.powered) (frame : Frame) :
    exec (.tableWrite frame) s = .next (s.request 0x14 frame true false tableWriteFits tableWriteBody) := by
  change execTableWrite frame s = _
  unfold execTableWrite
  exact whilePowered_powered h _

theorem exec_tableRead {s : State} (h : s.powered) (frame : Frame) :
    exec (.tableRead frame) s = .next (s.request 0x15 frame true false (· == 4) tableReadBody) := by
  change execTableRead frame s = _
  unfold execTableRead
  exact whilePowered_powered h _

theorem exec_tableSave {s : State} (h : s.powered) (frame : Frame) :
    exec (.tableSave frame) s = .next (s.request 0x16 frame true false (· == 1) tableSaveBody) := by
  change execTableSave frame s = _
  unfold execTableSave
  exact whilePowered_powered h _

theorem exec_tunerSet {s : State} (h : s.powered) (frame : Frame) :
    exec (.tunerSet frame) s = .next (s.request 0x17 frame true false (· == 11) tunerSetBody) := by
  change execTunerSet frame s = _
  unfold execTunerSet
  exact whilePowered_powered h _

theorem exec_tunerRead {s : State} (h : s.powered) (frame : Frame) :
    exec (.tunerRead frame) s = .next (s.request 0x18 frame true false (· == 0) tunerReadBody) := by
  change execTunerRead frame s = _
  unfold execTunerRead
  exact whilePowered_powered h _

theorem exec_tempoSet {s : State} (h : s.powered) (frame : Frame) :
    exec (.tempoSet frame) s = .next (s.request 0x19 frame true false (· == 4) tempoSetBody) := by
  change execTempoSet frame s = _
  unfold execTempoSet
  exact whilePowered_powered h _

theorem exec_tempoRead {s : State} (h : s.powered) (frame : Frame) :
    exec (.tempoRead frame) s = .next (s.request 0x1A frame true false (· == 0) tempoReadBody) := by
  change execTempoRead frame s = _
  unfold execTempoRead
  exact whilePowered_powered h _

theorem exec_pedalSet {s : State} (h : s.powered) (frame : Frame) :
    exec (.pedalSet frame) s = .next (s.request 0x1B frame true false (· == 8) pedalSetBody) := by
  change execPedalSet frame s = _
  unfold execPedalSet
  exact whilePowered_powered h _

theorem exec_pedalRead {s : State} (h : s.powered) (frame : Frame) :
    exec (.pedalRead frame) s = .next (s.request 0x1C frame true false (· == 0) pedalReadBody) := by
  change execPedalRead frame s = _
  unfold execPedalRead
  exact whilePowered_powered h _

theorem exec_switchSet {s : State} (h : s.powered) (frame : Frame) :
    exec (.switchSet frame) s = .next (s.request 0x1D frame true false (· == 3) switchSetBody) := by
  change execSwitchSet frame s = _
  unfold execSwitchSet
  exact whilePowered_powered h _

theorem exec_setupSave {s : State} (h : s.powered) (frame : Frame) :
    exec (.setupSave frame) s = .next (s.request 0x1E frame true false (· == 1) setupSaveBody) := by
  change execSetupSave frame s = _
  unfold execSetupSave
  exact whilePowered_powered h _

theorem exec_reports {s : State} (h : s.powered) (frame : Frame) :
    exec (.reports frame) s = .next (s.request 0x1F frame true false (· == 2) reportsBody) := by
  change execReports frame s = _
  unfold execReports
  exact whilePowered_powered h _

theorem exec_reset {s : State} (h : s.powered) (frame : Frame) :
    exec (.reset frame) s = .next (s.request 0x20 frame true false (· == 0) resetBody) := by
  change execReset frame s = _
  unfold execReset
  exact whilePowered_powered h _

theorem exec_controlFrameByte {s : State} (h : s.powered) (byte : Byte) :
    exec (.controlFrameByte byte) s = .next (s.receiveByte byte false) := by
  change execControlFrameByte byte s = _
  unfold execControlFrameByte
  exact whilePowered_powered h _

end Sys2Proof.Machine
end

