-- ==== Sys2Proof/Laws/Memory.lean ====
section
/-! SUPPORT. The delay memory's one canonical form: every operation that writes it keeps the form, and State.reset's memory has it. -/

namespace Sys2Proof.Machine

/-- The canonical form, one cell at a time: the first byte is not 0, its address lies below every other, and the rest is in form. -/
theorem Memory.wf_cons (k : Nat) (b : Byte) (m : List Host.Cell) :
    Memory.wf ((k, b) :: m) = true ↔ b ≠ 0 ∧ (∀ e ∈ m, k < e.1) ∧ Memory.wf m = true := by
  induction m generalizing k b with
  | nil => simp [Memory.wf]
  | cons e m ih =>
    obtain ⟨k', b'⟩ := e
    have h : Memory.wf ((k, b) :: (k', b') :: m) = true ↔ b ≠ 0 ∧ k < k' ∧ Memory.wf ((k', b') :: m) = true := by
      simp [Memory.wf, and_assoc]
    rw [h]
    constructor
    · rintro ⟨hb, hk, hm⟩
      refine ⟨hb, ?_, hm⟩
      intro e he
      rcases List.mem_cons.mp he with rfl | he
      · exact hk
      · exact hk.trans (((ih k' b').mp hm).2.1 e he)
    · rintro ⟨hb, hk, hm⟩
      exact ⟨hb, hk _ (List.mem_cons_self ..), hm⟩

/-- A cell of the memory after a write is a cell from before or at the address written. -/
theorem Memory.mem_write {m : List Host.Cell} {a : Nat} {v : Byte} {e : Host.Cell} (h : e ∈ Memory.write m a v) :
    e.1 = a ∨ e ∈ m := by
  induction m with
  | nil =>
    simp only [Memory.write] at h
    split at h <;> simp_all
  | cons c m ih =>
    obtain ⟨k, b⟩ := c
    simp only [Memory.write] at h
    split at h
    · rcases List.mem_cons.mp h with rfl | h
      · exact .inr (List.mem_cons_self ..)
      · exact (ih h).imp id (List.mem_cons_of_mem _)
    all_goals
      split at h
      all_goals (try split at h)
      all_goals simp only [List.mem_cons] at h ⊢
      all_goals first
        | exact .inr h
        | exact .inr (.inr h)
        | (rcases h with rfl | h
           · exact .inl rfl
           · first | exact .inr h | exact .inr (.inr h))

/-- A write keeps the canonical form. -/
theorem Memory.write_wf {m : List Host.Cell} (a : Nat) (v : Byte) (h : Memory.wf m = true) :
    Memory.wf (Memory.write m a v) = true := by
  induction m with
  | nil =>
    simp only [Memory.write]
    split
    · rfl
    · simpa [Memory.wf]
  | cons c m ih =>
    obtain ⟨k, b⟩ := c
    obtain ⟨hb, hk, hm⟩ := (Memory.wf_cons k b m).mp h
    simp only [Memory.write]
    split
    · refine (Memory.wf_cons ..).mpr ⟨hb, ?_, ih hm⟩
      intro e he
      rcases Memory.mem_write he with h | h
      · omega
      · exact hk e h
    · split
      · split
        · exact hm
        · subst_vars
          exact (Memory.wf_cons ..).mpr ⟨by assumption, hk, hm⟩
      · split
        · exact h
        · refine (Memory.wf_cons ..).mpr ⟨by assumption, ?_, h⟩
          intro e he
          rcases List.mem_cons.mp he with rfl | he
          · simp only; omega
          · have := hk e he
            omega

theorem Memory.writeBytes_wf {m : List Host.Cell} (a : Nat) (bs : List Byte) (h : Memory.wf m = true) :
    Memory.wf (Memory.writeBytes m a bs) = true := by
  induction bs generalizing m a with
  | nil => exact h
  | cons b bs ih => exact ih _ (Memory.write_wf a b h)

theorem Memory.writeSample_wf {m : List Host.Cell} (l : Fin 4) (p : Nat) (v : Int) (h : Memory.wf m = true) :
    Memory.wf (Memory.writeSample m l p v) = true :=
  Memory.writeBytes_wf _ _ h

theorem Memory.writeEntries_wf {m : List Host.Cell} (l : Fin 4) (es : List (Nat × Int)) (h : Memory.wf m = true) :
    Memory.wf (Memory.writeEntries m l es) = true := by
  induction es generalizing m with
  | nil => exact h
  | cons e es ih => exact ih (Memory.writeSample_wf l e.1 e.2 h)

/-- The completion of a write burst keeps the canonical form. -/
theorem DelayMemory.completeWrite_wf {d : DelayMemory} (h : Memory.wf d.mem = true) : Memory.wf d.completeWrite.mem = true := by
  unfold DelayMemory.completeWrite
  split
  · exact Memory.writeEntries_wf _ _ h
  · exact h

/-- The completion of a read burst leaves the memory alone. -/
theorem DelayMemory.completeRead_mem (d : DelayMemory) : d.completeRead.mem = d.mem := by
  unfold DelayMemory.completeRead
  split <;> rfl

/-- The probe's patterns keep the canonical form (R58). -/
theorem Memory.probe_wf {m : List Host.Cell} (readBack : BitVec 8) (h : Memory.wf m = true) :
    Memory.wf (Memory.probe m readBack) = true := by
  unfold Memory.probe
  generalize List.range 8 = js
  induction js generalizing m with
  | nil => exact h
  | cons j js ih =>
    simp only [List.foldl_cons]
    split
    · exact ih (Memory.writeSample_wf _ _ _ h)
    · exact ih h

/-- The delay memory of State.reset lists nothing, and nothing is in the canonical form. -/
theorem reset_mem_wf : Memory.wf State.reset.delay.mem = true := rfl

/-! ## The operations of the line table and the port leave the memory alone -/

@[simp] theorem DelayMemory.setLine_mem (d : DelayMemory) (l : Fin 4) (v : Line) : (d.setLine l v).mem = d.mem := rfl
@[simp] theorem DelayMemory.setLine_present (d : DelayMemory) (l : Fin 4) (v : Line) : (d.setLine l v).present = d.present := rfl
@[simp] theorem DelayMemory.hold_mem (d : DelayMemory) (l : Fin 4) (h : Holder) : (d.hold l h).mem = d.mem := rfl
@[simp] theorem DelayMemory.release_mem (d : DelayMemory) (l : Fin 4) : (d.release l).mem = d.mem := rfl
@[simp] theorem DelayMemory.readLine_mem (d : DelayMemory) (l : Fin 4) (age prev : Int) : (d.readLine l age prev).2.mem = d.mem := rfl
@[simp] theorem DelayMemory.writeLine_mem (d : DelayMemory) (l : Fin 4) (v : Int) : (d.writeLine l v).mem = d.mem := rfl
@[simp] theorem DelayMemory.refetch_mem (d : DelayMemory) (l : Fin 4) : (d.refetch l).mem = d.mem := rfl
@[simp] theorem DelayMemory.promote_mem (d : DelayMemory) : d.promote.mem = d.mem := rfl
@[simp] theorem DelayMemory.clearCounts_mem (d : DelayMemory) : d.clearCounts.mem = d.mem := rfl

theorem DelayMemory.allocate_mem (d : DelayMemory) (n : Nat) : (d.allocate n).2.mem = d.mem := by
  unfold DelayMemory.allocate
  split <;> rfl

@[simp] theorem DelayMemory.arbitrate_mem (d : DelayMemory) (readers : Vector Reader 4) : (d.arbitrate readers).mem = d.mem := by
  unfold DelayMemory.arbitrate
  split <;> rfl

end Sys2Proof.Machine
end

