-- ==== Sys2Proof/Laws/Frames.lean ====
section
/-! SUPPORT. The frame of each shared operation over State: one lemma per operation, naming every block of State that it leaves
as it was. -/

namespace Sys2Proof.Machine

theorem State.arbitrate_keeps (s : State) :
    s.arbitrate.sampleCounter = s.sampleCounter ∧ s.arbitrate.startUp = s.startUp ∧ s.arbitrate.pins = s.pins ∧
    s.arbitrate.chain = s.chain ∧ s.arbitrate.latches = s.latches ∧ s.arbitrate.scenes = s.scenes ∧ s.arbitrate.store =
    s.store ∧ s.arbitrate.upload = s.upload ∧ s.arbitrate.cues = s.cues ∧ s.arbitrate.tempo = s.tempo ∧ s.arbitrate.tuner =
    s.tuner ∧ s.arbitrate.link = s.link ∧ s.arbitrate.pending = s.pending := by
  simp [State.arbitrate]

theorem State.levels_keeps (s : State) :
    s.levels.sampleCounter = s.sampleCounter ∧ s.levels.startUp = s.startUp ∧ s.levels.pins = s.pins ∧ s.levels.latches =
    s.latches ∧ s.levels.delay = s.delay ∧ s.levels.scenes = s.scenes ∧ s.levels.store = s.store ∧ s.levels.upload =
    s.upload ∧ s.levels.cues = s.cues ∧ s.levels.tempo = s.tempo ∧ s.levels.tuner = s.tuner ∧ s.levels.pending = s.pending := by
  unfold State.levels
  dsimp only
  split <;> simp [State.post]

theorem State.closeBlock_keeps (s : State) :
    s.closeBlock.sampleCounter = s.sampleCounter ∧ s.closeBlock.startUp = s.startUp ∧ s.closeBlock.pins = s.pins ∧
    s.closeBlock.latches = s.latches ∧ s.closeBlock.delay = s.delay ∧ s.closeBlock.store = s.store ∧ s.closeBlock.upload =
    s.upload ∧ s.closeBlock.cues = s.cues ∧ s.closeBlock.tempo = s.tempo ∧ s.closeBlock.tuner = s.tuner ∧
    s.closeBlock.pending = s.pending := by
  unfold State.closeBlock
  split
  · simp
  · simp [State.levels_keeps]

theorem State.takeDipIn_keeps (s : State) :
    s.takeDipIn.sampleCounter = s.sampleCounter ∧ s.takeDipIn.startUp = s.startUp ∧ s.takeDipIn.pins = s.pins ∧
    s.takeDipIn.latches = s.latches ∧ s.takeDipIn.delay = s.delay ∧ s.takeDipIn.scenes = s.scenes ∧ s.takeDipIn.store =
    s.store ∧ s.takeDipIn.upload = s.upload ∧ s.takeDipIn.cues = s.cues ∧ s.takeDipIn.tempo = s.tempo ∧ s.takeDipIn.tuner =
    s.tuner ∧ s.takeDipIn.link = s.link ∧ s.takeDipIn.pending = s.pending := by
  unfold State.takeDipIn
  split <;> simp

theorem State.openBlock_keeps (s : State) :
    s.openBlock.sampleCounter = s.sampleCounter ∧ s.openBlock.startUp = s.startUp ∧ s.openBlock.pins = s.pins ∧
    s.openBlock.latches = s.latches ∧ s.openBlock.store = s.store ∧ s.openBlock.upload = s.upload ∧ s.openBlock.cues =
    s.cues ∧ s.openBlock.tempo = s.tempo ∧ s.openBlock.tuner = s.tuner ∧ s.openBlock.link = s.link ∧ s.openBlock.pending =
    s.pending := by
  simp [State.openBlock]

theorem State.cutOldest_keeps (s : State) (as : TrailState) :
    (s.cutOldest as).sampleCounter = s.sampleCounter ∧ (s.cutOldest as).startUp = s.startUp ∧ (s.cutOldest as).pins = s.pins
    ∧ (s.cutOldest as).chain = s.chain ∧ (s.cutOldest as).latches = s.latches ∧ (s.cutOldest as).store = s.store ∧
    (s.cutOldest as).upload = s.upload ∧ (s.cutOldest as).cues = s.cues ∧ (s.cutOldest as).tempo = s.tempo ∧ (s.cutOldest
    as).tuner = s.tuner ∧ (s.cutOldest as).link = s.link ∧ (s.cutOldest as).pending = s.pending := by
  unfold State.cutOldest
  split <;> simp

theorem State.takeTrailOwnEnd_keeps (s : State) (l : Fin 4) :
    (s.takeTrailOwnEnd l).sampleCounter = s.sampleCounter ∧ (s.takeTrailOwnEnd l).startUp = s.startUp ∧ (s.takeTrailOwnEnd
    l).pins = s.pins ∧ (s.takeTrailOwnEnd l).chain = s.chain ∧ (s.takeTrailOwnEnd l).latches = s.latches ∧
    (s.takeTrailOwnEnd l).store = s.store ∧ (s.takeTrailOwnEnd l).upload = s.upload ∧ (s.takeTrailOwnEnd l).cues = s.cues ∧
    (s.takeTrailOwnEnd l).tempo = s.tempo ∧ (s.takeTrailOwnEnd l).tuner = s.tuner ∧ (s.takeTrailOwnEnd l).link = s.link ∧
    (s.takeTrailOwnEnd l).pending = s.pending := by
  unfold State.takeTrailOwnEnd
  split <;> simp

theorem State.takeTrailFadeEnd_keeps (s : State) (l : Fin 4) :
    (s.takeTrailFadeEnd l).sampleCounter = s.sampleCounter ∧ (s.takeTrailFadeEnd l).startUp = s.startUp ∧
    (s.takeTrailFadeEnd l).pins = s.pins ∧ (s.takeTrailFadeEnd l).chain = s.chain ∧ (s.takeTrailFadeEnd l).latches =
    s.latches ∧ (s.takeTrailFadeEnd l).store = s.store ∧ (s.takeTrailFadeEnd l).upload = s.upload ∧ (s.takeTrailFadeEnd
    l).cues = s.cues ∧ (s.takeTrailFadeEnd l).tempo = s.tempo ∧ (s.takeTrailFadeEnd l).tuner = s.tuner ∧ (s.takeTrailFadeEnd
    l).link = s.link ∧ (s.takeTrailFadeEnd l).pending = s.pending := by
  unfold State.takeTrailFadeEnd
  split <;> simp

theorem State.acceptRecall_keeps (s : State) (src : Source) (o : Origin) (tm : Option Timing) (f : Option (BitVec 8)) (p : LoadPhase) :
    (s.acceptRecall src o tm f p).sampleCounter = s.sampleCounter ∧ (s.acceptRecall src o tm f p).startUp = s.startUp ∧
    (s.acceptRecall src o tm f p).pins = s.pins ∧ (s.acceptRecall src o tm f p).chain = s.chain ∧ (s.acceptRecall src o tm f
    p).latches = s.latches ∧ (s.acceptRecall src o tm f p).store = s.store ∧ (s.acceptRecall src o tm f p).upload = s.upload
    ∧ (s.acceptRecall src o tm f p).cues = s.cues ∧ (s.acceptRecall src o tm f p).tempo = s.tempo ∧ (s.acceptRecall src o tm
    f p).tuner = s.tuner ∧ (s.acceptRecall src o tm f p).pending = s.pending := by
  unfold State.acceptRecall
  dsimp only
  split <;> (try split) <;> simp [State.setScene, State.reportSuperseded, State.reportScene, State.post, State.releaseLines]

theorem State.cancelRecall_keeps (s : State) :
    s.cancelRecall.2.sampleCounter = s.sampleCounter ∧ s.cancelRecall.2.startUp = s.startUp ∧ s.cancelRecall.2.pins = s.pins
    ∧ s.cancelRecall.2.chain = s.chain ∧ s.cancelRecall.2.latches = s.latches ∧ s.cancelRecall.2.store = s.store ∧
    s.cancelRecall.2.upload = s.upload ∧ s.cancelRecall.2.cues = s.cues ∧ s.cancelRecall.2.tempo = s.tempo ∧
    s.cancelRecall.2.tuner = s.tuner ∧ s.cancelRecall.2.pending = s.pending := by
  unfold State.cancelRecall
  split <;> simp [State.setScene, State.reportCancelled, State.reportScene, State.post, State.releaseLines]

theorem State.cueRecall_keeps (s : State) (n : Fin 128) (c : Cue) :
    (s.cueRecall n c).sampleCounter = s.sampleCounter ∧ (s.cueRecall n c).startUp = s.startUp ∧ (s.cueRecall n c).pins =
    s.pins ∧ (s.cueRecall n c).chain = s.chain ∧ (s.cueRecall n c).latches = s.latches ∧ (s.cueRecall n c).store = s.store ∧
    (s.cueRecall n c).upload = s.upload ∧ (s.cueRecall n c).cues = s.cues ∧ (s.cueRecall n c).tempo = s.tempo ∧ (s.cueRecall
    n c).tuner = s.tuner ∧ (s.cueRecall n c).pending = s.pending := by
  unfold State.cueRecall
  split <;> simp [State.acceptRecall_keeps, State.post]

theorem State.failLoad_keeps (s : State) (c : Context) (r : Reason) (o : Nat) :
    (s.failLoad c r o).sampleCounter = s.sampleCounter ∧ (s.failLoad c r o).startUp = s.startUp ∧ (s.failLoad c r o).pins =
    s.pins ∧ (s.failLoad c r o).chain = s.chain ∧ (s.failLoad c r o).latches = s.latches ∧ (s.failLoad c r o).delay =
    s.delay ∧ (s.failLoad c r o).store = s.store ∧ (s.failLoad c r o).upload = s.upload ∧ (s.failLoad c r o).cues = s.cues ∧
    (s.failLoad c r o).tempo = s.tempo ∧ (s.failLoad c r o).tuner = s.tuner ∧ (s.failLoad c r o).pending = s.pending := by
  simp [State.failLoad, State.setScene, State.reportScene, State.post]

theorem State.cutForLines_keeps (s : State) (need n : Nat) :
    (s.cutForLines need n).sampleCounter = s.sampleCounter ∧ (s.cutForLines need n).startUp = s.startUp ∧ (s.cutForLines
    need n).pins = s.pins ∧ (s.cutForLines need n).chain = s.chain ∧ (s.cutForLines need n).latches = s.latches ∧
    (s.cutForLines need n).store = s.store ∧ (s.cutForLines need n).upload = s.upload ∧ (s.cutForLines need n).cues = s.cues
    ∧ (s.cutForLines need n).tempo = s.tempo ∧ (s.cutForLines need n).tuner = s.tuner ∧ (s.cutForLines need n).link = s.link
    ∧ (s.cutForLines need n).pending = s.pending := by
  induction n generalizing s with
  | zero => simp [State.cutForLines]
  | succ n ih =>
    unfold State.cutForLines
    split
    · simp [ih, State.cutOldest_keeps]
    · simp

theorem State.takeLoadRead_keeps (s : State) :
    s.takeLoadRead.sampleCounter = s.sampleCounter ∧ s.takeLoadRead.startUp = s.startUp ∧ s.takeLoadRead.pins = s.pins ∧
    s.takeLoadRead.chain = s.chain ∧ s.takeLoadRead.latches = s.latches ∧ s.takeLoadRead.store = s.store ∧
    s.takeLoadRead.upload = s.upload ∧ s.takeLoadRead.cues = s.cues ∧ s.takeLoadRead.tempo = s.tempo ∧ s.takeLoadRead.tuner
    = s.tuner ∧ s.takeLoadRead.pending = s.pending := by
  unfold State.takeLoadRead
  dsimp only
  repeat' split
  all_goals simp [State.setScene, State.failLoad_keeps, State.cutForLines_keeps]

theorem State.takeLoadComplete_keeps (s : State) :
    s.takeLoadComplete.sampleCounter = s.sampleCounter ∧ s.takeLoadComplete.startUp = s.startUp ∧ s.takeLoadComplete.pins =
    s.pins ∧ s.takeLoadComplete.chain = s.chain ∧ s.takeLoadComplete.latches = s.latches ∧ s.takeLoadComplete.store =
    s.store ∧ s.takeLoadComplete.upload = s.upload ∧ s.takeLoadComplete.cues = s.cues ∧ s.takeLoadComplete.tempo = s.tempo ∧
    s.takeLoadComplete.tuner = s.tuner ∧ s.takeLoadComplete.pending = s.pending := by
  unfold State.takeLoadComplete
  dsimp only
  repeat' split
  all_goals simp [State.setScene, State.reportScene, State.post]

theorem State.completeLoadIfDue_keeps (s : State) :
    s.completeLoadIfDue.sampleCounter = s.sampleCounter ∧ s.completeLoadIfDue.startUp = s.startUp ∧ s.completeLoadIfDue.pins
    = s.pins ∧ s.completeLoadIfDue.chain = s.chain ∧ s.completeLoadIfDue.latches = s.latches ∧ s.completeLoadIfDue.store =
    s.store ∧ s.completeLoadIfDue.upload = s.upload ∧ s.completeLoadIfDue.cues = s.cues ∧ s.completeLoadIfDue.tempo =
    s.tempo ∧ s.completeLoadIfDue.tuner = s.tuner ∧ s.completeLoadIfDue.pending = s.pending := by
  unfold State.completeLoadIfDue
  split <;> simp [State.takeLoadComplete_keeps]

theorem State.endSwitch_keeps (s : State) (c : Context) (q : Option QueuedRecall) :
    (s.endSwitch c q).sampleCounter = s.sampleCounter ∧ (s.endSwitch c q).startUp = s.startUp ∧ (s.endSwitch c q).pins =
    s.pins ∧ (s.endSwitch c q).latches = s.latches ∧ (s.endSwitch c q).store = s.store ∧ (s.endSwitch c q).upload = s.upload
    ∧ (s.endSwitch c q).cues = s.cues ∧ (s.endSwitch c q).tempo = s.tempo ∧ (s.endSwitch c q).tuner = s.tuner ∧ (s.endSwitch
    c q).pending = s.pending := by
  unfold State.endSwitch
  dsimp only
  split <;> simp [State.setScene, State.reportScene, State.post]

theorem State.finishSwitch_keeps (s : State) :
    s.finishSwitch.sampleCounter = s.sampleCounter ∧ s.finishSwitch.startUp = s.startUp ∧ s.finishSwitch.pins = s.pins ∧
    s.finishSwitch.latches = s.latches ∧ s.finishSwitch.store = s.store ∧ s.finishSwitch.upload = s.upload ∧
    s.finishSwitch.cues = s.cues ∧ s.finishSwitch.tempo = s.tempo ∧ s.finishSwitch.tuner = s.tuner ∧ s.finishSwitch.pending
    = s.pending := by
  unfold State.finishSwitch
  repeat' split
  all_goals simp [State.endSwitch_keeps]

theorem State.takeSwitchEnd_keeps (s : State) :
    s.takeSwitchEnd.sampleCounter = s.sampleCounter ∧ s.takeSwitchEnd.startUp = s.startUp ∧ s.takeSwitchEnd.pins = s.pins ∧
    s.takeSwitchEnd.latches = s.latches ∧ s.takeSwitchEnd.store = s.store ∧ s.takeSwitchEnd.upload = s.upload ∧
    s.takeSwitchEnd.cues = s.cues ∧ s.takeSwitchEnd.tempo = s.tempo ∧ s.takeSwitchEnd.tuner = s.tuner ∧
    s.takeSwitchEnd.pending = s.pending := by
  unfold State.takeSwitchEnd
  split <;> simp [State.finishSwitch_keeps, State.closeBlock_keeps]

theorem State.changeTempo_keeps (s : State) (t : Tempo) :
    (s.changeTempo t).sampleCounter = s.sampleCounter ∧ (s.changeTempo t).startUp = s.startUp ∧ (s.changeTempo t).pins =
    s.pins ∧ (s.changeTempo t).chain = s.chain ∧ (s.changeTempo t).latches = s.latches ∧ (s.changeTempo t).delay = s.delay ∧
    (s.changeTempo t).scenes = s.scenes ∧ (s.changeTempo t).store = s.store ∧ (s.changeTempo t).upload = s.upload ∧
    (s.changeTempo t).cues = s.cues ∧ (s.changeTempo t).tuner = s.tuner ∧ (s.changeTempo t).pending = s.pending := by
  unfold State.changeTempo
  split <;> simp [State.reportTempo, State.post]

theorem State.inherit_keeps (s : State) (c : Context) :
    (s.inherit c).1.sampleCounter = s.sampleCounter ∧ (s.inherit c).1.startUp = s.startUp ∧ (s.inherit c).1.pins = s.pins ∧
    (s.inherit c).1.chain = s.chain ∧ (s.inherit c).1.delay = s.delay ∧ (s.inherit c).1.scenes = s.scenes ∧ (s.inherit
    c).1.store = s.store ∧ (s.inherit c).1.upload = s.upload ∧ (s.inherit c).1.cues = s.cues ∧ (s.inherit c).1.tuner =
    s.tuner ∧ (s.inherit c).1.pending = s.pending := by
  unfold State.inherit
  dsimp only
  repeat' split
  all_goals simp [State.changeTempo_keeps]

theorem State.cutForBudget_keeps (s : State) (cost n : Nat) :
    (s.cutForBudget cost n).sampleCounter = s.sampleCounter ∧ (s.cutForBudget cost n).startUp = s.startUp ∧ (s.cutForBudget
    cost n).pins = s.pins ∧ (s.cutForBudget cost n).chain = s.chain ∧ (s.cutForBudget cost n).latches = s.latches ∧
    (s.cutForBudget cost n).store = s.store ∧ (s.cutForBudget cost n).upload = s.upload ∧ (s.cutForBudget cost n).cues =
    s.cues ∧ (s.cutForBudget cost n).tempo = s.tempo ∧ (s.cutForBudget cost n).tuner = s.tuner ∧ (s.cutForBudget cost
    n).link = s.link ∧ (s.cutForBudget cost n).pending = s.pending := by
  induction n generalizing s with
  | zero => simp [State.cutForBudget]
  | succ n ih =>
    unfold State.cutForBudget
    split
    · simp [ih, State.cutOldest_keeps]
    · simp

theorem State.switchTo_keeps (s : State) (c : Context) :
    (s.switchTo c).sampleCounter = s.sampleCounter ∧ (s.switchTo c).startUp = s.startUp ∧ (s.switchTo c).pins = s.pins ∧
    (s.switchTo c).store = s.store ∧ (s.switchTo c).upload = s.upload ∧ (s.switchTo c).cues = s.cues ∧ (s.switchTo c).tuner
    = s.tuner ∧ (s.switchTo c).pending = s.pending := by
  unfold State.switchTo
  dsimp only
  generalize switchMode _ _ _ = mode
  cases mode <;> simp [State.endSwitch_keeps, State.setScene, State.reportScene, State.post, State.cutForBudget_keeps, State.inherit_keeps]

theorem State.performSwitch_keeps (s : State) :
    s.performSwitch.sampleCounter = s.sampleCounter ∧ s.performSwitch.startUp = s.startUp ∧ s.performSwitch.pins = s.pins ∧
    s.performSwitch.store = s.store ∧ s.performSwitch.upload = s.upload ∧ s.performSwitch.cues = s.cues ∧
    s.performSwitch.tuner = s.tuner ∧ s.performSwitch.pending = s.pending := by
  unfold State.performSwitch
  repeat' split
  all_goals simp [State.switchTo_keeps]

theorem State.takeBeat_keeps (s : State) :
    s.takeBeat.sampleCounter = s.sampleCounter ∧ s.takeBeat.startUp = s.startUp ∧ s.takeBeat.pins = s.pins ∧
    s.takeBeat.chain = s.chain ∧ s.takeBeat.latches = s.latches ∧ s.takeBeat.delay = s.delay ∧ s.takeBeat.store = s.store ∧
    s.takeBeat.upload = s.upload ∧ s.takeBeat.cues = s.cues ∧ s.takeBeat.tuner = s.tuner ∧ s.takeBeat.link = s.link ∧
    s.takeBeat.pending = s.pending := by
  unfold State.takeBeat
  dsimp only
  repeat' split
  all_goals simp [State.setScene]

theorem State.takeSwitchPoint_keeps (s : State) :
    s.takeSwitchPoint.sampleCounter = s.sampleCounter ∧ s.takeSwitchPoint.startUp = s.startUp ∧ s.takeSwitchPoint.pins =
    s.pins ∧ s.takeSwitchPoint.store = s.store ∧ s.takeSwitchPoint.upload = s.upload ∧ s.takeSwitchPoint.cues = s.cues ∧
    s.takeSwitchPoint.tuner = s.tuner ∧ s.takeSwitchPoint.pending = s.pending := by
  unfold State.takeSwitchPoint
  split <;> simp [State.performSwitch_keeps, State.closeBlock_keeps, State.takeBeat_keeps]

theorem State.takeBoundary_keeps (s : State) :
    s.takeBoundary.sampleCounter = s.sampleCounter ∧ s.takeBoundary.startUp = s.startUp ∧ s.takeBoundary.pins = s.pins ∧
    s.takeBoundary.store = s.store ∧ s.takeBoundary.upload = s.upload ∧ s.takeBoundary.cues = s.cues ∧ s.takeBoundary.tuner
    = s.tuner ∧ s.takeBoundary.pending = s.pending := by
  unfold State.takeBoundary
  split
  · simp [State.openBlock_keeps, State.takeDipIn_keeps, State.takeSwitchPoint_keeps, State.takeSwitchEnd_keeps,
      State.closeBlock_keeps, State.takeBeat_keeps]
  · simp

theorem State.takeGateHoldEnd_keeps (s : State) (inc : Bool) (n : Nat) :
    (s.takeGateHoldEnd inc n).sampleCounter = s.sampleCounter ∧ (s.takeGateHoldEnd inc n).startUp = s.startUp ∧
    (s.takeGateHoldEnd inc n).pins = s.pins ∧ (s.takeGateHoldEnd inc n).chain = s.chain ∧ (s.takeGateHoldEnd inc n).latches
    = s.latches ∧ (s.takeGateHoldEnd inc n).delay = s.delay ∧ (s.takeGateHoldEnd inc n).store = s.store ∧ (s.takeGateHoldEnd
    inc n).upload = s.upload ∧ (s.takeGateHoldEnd inc n).cues = s.cues ∧ (s.takeGateHoldEnd inc n).tempo = s.tempo ∧
    (s.takeGateHoldEnd inc n).tuner = s.tuner ∧ (s.takeGateHoldEnd inc n).link = s.link ∧ (s.takeGateHoldEnd inc n).pending
    = s.pending := by
  unfold State.takeGateHoldEnd
  dsimp only
  split <;> simp

theorem State.takeGateHoldEnds_keeps (s : State) :
    s.takeGateHoldEnds.sampleCounter = s.sampleCounter ∧ s.takeGateHoldEnds.startUp = s.startUp ∧ s.takeGateHoldEnds.pins =
    s.pins ∧ s.takeGateHoldEnds.chain = s.chain ∧ s.takeGateHoldEnds.latches = s.latches ∧ s.takeGateHoldEnds.delay =
    s.delay ∧ s.takeGateHoldEnds.store = s.store ∧ s.takeGateHoldEnds.upload = s.upload ∧ s.takeGateHoldEnds.cues = s.cues ∧
    s.takeGateHoldEnds.tempo = s.tempo ∧ s.takeGateHoldEnds.tuner = s.tuner ∧ s.takeGateHoldEnds.link = s.link ∧
    s.takeGateHoldEnds.pending = s.pending := by
  simp [State.takeGateHoldEnds]

theorem State.takeTrailOwnEnds_keeps (s : State) :
    s.takeTrailOwnEnds.sampleCounter = s.sampleCounter ∧ s.takeTrailOwnEnds.startUp = s.startUp ∧ s.takeTrailOwnEnds.pins =
    s.pins ∧ s.takeTrailOwnEnds.chain = s.chain ∧ s.takeTrailOwnEnds.latches = s.latches ∧ s.takeTrailOwnEnds.store =
    s.store ∧ s.takeTrailOwnEnds.upload = s.upload ∧ s.takeTrailOwnEnds.cues = s.cues ∧ s.takeTrailOwnEnds.tempo = s.tempo ∧
    s.takeTrailOwnEnds.tuner = s.tuner ∧ s.takeTrailOwnEnds.link = s.link ∧ s.takeTrailOwnEnds.pending = s.pending := by
  simp [State.takeTrailOwnEnds, List.finRange_succ, State.takeTrailOwnEnd_keeps]

theorem State.takeTrailFadeEnds_keeps (s : State) :
    s.takeTrailFadeEnds.sampleCounter = s.sampleCounter ∧ s.takeTrailFadeEnds.startUp = s.startUp ∧ s.takeTrailFadeEnds.pins
    = s.pins ∧ s.takeTrailFadeEnds.chain = s.chain ∧ s.takeTrailFadeEnds.latches = s.latches ∧ s.takeTrailFadeEnds.store =
    s.store ∧ s.takeTrailFadeEnds.upload = s.upload ∧ s.takeTrailFadeEnds.cues = s.cues ∧ s.takeTrailFadeEnds.tempo =
    s.tempo ∧ s.takeTrailFadeEnds.tuner = s.tuner ∧ s.takeTrailFadeEnds.link = s.link ∧ s.takeTrailFadeEnds.pending =
    s.pending := by
  simp [State.takeTrailFadeEnds, List.finRange_succ, State.takeTrailFadeEnd_keeps]

theorem State.takeClockLock_keeps (s : State) :
    s.takeClockLock.sampleCounter = s.sampleCounter ∧ s.takeClockLock.startUp = s.startUp ∧ s.takeClockLock.pins = s.pins ∧
    s.takeClockLock.chain = s.chain ∧ s.takeClockLock.latches = s.latches ∧ s.takeClockLock.delay = s.delay ∧
    s.takeClockLock.scenes = s.scenes ∧ s.takeClockLock.store = s.store ∧ s.takeClockLock.upload = s.upload ∧
    s.takeClockLock.cues = s.cues ∧ s.takeClockLock.tuner = s.tuner ∧ s.takeClockLock.pending = s.pending := by
  unfold State.takeClockLock
  split <;> simp [State.changeTempo_keeps]

theorem State.takeClockUpdate_keeps (s : State) :
    s.takeClockUpdate.sampleCounter = s.sampleCounter ∧ s.takeClockUpdate.startUp = s.startUp ∧ s.takeClockUpdate.pins =
    s.pins ∧ s.takeClockUpdate.chain = s.chain ∧ s.takeClockUpdate.latches = s.latches ∧ s.takeClockUpdate.delay = s.delay ∧
    s.takeClockUpdate.scenes = s.scenes ∧ s.takeClockUpdate.store = s.store ∧ s.takeClockUpdate.upload = s.upload ∧
    s.takeClockUpdate.cues = s.cues ∧ s.takeClockUpdate.tuner = s.tuner ∧ s.takeClockUpdate.pending = s.pending := by
  unfold State.takeClockUpdate
  split <;> simp [State.changeTempo_keeps]

theorem State.takeClockLoss_keeps (s : State) :
    s.takeClockLoss.sampleCounter = s.sampleCounter ∧ s.takeClockLoss.startUp = s.startUp ∧ s.takeClockLoss.pins = s.pins ∧
    s.takeClockLoss.chain = s.chain ∧ s.takeClockLoss.latches = s.latches ∧ s.takeClockLoss.delay = s.delay ∧
    s.takeClockLoss.scenes = s.scenes ∧ s.takeClockLoss.store = s.store ∧ s.takeClockLoss.upload = s.upload ∧
    s.takeClockLoss.cues = s.cues ∧ s.takeClockLoss.tuner = s.tuner ∧ s.takeClockLoss.pending = s.pending := by
  unfold State.takeClockLoss
  split <;> simp [State.changeTempo_keeps]

theorem State.takeTap_keeps (s : State) (v : Stamp) :
    (s.takeTap v).sampleCounter = s.sampleCounter ∧ (s.takeTap v).startUp = s.startUp ∧ (s.takeTap v).pins = s.pins ∧
    (s.takeTap v).chain = s.chain ∧ (s.takeTap v).latches = s.latches ∧ (s.takeTap v).delay = s.delay ∧ (s.takeTap v).scenes
    = s.scenes ∧ (s.takeTap v).store = s.store ∧ (s.takeTap v).upload = s.upload ∧ (s.takeTap v).cues = s.cues ∧ (s.takeTap
    v).tuner = s.tuner ∧ (s.takeTap v).pending = s.pending := by
  simp [State.takeTap, State.changeTempo_keeps]

theorem State.takeClock_keeps (s : State) (v : Stamp) :
    (s.takeClock v).sampleCounter = s.sampleCounter ∧ (s.takeClock v).startUp = s.startUp ∧ (s.takeClock v).pins = s.pins ∧
    (s.takeClock v).chain = s.chain ∧ (s.takeClock v).latches = s.latches ∧ (s.takeClock v).delay = s.delay ∧ (s.takeClock
    v).scenes = s.scenes ∧ (s.takeClock v).store = s.store ∧ (s.takeClock v).upload = s.upload ∧ (s.takeClock v).cues =
    s.cues ∧ (s.takeClock v).tuner = s.tuner ∧ (s.takeClock v).pending = s.pending := by
  simp [State.takeClock, State.changeTempo_keeps, State.takeClockUpdate_keeps, State.takeClockLock_keeps]

theorem State.reportTunerIf_keeps (s : State) (b : Bool) :
    (s.reportTunerIf b).sampleCounter = s.sampleCounter ∧ (s.reportTunerIf b).startUp = s.startUp ∧ (s.reportTunerIf b).pins
    = s.pins ∧ (s.reportTunerIf b).chain = s.chain ∧ (s.reportTunerIf b).latches = s.latches ∧ (s.reportTunerIf b).delay =
    s.delay ∧ (s.reportTunerIf b).scenes = s.scenes ∧ (s.reportTunerIf b).store = s.store ∧ (s.reportTunerIf b).upload =
    s.upload ∧ (s.reportTunerIf b).cues = s.cues ∧ (s.reportTunerIf b).tempo = s.tempo ∧ (s.reportTunerIf b).pending =
    s.pending := by
  unfold State.reportTunerIf State.reportTuner
  repeat' split
  all_goals simp [State.post]

theorem State.takeTunerRun_keeps (s : State) :
    s.takeTunerRun.sampleCounter = s.sampleCounter ∧ s.takeTunerRun.startUp = s.startUp ∧ s.takeTunerRun.pins = s.pins ∧
    s.takeTunerRun.chain = s.chain ∧ s.takeTunerRun.latches = s.latches ∧ s.takeTunerRun.delay = s.delay ∧
    s.takeTunerRun.scenes = s.scenes ∧ s.takeTunerRun.store = s.store ∧ s.takeTunerRun.upload = s.upload ∧
    s.takeTunerRun.cues = s.cues ∧ s.takeTunerRun.tempo = s.tempo ∧ s.takeTunerRun.pending = s.pending := by
  unfold State.takeTunerRun
  split <;> simp [State.reportTunerIf_keeps]

theorem State.takeTunerLoss_keeps (s : State) :
    s.takeTunerLoss.sampleCounter = s.sampleCounter ∧ s.takeTunerLoss.startUp = s.startUp ∧ s.takeTunerLoss.pins = s.pins ∧
    s.takeTunerLoss.chain = s.chain ∧ s.takeTunerLoss.latches = s.latches ∧ s.takeTunerLoss.delay = s.delay ∧
    s.takeTunerLoss.scenes = s.scenes ∧ s.takeTunerLoss.store = s.store ∧ s.takeTunerLoss.upload = s.upload ∧
    s.takeTunerLoss.cues = s.cues ∧ s.takeTunerLoss.tempo = s.tempo ∧ s.takeTunerLoss.pending = s.pending := by
  unfold State.takeTunerLoss
  split <;> simp [State.reportTunerIf_keeps]

theorem State.setTuner_keeps (s : State) (v : TunerSettings) (m : TunerMode) :
    (s.setTuner v m).sampleCounter = s.sampleCounter ∧ (s.setTuner v m).startUp = s.startUp ∧ (s.setTuner v m).pins = s.pins
    ∧ (s.setTuner v m).chain = s.chain ∧ (s.setTuner v m).latches = s.latches ∧ (s.setTuner v m).delay = s.delay ∧
    (s.setTuner v m).scenes = s.scenes ∧ (s.setTuner v m).store = s.store ∧ (s.setTuner v m).upload = s.upload ∧ (s.setTuner
    v m).cues = s.cues ∧ (s.setTuner v m).tempo = s.tempo ∧ (s.setTuner v m).pending = s.pending := by
  simp [State.setTuner, State.reportTunerIf_keeps]

theorem State.makeCue_keeps (s : State) (src : BitVec 4) (k : CueKind) (i : BitVec 8) (v : BitVec 10) :
    (s.makeCue src k i v).sampleCounter = s.sampleCounter ∧ (s.makeCue src k i v).startUp = s.startUp ∧ (s.makeCue src k i
    v).pins = s.pins ∧ (s.makeCue src k i v).chain = s.chain ∧ (s.makeCue src k i v).latches = s.latches ∧ (s.makeCue src k
    i v).delay = s.delay ∧ (s.makeCue src k i v).scenes = s.scenes ∧ (s.makeCue src k i v).store = s.store ∧ (s.makeCue src
    k i v).upload = s.upload ∧ (s.makeCue src k i v).tempo = s.tempo ∧ (s.makeCue src k i v).tuner = s.tuner ∧ (s.makeCue
    src k i v).link = s.link ∧ (s.makeCue src k i v).pending = s.pending := by
  simp [State.makeCue]

theorem State.debounce_keeps (s : State) (i : Fin 8) :
    (s.debounce i).sampleCounter = s.sampleCounter ∧ (s.debounce i).startUp = s.startUp ∧ (s.debounce i).pins = s.pins ∧
    (s.debounce i).chain = s.chain ∧ (s.debounce i).latches = s.latches ∧ (s.debounce i).delay = s.delay ∧ (s.debounce
    i).scenes = s.scenes ∧ (s.debounce i).store = s.store ∧ (s.debounce i).upload = s.upload ∧ (s.debounce i).tempo =
    s.tempo ∧ (s.debounce i).tuner = s.tuner ∧ (s.debounce i).link = s.link ∧ (s.debounce i).pending = s.pending := by
  unfold State.debounce
  dsimp only
  repeat' split
  all_goals simp

theorem State.holdCue_keeps (s : State) (i : Fin 8) :
    (s.holdCue i).sampleCounter = s.sampleCounter ∧ (s.holdCue i).startUp = s.startUp ∧ (s.holdCue i).pins = s.pins ∧
    (s.holdCue i).chain = s.chain ∧ (s.holdCue i).latches = s.latches ∧ (s.holdCue i).delay = s.delay ∧ (s.holdCue i).scenes
    = s.scenes ∧ (s.holdCue i).store = s.store ∧ (s.holdCue i).upload = s.upload ∧ (s.holdCue i).tempo = s.tempo ∧
    (s.holdCue i).tuner = s.tuner ∧ (s.holdCue i).link = s.link ∧ (s.holdCue i).pending = s.pending := by
  unfold State.holdCue
  dsimp only
  split <;> simp

theorem State.settleSwitches_keeps (s : State) (n : Nat) :
    (s.settleSwitches n).sampleCounter = s.sampleCounter ∧ (s.settleSwitches n).startUp = s.startUp ∧ (s.settleSwitches
    n).pins = s.pins ∧ (s.settleSwitches n).chain = s.chain ∧ (s.settleSwitches n).latches = s.latches ∧ (s.settleSwitches
    n).delay = s.delay ∧ (s.settleSwitches n).scenes = s.scenes ∧ (s.settleSwitches n).store = s.store ∧ (s.settleSwitches
    n).upload = s.upload ∧ (s.settleSwitches n).tempo = s.tempo ∧ (s.settleSwitches n).tuner = s.tuner ∧ (s.settleSwitches
    n).link = s.link ∧ (s.settleSwitches n).pending = s.pending := by
  unfold State.settleSwitches
  generalize (List.finRange 8).filter _ = l
  induction l generalizing s with
  | nil => simp
  | cons i l ih => simp [ih, State.holdCue_keeps, State.debounce_keeps]

theorem State.scanPedals_keeps (s : State) (l : List (Fin 4)) :
    (s.scanPedals l).sampleCounter = s.sampleCounter ∧ (s.scanPedals l).startUp = s.startUp ∧ (s.scanPedals l).pins = s.pins
    ∧ (s.scanPedals l).chain = s.chain ∧ (s.scanPedals l).latches = s.latches ∧ (s.scanPedals l).delay = s.delay ∧
    (s.scanPedals l).scenes = s.scenes ∧ (s.scanPedals l).store = s.store ∧ (s.scanPedals l).upload = s.upload ∧
    (s.scanPedals l).tempo = s.tempo ∧ (s.scanPedals l).tuner = s.tuner ∧ (s.scanPedals l).link = s.link ∧ (s.scanPedals
    l).pending = s.pending := by
  induction l generalizing s with
  | nil => simp [State.scanPedals]
  | cons i l ih =>
    unfold State.scanPedals
    dsimp only
    repeat' split
    all_goals simp [ih, State.setPedal, State.pedalCue]

theorem State.takeUnplug_keeps (s : State) (i : Fin 4) :
    (s.takeUnplug i).sampleCounter = s.sampleCounter ∧ (s.takeUnplug i).startUp = s.startUp ∧ (s.takeUnplug i).pins = s.pins
    ∧ (s.takeUnplug i).chain = s.chain ∧ (s.takeUnplug i).latches = s.latches ∧ (s.takeUnplug i).delay = s.delay ∧
    (s.takeUnplug i).scenes = s.scenes ∧ (s.takeUnplug i).store = s.store ∧ (s.takeUnplug i).upload = s.upload ∧
    (s.takeUnplug i).tempo = s.tempo ∧ (s.takeUnplug i).tuner = s.tuner ∧ (s.takeUnplug i).pending = s.pending := by
  unfold State.takeUnplug
  dsimp only
  split <;> simp [State.scanPedals_keeps, State.reportPedal, State.post, State.setPedal]

theorem State.takePlug_keeps (s : State) (i : Fin 4) :
    (s.takePlug i).sampleCounter = s.sampleCounter ∧ (s.takePlug i).startUp = s.startUp ∧ (s.takePlug i).pins = s.pins ∧
    (s.takePlug i).chain = s.chain ∧ (s.takePlug i).latches = s.latches ∧ (s.takePlug i).delay = s.delay ∧ (s.takePlug
    i).scenes = s.scenes ∧ (s.takePlug i).store = s.store ∧ (s.takePlug i).upload = s.upload ∧ (s.takePlug i).tempo =
    s.tempo ∧ (s.takePlug i).tuner = s.tuner ∧ (s.takePlug i).pending = s.pending := by
  unfold State.takePlug
  dsimp only
  repeat' split
  all_goals simp [State.scanPedals_keeps, State.reportPedal, State.post, State.setPedal, State.pedalCue]

theorem State.settlePlugs_keeps (s : State) (n : Nat) :
    (s.settlePlugs n).sampleCounter = s.sampleCounter ∧ (s.settlePlugs n).startUp = s.startUp ∧ (s.settlePlugs n).pins =
    s.pins ∧ (s.settlePlugs n).chain = s.chain ∧ (s.settlePlugs n).latches = s.latches ∧ (s.settlePlugs n).delay = s.delay ∧
    (s.settlePlugs n).scenes = s.scenes ∧ (s.settlePlugs n).store = s.store ∧ (s.settlePlugs n).upload = s.upload ∧
    (s.settlePlugs n).tempo = s.tempo ∧ (s.settlePlugs n).tuner = s.tuner ∧ (s.settlePlugs n).pending = s.pending := by
  induction n generalizing s with
  | zero => simp [State.settlePlugs]
  | succ n ih =>
    unfold State.settlePlugs
    split <;> simp [ih, State.takePlug_keeps, State.takeUnplug_keeps]

theorem State.takePedalScan_keeps (s : State) :
    s.takePedalScan.sampleCounter = s.sampleCounter ∧ s.takePedalScan.startUp = s.startUp ∧ s.takePedalScan.pins = s.pins ∧
    s.takePedalScan.chain = s.chain ∧ s.takePedalScan.latches = s.latches ∧ s.takePedalScan.delay = s.delay ∧
    s.takePedalScan.scenes = s.scenes ∧ s.takePedalScan.store = s.store ∧ s.takePedalScan.upload = s.upload ∧
    s.takePedalScan.tempo = s.tempo ∧ s.takePedalScan.tuner = s.tuner ∧ s.takePedalScan.pending = s.pending := by
  unfold State.takePedalScan
  split <;> simp [State.scanPedals_keeps, State.settlePlugs_keeps]

theorem State.receiveByte_keeps (s : State) (b : Byte) (f : Bool) :
    (s.receiveByte b f).sampleCounter = s.sampleCounter ∧ (s.receiveByte b f).startUp = s.startUp ∧ (s.receiveByte b f).pins
    = s.pins ∧ (s.receiveByte b f).chain = s.chain ∧ (s.receiveByte b f).latches = s.latches ∧ (s.receiveByte b f).delay =
    s.delay ∧ (s.receiveByte b f).scenes = s.scenes ∧ (s.receiveByte b f).store = s.store ∧ (s.receiveByte b f).upload =
    s.upload ∧ (s.receiveByte b f).tempo = s.tempo ∧ (s.receiveByte b f).tuner = s.tuner ∧ (s.receiveByte b f).link = s.link
    ∧ (s.receiveByte b f).pending = s.pending := by
  unfold State.receiveByte
  dsimp only
  repeat' split
  all_goals simp

theorem State.runBinding_keeps (s : State) (c : Cue) (t : Target) :
    (s.runBinding c t).sampleCounter = s.sampleCounter ∧ (s.runBinding c t).startUp = s.startUp ∧ (s.runBinding c t).pins =
    s.pins ∧ (s.runBinding c t).chain = s.chain ∧ (s.runBinding c t).delay = s.delay ∧ (s.runBinding c t).store = s.store ∧
    (s.runBinding c t).upload = s.upload ∧ (s.runBinding c t).cues = s.cues ∧ (s.runBinding c t).tempo = s.tempo ∧
    (s.runBinding c t).tuner = s.tuner ∧ (s.runBinding c t).link = s.link ∧ (s.runBinding c t).pending = s.pending := by
  unfold State.runBinding
  repeat' split
  all_goals simp

theorem State.runBindings_keeps (s : State) (n : Nat) (c : Cue) :
    (s.runBindings n c).sampleCounter = s.sampleCounter ∧ (s.runBindings n c).startUp = s.startUp ∧ (s.runBindings n c).pins
    = s.pins ∧ (s.runBindings n c).chain = s.chain ∧ (s.runBindings n c).delay = s.delay ∧ (s.runBindings n c).store =
    s.store ∧ (s.runBindings n c).upload = s.upload ∧ (s.runBindings n c).cues = s.cues ∧ (s.runBindings n c).tempo =
    s.tempo ∧ (s.runBindings n c).tuner = s.tuner ∧ (s.runBindings n c).link = s.link ∧ (s.runBindings n c).pending =
    s.pending := by
  unfold State.runBindings
  generalize s.scenes.editContext.bindings.filter _ = l
  induction l generalizing s with
  | nil => simp
  | cons b l ih => simp [ih, State.runBinding_keeps]

theorem State.act_keeps (s : State) (a : Action) (c : Cue) :
    (s.act a c).sampleCounter = s.sampleCounter ∧ (s.act a c).startUp = s.startUp ∧ (s.act a c).pins = s.pins ∧ (s.act a
    c).chain = s.chain ∧ (s.act a c).store = s.store ∧ (s.act a c).upload = s.upload ∧ (s.act a c).cues = s.cues ∧ (s.act a
    c).pending = s.pending := by
  unfold State.act
  repeat' split
  all_goals simp [State.runBindings_keeps, State.cueRecall_keeps, State.takeTap_keeps, State.takeClock_keeps, State.toggleTuner]

theorem State.reportCuesIf_keeps (s : State) (b : Bool) :
    (s.reportCuesIf b).sampleCounter = s.sampleCounter ∧ (s.reportCuesIf b).startUp = s.startUp ∧ (s.reportCuesIf b).pins =
    s.pins ∧ (s.reportCuesIf b).chain = s.chain ∧ (s.reportCuesIf b).latches = s.latches ∧ (s.reportCuesIf b).delay =
    s.delay ∧ (s.reportCuesIf b).scenes = s.scenes ∧ (s.reportCuesIf b).store = s.store ∧ (s.reportCuesIf b).upload =
    s.upload ∧ (s.reportCuesIf b).cues = s.cues ∧ (s.reportCuesIf b).tempo = s.tempo ∧ (s.reportCuesIf b).tuner = s.tuner ∧
    (s.reportCuesIf b).pending = s.pending := by
  unfold State.reportCuesIf
  split <;> simp [State.reportCues, State.post]

theorem State.copyCue_keeps (s : State) (c : Cue) (n : Fin 24) :
    (s.copyCue c n).sampleCounter = s.sampleCounter ∧ (s.copyCue c n).startUp = s.startUp ∧ (s.copyCue c n).pins = s.pins ∧
    (s.copyCue c n).chain = s.chain ∧ (s.copyCue c n).latches = s.latches ∧ (s.copyCue c n).delay = s.delay ∧ (s.copyCue c
    n).scenes = s.scenes ∧ (s.copyCue c n).store = s.store ∧ (s.copyCue c n).upload = s.upload ∧ (s.copyCue c n).tempo =
    s.tempo ∧ (s.copyCue c n).tuner = s.tuner ∧ (s.copyCue c n).pending = s.pending := by
  unfold State.copyCue
  split <;> simp [State.reportCuesIf_keeps]

theorem State.handleCue_keeps (s : State) (c : Cue) :
    (s.handleCue c).sampleCounter = s.sampleCounter ∧ (s.handleCue c).startUp = s.startUp ∧ (s.handleCue c).pins = s.pins ∧
    (s.handleCue c).chain = s.chain ∧ (s.handleCue c).store = s.store ∧ (s.handleCue c).upload = s.upload ∧ (s.handleCue
    c).pending = s.pending := by
  unfold State.handleCue
  dsimp only
  repeat' split
  all_goals simp [State.copyCue_keeps, State.act_keeps]

theorem State.takeCue_keeps (s : State) :
    s.takeCue.sampleCounter = s.sampleCounter ∧ s.takeCue.startUp = s.startUp ∧ s.takeCue.pins = s.pins ∧ s.takeCue.chain =
    s.chain ∧ s.takeCue.store = s.store ∧ s.takeCue.upload = s.upload ∧ s.takeCue.pending = s.pending := by
  unfold State.takeCue
  split <;> simp [State.handleCue_keeps]

theorem State.resumeLoad_keeps (s : State) :
    s.resumeLoad.sampleCounter = s.sampleCounter ∧ s.resumeLoad.startUp = s.startUp ∧ s.resumeLoad.pins = s.pins ∧
    s.resumeLoad.chain = s.chain ∧ s.resumeLoad.latches = s.latches ∧ s.resumeLoad.store = s.store ∧ s.resumeLoad.upload =
    s.upload ∧ s.resumeLoad.cues = s.cues ∧ s.resumeLoad.tempo = s.tempo ∧ s.resumeLoad.tuner = s.tuner ∧
    s.resumeLoad.pending = s.pending := by
  unfold State.resumeLoad
  split <;> simp [State.takeLoadRead_keeps]

theorem State.completeWrite_keeps (s : State) (st : Store) (op : StoreOp) (b : Bool) :
    (s.completeWrite st op b).sampleCounter = s.sampleCounter ∧ (s.completeWrite st op b).startUp = s.startUp ∧
    (s.completeWrite st op b).pins = s.pins ∧ (s.completeWrite st op b).chain = s.chain ∧ (s.completeWrite st op b).latches
    = s.latches ∧ (s.completeWrite st op b).upload = s.upload ∧ (s.completeWrite st op b).cues = s.cues ∧ (s.completeWrite
    st op b).tempo = s.tempo ∧ (s.completeWrite st op b).tuner = s.tuner ∧ (s.completeWrite st op b).pending = s.pending := by
  simp [State.completeWrite, State.resumeLoad_keeps, State.reportStoreDone, State.post]

theorem State.takeEraseComplete_keeps (s : State) :
    s.takeEraseComplete.sampleCounter = s.sampleCounter ∧ s.takeEraseComplete.startUp = s.startUp ∧ s.takeEraseComplete.pins
    = s.pins ∧ s.takeEraseComplete.chain = s.chain ∧ s.takeEraseComplete.latches = s.latches ∧ s.takeEraseComplete.upload =
    s.upload ∧ s.takeEraseComplete.cues = s.cues ∧ s.takeEraseComplete.tempo = s.tempo ∧ s.takeEraseComplete.tuner = s.tuner
    ∧ s.takeEraseComplete.pending = s.pending := by
  unfold State.takeEraseComplete
  dsimp only
  repeat' split
  all_goals simp [State.completeWrite_keeps]

theorem State.takeWriteComplete_keeps (s : State) (b : Bool) :
    (s.takeWriteComplete b).sampleCounter = s.sampleCounter ∧ (s.takeWriteComplete b).startUp = s.startUp ∧
    (s.takeWriteComplete b).pins = s.pins ∧ (s.takeWriteComplete b).chain = s.chain ∧ (s.takeWriteComplete b).latches =
    s.latches ∧ (s.takeWriteComplete b).upload = s.upload ∧ (s.takeWriteComplete b).cues = s.cues ∧ (s.takeWriteComplete
    b).tempo = s.tempo ∧ (s.takeWriteComplete b).tuner = s.tuner ∧ (s.takeWriteComplete b).pending = s.pending := by
  unfold State.takeWriteComplete
  dsimp only
  split <;> simp [State.completeWrite_keeps]

theorem State.renderSample_keeps (s : State) (k : Nat) (ab : Pair) :
    (s.renderSample k ab).1.sampleCounter = s.sampleCounter ∧ (s.renderSample k ab).1.startUp = s.startUp ∧ (s.renderSample
    k ab).1.pins = s.pins ∧ (s.renderSample k ab).1.latches = s.latches ∧ (s.renderSample k ab).1.store = s.store ∧
    (s.renderSample k ab).1.upload = s.upload ∧ (s.renderSample k ab).1.cues = s.cues ∧ (s.renderSample k ab).1.tempo =
    s.tempo ∧ (s.renderSample k ab).1.tuner = s.tuner ∧ (s.renderSample k ab).1.link = s.link ∧ (s.renderSample k
    ab).1.pending = s.pending := by
  unfold State.renderSample State.renderIncoming State.renderPlaying
  dsimp only
  repeat' split
  all_goals simp

theorem State.frameRender_keeps (s : State) (f : FrameInputs) :
    (s.frameRender f).sampleCounter = s.sampleCounter ∧ (s.frameRender f).startUp = s.startUp ∧ (s.frameRender f).latches =
    s.latches ∧ (s.frameRender f).store = s.store ∧ (s.frameRender f).upload = s.upload ∧ (s.frameRender f).cues = s.cues ∧
    (s.frameRender f).tempo = s.tempo ∧ (s.frameRender f).tuner = s.tuner ∧ (s.frameRender f).link = s.link ∧ (s.frameRender
    f).pending = s.pending := by
  simp [State.frameRender, State.renderSample_keeps]

theorem State.frameCount_keeps (s : State) (f : FrameInputs) :
    (s.frameCount f).startUp = s.startUp ∧ (s.frameCount f).pins = s.pins ∧ (s.frameCount f).chain = s.chain ∧ (s.frameCount
    f).latches = s.latches ∧ (s.frameCount f).delay = s.delay ∧ (s.frameCount f).scenes = s.scenes ∧ (s.frameCount f).store
    = s.store ∧ (s.frameCount f).upload = s.upload ∧ (s.frameCount f).cues = s.cues ∧ (s.frameCount f).link = s.link ∧
    (s.frameCount f).pending = s.pending := by
  simp [State.frameCount]

theorem State.frameScan_keeps (s : State) (f : FrameInputs) :
    (s.frameScan f).sampleCounter = s.sampleCounter ∧ (s.frameScan f).startUp = s.startUp ∧ (s.frameScan f).pins = s.pins ∧
    (s.frameScan f).chain = s.chain ∧ (s.frameScan f).latches = s.latches ∧ (s.frameScan f).delay = s.delay ∧ (s.frameScan
    f).scenes = s.scenes ∧ (s.frameScan f).store = s.store ∧ (s.frameScan f).upload = s.upload ∧ (s.frameScan f).tempo =
    s.tempo ∧ (s.frameScan f).tuner = s.tuner ∧ (s.frameScan f).link = s.link ∧ (s.frameScan f).pending = s.pending := by
  unfold State.frameScan
  split <;> simp

theorem State.settle_keeps (s : State) :
    s.settle.sampleCounter = s.sampleCounter ∧ s.settle.startUp = s.startUp ∧ s.settle.pins = s.pins ∧ s.settle.store =
    s.store ∧ s.settle.upload = s.upload ∧ s.settle.pending = s.pending := by
  simp [State.settle, State.takeTrailOwnEnds_keeps, State.takeGateHoldEnds_keeps, State.takeBoundary_keeps, State.takeSwitchEnd_keeps,
    State.completeLoadIfDue_keeps, State.takeTrailFadeEnds_keeps, State.takeDipIn_keeps, State.takeClockLoss_keeps,
    State.takeClockUpdate_keeps, State.takeClockLock_keeps, State.takeBeat_keeps, State.takeTunerLoss_keeps,
    State.takeTunerRun_keeps, State.settlePlugs_keeps, State.takePedalScan_keeps, State.settleSwitches_keeps]

end Sys2Proof.Machine
end

