-- ==== Sys2Proof/Laws/Delay.lean ====
section
/-! SUPPORT. What the delay memory controller and the sample renderer can do: the arbiter issues at most one burst and changes nothing
else; one read and one write of a line change that line alone; the contents of the delay memory and its present flag change by burst
completions, the probe and the clearing alone. -/

namespace Sys2Proof.Machine

/-! ## The arbiter (R54) -/

/-- One look of the arbiter: nothing, or one grant. -/
theorem DelayMemory.arbitrate_cases (d : DelayMemory) (readers : Vector Reader 4) :
    d.arbitrate readers = d ∨
    ∃ i, d.burst = none ∧ d.nextServed readers = some i ∧
      d.arbitrate readers = { d with burst := some (d.issue readers i), lastServed := i } := by
  unfold DelayMemory.arbitrate
  split
  next i hb hn => exact .inr ⟨i, hb, hn, rfl⟩
  next => exact .inl rfl

@[simp] theorem DelayMemory.arbitrate_lines (d : DelayMemory) (readers : Vector Reader 4) :
    (d.arbitrate readers).lines = d.lines := by
  rcases d.arbitrate_cases readers with h | ⟨i, -, -, h⟩ <;> rw [h]

@[simp] theorem DelayMemory.arbitrate_present (d : DelayMemory) (readers : Vector Reader 4) :
    (d.arbitrate readers).present = d.present := by
  rcases d.arbitrate_cases readers with h | ⟨i, -, -, h⟩ <;> rw [h]

@[simp] theorem Port.look_readers (p : Port) : p.look.readers = p.readers := rfl
@[simp] theorem Port.look_lines (p : Port) : p.look.delay.lines = p.delay.lines := by simp [Port.look]

/-! ## One operation on a line -/

@[simp] theorem DelayMemory.setLine_lines (d : DelayMemory) (l : Fin 4) (v : Line) : (d.setLine l v).lines = d.lines.set l v := rfl
@[simp] theorem DelayMemory.setLine_burst (d : DelayMemory) (l : Fin 4) (v : Line) : (d.setLine l v).burst = d.burst := rfl

/-- A line as a read at an age leaves it (R43). -/
def Line.afterRead (ln : Line) (age prev : Int) : Line :=
  { ln with
    underruns := if (ln.deliver age prev).2 then countUp ln.underruns else ln.underruns
    readFifo := ln.readFifo.filter fun e => e.1 != positionAt ln.wp age }

/-- A read of a line: its value, and its line as the read leaves it. -/
@[simp] theorem Port.read_value (p : Port) (l : Fin 4) (age prev : Int) (next : Reader) :
    (p.read l age prev next).1 = (p.delay.lines[l].deliver age prev).1 := rfl

@[simp] theorem Port.read_lines (p : Port) (l : Fin 4) (age prev : Int) (next : Reader) :
    (p.read l age prev next).2.delay.lines = p.delay.lines.set l (p.delay.lines[l].afterRead age prev) := by
  simp [Port.read, DelayMemory.readLine, Line.afterRead]

@[simp] theorem Port.write_lines (p : Port) (l : Fin 4) (v : Int) (next : Reader) :
    (p.write l v next).delay.lines = p.delay.lines.set l (p.delay.lines[l].input v) := by
  simp [Port.write, DelayMemory.writeLine]

/-! ## A DELAY stage's sample (R43..R45, R59) -/

/-- The ramp step of a stage that holds a DELAY's state moves m alone (R45). -/
theorem Stage.stepRamp_delay {st : Stage} {dr : DelayRun} (h : st.run = .delay dr) :
    st.stepRamp = { st with m := st.stepRamp.m } := by
  unfold Stage.stepRamp Stage.fresh
  split <;> simp [h]

theorem Stage.render_delay {st : Stage} {dr : DelayRun} {l : Fin 4} (hk : st.kind = .delay) (hr : st.run = .delay dr)
    (hl : dr.line = some l) (banks : Vector Table 8) (k : Nat) (p : Port) (x : Int) :
    st.render banks k p x = delayOut { st with m := st.stepRamp.m } dr l k p x := by
  unfold Stage.render
  rw [Stage.stepRamp_delay hr]
  obtain ⟨_, _, _, _, _, _, _, _, _, _⟩ := st
  cases hk
  cases hr
  simp only [hl]

theorem Stage.render_dry {st : Stage} {dr : DelayRun} (hk : st.kind = .delay) (hr : st.run = .delay dr)
    (hl : dr.line = none) (banks : Vector Table 8) (k : Nat) (p : Port) (x : Int) :
    st.render banks k p x = delayDry { st with m := st.stepRamp.m } k p x := by
  unfold Stage.render
  rw [Stage.stepRamp_delay hr]
  obtain ⟨_, _, _, _, _, _, _, _, _, _⟩ := st
  cases hk
  cases hr
  simp only [hl]

/-! ## What leaves the delay memory's contents as they were -/

/-- Two controllers with the same memory contents and the same present flag. -/
def DelayMemory.same (d e : DelayMemory) : Prop := e.mem = d.mem ∧ e.present = d.present

theorem DelayMemory.same.rfl {d : DelayMemory} : d.same d := ⟨Eq.refl _, Eq.refl _⟩

theorem DelayMemory.same.trans {d e f : DelayMemory} (h : d.same e) (h' : e.same f) : d.same f :=
  ⟨h'.1.trans h.1, h'.2.trans h.2⟩

theorem Port.read_same (p : Port) (l : Fin 4) (age prev : Int) (next : Reader) :
    p.delay.same (p.read l age prev next).2.delay := by
  simp [DelayMemory.same, Port.read, Port.look, DelayMemory.readLine]

theorem Port.write_same (p : Port) (l : Fin 4) (v : Int) (next : Reader) : p.delay.same (p.write l v next).delay := by
  simp [DelayMemory.same, Port.write, Port.look, DelayMemory.writeLine]

theorem Stage.render_same (st : Stage) (banks : Vector Table 8) (k : Nat) (p : Port) (x : Int) :
    p.delay.same (st.render banks k p x).port.delay := by
  unfold Stage.render
  dsimp only
  split
  · split
    · exact (Port.read_same p _ _ _ _).trans (Port.write_same _ _ _ _)
    · exact .rfl
  · split <;> exact .rfl
  · split <;> exact .rfl

theorem renderStages_same (banks : Vector Table 8) (k : Nat) (sts : List Stage) (p : Port) (x : Int) :
    p.delay.same (renderStages banks k sts p x).port.delay := by
  induction sts generalizing p x with
  | nil => exact .rfl
  | cons st rest ih => exact (st.render_same banks k p x).trans (ih _ _)

theorem Trail.render_same (t : Trail) (p : Port) : p.delay.same (t.render p).port.delay := by
  unfold Trail.render
  split
  · split
    · exact Port.read_same p _ _ _ _
    · exact .rfl
  · exact (Port.read_same p _ _ _ _).trans (Port.write_same _ _ _ _)

theorem renderTrails_same (ts : List Trail) (p : Port) : p.delay.same (renderTrails ts p).2.1.delay := by
  induction ts generalizing p with
  | nil => exact .rfl
  | cons t rest ih => exact (t.render_same p).trans (ih _)

theorem Context.render_same (c : Context) (banks : Vector Table 8) (k : Nat) (p : Port) (ab : Pair) :
    p.delay.same (c.render banks k p ab).port.delay := renderStages_same banks k c.stages p _

theorem State.renderSample_same (s : State) (k : Nat) (ab : Pair) : s.delay.same (s.renderSample k ab).1.delay := by
  unfold State.renderSample
  split
  · exact .rfl
  · have h1 : s.delay.same (s.renderPlaying k { delay := s.delay, readers := s.readers } ab).port.delay := by
      unfold State.renderPlaying
      split
      · exact Context.render_same _ _ _ { delay := s.delay, readers := s.readers } _
      · exact .rfl
    have h2 : ∀ (u : State) (p : Port), p.delay.same (u.renderIncoming k p ab).port.delay := by
      intro u p
      unfold State.renderIncoming
      split
      · exact Context.render_same _ _ _ p _
      · exact .rfl
    exact (h1.trans (h2 _ _)).trans (renderTrails_same _ _)

theorem DelayMemory.release_same (d : DelayMemory) (l : Fin 4) : d.same (d.release l) := ⟨rfl, rfl⟩

theorem refetchChanged_same (olds news : List Stage) (d : DelayMemory) : d.same (refetchChanged d olds news) := by
  induction olds generalizing news d with
  | nil => exact .rfl
  | cons old olds ih =>
    cases news with
    | nil => exact .rfl
    | cons new news =>
      unfold refetchChanged
      refine DelayMemory.same.trans ?_ (ih _ _)
      split
      · split
        · exact .rfl
        · exact ⟨rfl, rfl⟩
      · exact .rfl

theorem retireStages_same (gains : Int × Int) (sts : List Stage) (d : DelayMemory) : d.same (retireStages gains sts d).2 := by
  induction sts generalizing d with
  | nil => exact .rfl
  | cons st rest ih =>
    unfold retireStages
    repeat' split
    · exact DelayMemory.same.trans ⟨rfl, rfl⟩ (ih _)
    · exact (d.release_same _).trans (ih _)
    · exact ih _
    · exact ih _

theorem buildStages_same (beat : Nat) (es : List StageEntry) (n : Nat) (d : DelayMemory) : d.same (buildStages beat es n d).2 := by
  induction es generalizing n d with
  | nil => exact .rfl
  | cons e rest ih =>
    unfold buildStages
    refine DelayMemory.same.trans ?_ (ih _ _)
    split
    · unfold DelayMemory.allocate
      split <;> exact ⟨rfl, rfl⟩
    · exact .rfl

theorem State.arbitrate_same (s : State) : s.delay.same s.arbitrate.delay := by
  simp [DelayMemory.same, State.arbitrate]

theorem State.cutOldest_same (s : State) (as : TrailState) : s.delay.same (s.cutOldest as).delay := by
  unfold State.cutOldest
  split <;> exact ⟨rfl, rfl⟩

theorem State.cutForBudget_same (s : State) (cost n : Nat) : s.delay.same (s.cutForBudget cost n).delay := by
  induction n generalizing s with
  | zero => exact .rfl
  | succ n ih =>
    unfold State.cutForBudget
    split
    · exact (s.cutOldest_same _).trans (ih _)
    · exact .rfl

theorem State.takeTrailOwnEnd_same (s : State) (l : Fin 4) : s.delay.same (s.takeTrailOwnEnd l).delay := by
  unfold State.takeTrailOwnEnd
  split <;> exact ⟨rfl, rfl⟩

theorem State.takeTrailFadeEnd_same (s : State) (l : Fin 4) : s.delay.same (s.takeTrailFadeEnd l).delay := by
  unfold State.takeTrailFadeEnd
  split <;> exact ⟨rfl, rfl⟩

theorem State.foldl_same {f : State → Fin 4 → State} (h : ∀ (s : State) (l : Fin 4), s.delay.same (f s l).delay) (ls : List (Fin 4)) (s : State) :
    s.delay.same (ls.foldl f s).delay := by
  induction ls generalizing s with
  | nil => exact .rfl
  | cons l ls ih => exact (h s l).trans (ih _)

theorem State.takeLoadComplete_same (s : State) : s.delay.same s.takeLoadComplete.delay := by
  unfold State.takeLoadComplete
  split
  · dsimp only
    split
    · exact buildStages_same _ _ _ _
    · exact .rfl
  · exact .rfl

theorem State.endSwitch_same (s : State) (c : Context) (q : Option QueuedRecall) : s.delay.same (s.endSwitch c q).delay := by
  have h := retireStages_same s.scenes.playing.outputGains s.scenes.playing.stages s.delay
  unfold State.endSwitch
  cases q <;> exact ⟨h.1, h.2⟩

theorem State.takeSwitchEnd_same (s : State) : s.delay.same s.takeSwitchEnd.delay := by
  have hc : s.closeBlock.delay = s.delay := by simp [State.closeBlock_keeps]
  unfold State.takeSwitchEnd
  split
  · rw [← hc]
    unfold State.finishSwitch
    split
    · split
      · exact State.endSwitch_same _ _ _
      · exact State.endSwitch_same _ _ _
      · exact .rfl
    · exact .rfl
  · exact .rfl

/-- The switch of an armed context leaves the contents alone: in each mode, with its report and its mixer. -/
theorem State.switchTo_same (s : State) (c : Context) : s.delay.same (s.switchTo c).delay := by
  have hi : (s.inherit c).1.delay = s.delay := by simp [State.inherit_keeps]
  rw [← hi]
  unfold State.switchTo
  dsimp only
  generalize switchMode _ _ _ = mode
  cases mode
  · exact State.endSwitch_same _ _ _
  · exact State.cutForBudget_same _ _ _
  · exact .rfl

theorem State.takeSwitchPoint_same (s : State) : s.delay.same s.takeSwitchPoint.delay := by
  have hb : s.takeBeat.closeBlock.delay = s.delay := by simp [State.closeBlock_keeps, State.takeBeat_keeps]
  unfold State.takeSwitchPoint
  split
  · rw [← hb]
    unfold State.performSwitch
    split
    · split
      · exact State.switchTo_same _ _
      · exact .rfl
    · exact .rfl
  · exact .rfl

theorem State.openBlock_same (s : State) : s.delay.same s.openBlock.delay := by
  unfold State.openBlock
  dsimp only
  refine DelayMemory.same.trans ?_ (State.arbitrate_same _)
  split
  · exact (refetchChanged_same _ _ _).trans (refetchChanged_same _ _ _)
  · exact refetchChanged_same _ _ _

theorem State.takeBoundary_same (s : State) : s.delay.same s.takeBoundary.delay := by
  have hb : s.takeBeat.closeBlock.delay = s.delay := by simp [State.closeBlock_keeps, State.takeBeat_keeps]
  unfold State.takeBoundary
  split
  · refine DelayMemory.same.trans ?_ (State.openBlock_same _)
    rw [(State.takeDipIn_keeps _).2.2.2.2.1]
    exact hb ▸ (State.takeSwitchEnd_same _).trans (State.takeSwitchPoint_same _)
  · exact .rfl

theorem State.completeLoadIfDue_same (s : State) : s.delay.same s.completeLoadIfDue.delay := by
  unfold State.completeLoadIfDue
  split
  · exact s.takeLoadComplete_same
  · exact .rfl

/-- Settling the events that are due stores nothing in the delay memory. -/
theorem State.settle_same (s : State) : s.delay.same s.settle.delay := by
  unfold State.settle
  dsimp only
  refine DelayMemory.same.trans ?_ (State.arbitrate_same _)
  refine DelayMemory.same.trans ?_ (State.foldl_same State.takeTrailOwnEnd_same _ _)
  rw [(State.takeGateHoldEnds_keeps _).2.2.2.2.2.1]
  refine DelayMemory.same.trans ?_ (State.takeBoundary_same _)
  refine DelayMemory.same.trans ?_ (State.takeSwitchEnd_same _)
  refine DelayMemory.same.trans ?_ (State.completeLoadIfDue_same _)
  refine DelayMemory.same.trans ?_ (State.foldl_same State.takeTrailFadeEnd_same _ _)
  simp [DelayMemory.same, State.takeDipIn_keeps, State.takeClockLoss_keeps, State.takeClockUpdate_keeps,
    State.takeClockLock_keeps, State.takeBeat_keeps, State.takeTunerLoss_keeps, State.takeTunerRun_keeps,
    State.settlePlugs_keeps, State.takePedalScan_keeps, State.settleSwitches_keeps]

theorem State.frameRender_delay (s : State) (f : FrameInputs) : (s.frameRender f).delay =
    (s.renderSample (s.sampleCounter.toNat % Config.blockSamples) s.chain.delayedInput).1.delay := by
  simp [State.frameRender]

/-- An audio frame stores nothing in the delay memory: samples reach it by write bursts (R52). -/
theorem State.takeFrame_same (s : State) (f : FrameInputs) : s.delay.same (s.takeFrame f).delay := by
  unfold State.takeFrame
  refine DelayMemory.same.trans ?_ (State.arbitrate_same _)
  rw [(State.frameScan_keeps _ f).2.2.2.2.2.1, (State.frameCount_keeps _ f).2.2.2.2.1, State.frameRender_delay]
  exact (s.settle_same).trans (State.renderSample_same _ _ _)

end Sys2Proof.Machine
end

