-- ==== Sys2Proof/Laws/Queues.lean ====
section
/-! SUPPORT. What the bounded queues of the part can do when something arrives: the cue input queue (R133), the cue FIFO (R142) and
the line inputs of a delay line (R44, R50, R52). -/

namespace Sys2Proof.Machine

/-- A replacement keeps the length of the list. -/
theorem replaceFirst_length {p : Cue → Bool} {c : Cue} {l l' : List Cue} (h : replaceFirst p c l = some l') :
    l'.length = l.length := by
  induction l generalizing l' with
  | nil => simp [replaceFirst] at h
  | cons d l ih =>
    simp only [replaceFirst] at h
    split at h
    · cases h
      rfl
    · cases hr : replaceFirst p c l with
      | none => simp [hr] at h
      | some m =>
        simp only [hr, Option.map_some, Option.some.injEq] at h
        subst h
        simp [ih hr]

/-- A cue that arrives joins a queue with room; else it takes the place of a cue, or is lost with the flag set (R133). -/
theorem CueUnit.enqueue_cases (u : CueUnit) (c : Cue) :
    (u.queue.length < 16 ∧ u.enqueue c = { u with queue := u.queue ++ [c] }) ∨
    (16 ≤ u.queue.length ∧ c.source = sourcePedals ∧
      ∃ q : List Cue, q.length = u.queue.length ∧ u.enqueue c = { u with queue := q }) ∨
    (16 ≤ u.queue.length ∧ u.enqueue c = { u with lost := true }) := by
  unfold CueUnit.enqueue
  split
  · rename_i h
    exact .inl ⟨h, rfl⟩
  · rename_i h
    have h16 : 16 ≤ u.queue.length := Nat.le_of_not_lt h
    split
    · rename_i hs
      split
      · rename_i q hq
        refine .inr (.inl ⟨h16, hs, q.reverse, ?_, rfl⟩)
        simpa using replaceFirst_length hq
      · exact .inr (.inr ⟨h16, rfl⟩)
    · exact .inr (.inr ⟨h16, rfl⟩)

/-- An arrival never takes the queue past 16 cues. -/
theorem CueUnit.enqueue_length (u : CueUnit) (c : Cue) (h : u.queue.length ≤ 16) : (u.enqueue c).queue.length ≤ 16 := by
  rcases u.enqueue_cases c with ⟨hl, e⟩ | ⟨_, _, q, hq, e⟩ | ⟨_, e⟩ <;> rw [e] <;> simp <;> omega

/-- A cue that is copied joins a FIFO with room, or is lost with the flag set (R142). -/
theorem State.copyCue_fifo (s : State) (c : Cue) (n : Fin 24) :
    (s.cues.fifo.length < 32 ∧ (s.copyCue c n).cues = { s.cues with fifo := s.cues.fifo ++ [{ cue := c, filter := n }] }) ∨
    (32 ≤ s.cues.fifo.length ∧ (s.copyCue c n).cues = { s.cues with overflow := true }) := by
  unfold State.copyCue
  split
  · rename_i h
    refine .inl ⟨h, ?_⟩
    unfold State.reportCuesIf State.reportCues State.post
    dsimp only
    split <;> simp
  · rename_i h
    exact .inr ⟨Nat.le_of_not_lt h, by simp⟩

/-- A line input moves the write position and the window by one and keeps every size within its bound. -/
theorem Line.input_sizesOk (ln : Line) (v : Int) (h : ln.sizesOk) : (ln.input v).sizesOk := by
  obtain ⟨h1, h2, h3, h4, h5, h6, h7⟩ := h
  unfold Line.input Line.sizesOk
  refine ⟨?_, ?_, h3, ?_, h5, ?_, ?_⟩
  · exact Nat.mod_lt _ (by decide)
  · exact Nat.min_le_left _ _
  · dsimp only
    split
    · exact h4
    · simp [countUp]
  · dsimp only
    split
    · rename_i h
      simpa [Config.fifoLength] using h
    · exact h6
  · simp [Config.windowLength]

end Sys2Proof.Machine
end

