-- ==== Sys2Proof/Laws/Requests.lean ====
section
/-! SUPPORT. How a request that is executed comes out, and the codes and fields that its body reads (R178, R179, R191): what a proof
about one request cites in place of the request operation. -/

namespace Sys2Proof.Machine

/-! ## A request that reaches its body -/

/-- A known request with a payload that fits leaves what its body answers, posted. -/
theorem request_body {s : State} {kind tag : Byte} {p : List Byte} {early : Bool} {fits : Nat → Bool}
    {body : State → List Byte → Answer} (h : s.accepting) (hp : p.length ≤ 250) (hf : fits p.length = true) :
    whilePowered s (fun s => s.request kind (requestFrame tag p) true early fits body) =
      .next ((body s.endRead p).post kind tag) := by
  rw [whilePowered_powered h.powered, request_accepting h hp hf]

/-- The same where the body refuses. -/
theorem request_refuses {s : State} {kind tag : Byte} {p : List Byte} {early : Bool} {fits : Nat → Bool}
    {body : State → List Byte → Answer} {st : Status} (h : s.accepting) (hp : p.length ≤ 250) (hf : fits p.length = true)
    (e : body s.endRead p = s.endRead.refuse st) :
    whilePowered s (fun s => s.request kind (requestFrame tag p) true early fits body) =
      .next (s.replied (kind ||| 0x80) tag st.code []) := by
  rw [request_body h hp hf, e, refuse_post]

/-- The same where the body's answer is known and leaves no read transaction in progress and nothing sent. -/
theorem request_answers {s : State} {kind tag : Byte} {p : List Byte} {early : Bool} {fits : Nat → Bool}
    {body : State → List Byte → Answer} {a : Answer} (h : s.accepting) (hp : p.length ≤ 250) (hf : fits p.length = true)
    (e : body s.endRead p = a) (hr : a.state.link.reading = none) (hs : a.state.pins.sent = []) :
    whilePowered s (fun s => s.request kind (requestFrame tag p) true early fits body) =
      .next (a.state.replied (kind ||| 0x80) tag a.status.code a.payload) := by
  rw [request_body h hp hf, e, Answer.post_eq_replied _ _ _ hr hs]

/-! ## Two-byte fields of a payload -/

@[simp] theorem numAt_zero_two (a b : Byte) (r : List Byte) : numAt (a :: b :: r) 0 2 = a.toNat + 256 * b.toNat := by
  simp [numAt, ofBytesLE]

@[simp] theorem numAt_one_two (a b c : Byte) (r : List Byte) : numAt (a :: b :: c :: r) 1 2 = b.toNat + 256 * c.toNat := by
  simp [numAt, ofBytesLE]

@[simp] theorem numAt_two_two (a b c d : Byte) (r : List Byte) : numAt (a :: b :: c :: d :: r) 2 2 = c.toNat + 256 * d.toNat := by
  simp [numAt, ofBytesLE]

@[simp] theorem numAt_four_two (a b c d e f : Byte) (r : List Byte) :
    numAt (a :: b :: c :: d :: e :: f :: r) 4 2 = e.toNat + 256 * f.toNat := by
  simp [numAt, ofBytesLE]

/-! ## Codes -/

/-- A number below 256 is the number of its byte. -/
theorem fin_of_byte {k : Nat} (hk : k ≤ 256) {b : Byte} {n : Fin k} (h : b = BitVec.ofNat 8 n.val) :
    ∃ hb : b.toNat < k, n = ⟨b.toNat, hb⟩ := by
  have e8 : b.toNat = n.val := by subst h; simp; omega
  exact ⟨by omega, Fin.ext e8.symm⟩

theorem cueKindOf_code (k : CueKind) : cueKindOf k.code = some k := by cases k <;> rfl

theorem cueKindOf_eq_none {n : Nat} (h : 6 < n) : cueKindOf n = none := by
  unfold cueKindOf
  split <;> first | omega | rfl

theorem cueKindOf_eq_some {n : Nat} {k : CueKind} (h : cueKindOf n = some k) : n = k.code := by
  unfold cueKindOf at h
  split at h <;> simp at h <;> subst h <;> rfl

theorem maskSelOf_code (m : MaskSel) : maskSelOf m.code.toNat = some m := by
  cases m with
  | exact => rfl
  | mask n => revert n; decide

theorem actionOf_code (a : Action) (arg : Byte) (h : ∀ x, a.argument = some x → arg = x) :
    actionOf a.code.toNat arg.toNat = some a := by
  cases a with
  | none => rfl
  | tap => rfl
  | clock => rfl
  | tuner => rfl
  | bind n =>
    have := h _ rfl
    subst this
    revert n
    decide
  | startRecall n =>
    have := h _ rfl
    subst this
    revert n
    decide

theorem sourceOf_code (source : Source) : sourceOf source.code.toNat = some source := by
  cases source with
  | slot n => revert n; decide
  | upload => rfl
  | passthrough => rfl

theorem kindOf_code (k : StageKind) : kindOf k.code = some k := by cases k <;> rfl

theorem inputOf_code (i : InputSel) : inputOf i.code.toNat = some i := by cases i <;> rfl

theorem timingOf_code (t : Timing) : timingOf t.code.toNat = some t := by cases t <;> rfl

theorem timingOverrideOf_byte (t : Option Timing) : timingOverrideOf (timingByte t).toNat = some t := by
  rcases t with _ | t
  · rfl
  · cases t <;> rfl

theorem latchModeOf_code (m : LatchMode) : latchModeOf m.code.toNat = some m := by cases m <;> rfl

theorem tunerModeOf_code (m : TunerMode) : tunerModeOf m.code.toNat = some m := by cases m <;> rfl

theorem tunerSourceOf_code (t : TunerSource) : tunerSourceOf t.code.toNat = some t := by cases t <;> rfl

/-! ## Tables (R9, R11, R13) -/

theorem samplesOf_flatMap (vs : List Int) (h : ∀ v ∈ vs, sampleOk v) : samplesOf (vs.flatMap (bytesSignedLE 3)) = vs := by
  induction vs with
  | nil => rfl
  | cons v vs ih =>
    have hv : (-8388608 : Int) ≤ v ∧ v ≤ (8388607 : Int) := h v (by simp)
    have e := ofBytesSignedLE_bytesSignedLE (n := 3) (v := v) (by norm_num; omega) (by norm_num; omega)
    have : bytesSignedLE 3 v = [(bytesSignedLE 3 v)[0]!, (bytesSignedLE 3 v)[1]!, (bytesSignedLE 3 v)[2]!] := rfl
    simp only [List.flatMap_cons]
    rw [this] at e ⊢
    show ofBytesSignedLE 3 _ :: samplesOf _ = _
    rw [e]
    exact congrArg _ (ih fun w hw => h w (by simp [hw]))

theorem Table.writeFrom_getElem (vs : List Int) (t : Table) (i j : Nat) (hj : j < 257) :
    (Table.writeFrom t i vs)[j] = if i ≤ j ∧ j < i + vs.length then vs.getD (j - i) 0 else t[j] := by
  induction vs generalizing t i with
  | nil => simp [Table.writeFrom]
  | cons v vs ih =>
    simp only [Table.writeFrom]
    split
    · rename_i h
      rw [ih]
      by_cases h1 : i = j
      · subst h1
        simp
      · by_cases h2 : i + 1 ≤ j ∧ j < i + 1 + vs.length
        · have h3 : i ≤ j ∧ j < i + (vs.length + 1) := by omega
          have h4 : j - i = (j - (i + 1)) + 1 := by omega
          rw [if_pos h2, if_pos (by simpa using h3), h4]
          rfl
        · have h3 : ¬(i ≤ j ∧ j < i + (vs.length + 1)) := by omega
          rw [if_neg h2, if_neg (by simpa using h3), Vector.getElem_set_ne (hj := hj) (h := h1)]
    · rename_i h
      rw [if_neg]
      omega

/-- A bank is named exactly by a SHAPER of the playing or the built incoming context, by the bank it reads or the one stored. -/
theorem SceneManager.namesBank_iff (m : SceneManager) (n : Nat) : m.namesBank n = true ↔
    ∃ c, (c = m.playing ∨ m.scene.built = some c) ∧
      ∃ st ∈ c.stages, st.kind = .shaper ∧ (st.current.getD 2 0 = n ∨ st.params.getD 2 0 = n) := by
  simp only [SceneManager.namesBank, Bool.or_eq_true, List.any_eq_true]
  have key : ∀ st : Stage, st.names n = true ↔ st.kind = .shaper ∧ (st.current.getD 2 0 = n ∨ st.params.getD 2 0 = n) := by
    intro st
    simp [Stage.names, Stage.inForce, Stage.value]
  constructor
  · rintro (⟨st, h, hn⟩ | h)
    · exact ⟨_, .inl rfl, st, h, (key st).1 hn⟩
    · cases hb : m.scene.built with
      | none => simp [hb] at h
      | some c =>
        simp only [hb] at h
        obtain ⟨st, h, hn⟩ := List.any_eq_true.1 h
        exact ⟨c, .inr rfl, st, h, (key st).1 hn⟩
  · rintro ⟨c, rfl | hb, st, h, hn⟩
    · exact .inl ⟨st, h, (key st).2 hn⟩
    · right
      simp only [hb]
      exact List.any_eq_true.2 ⟨st, h, (key st).2 hn⟩

end Sys2Proof.Machine
end

