-- ==== Sys2Proof/Tests/Slice0.lean ====
section
/-! SUPPORT. The model's own tests: ill-formed commands refused, the spec's worked examples, single commands, and for every statement
with hypotheses a state and operands that meet them. Expected values are the spec's, or worked by hand from its rules. -/

-- Each kernel evaluation waits for the ones before it, so the tests are elaborated one at a time.
set_option Elab.async false

namespace Sys2Proof.Tests
open Sys2Proof Sys2Proof.Machine

/-! ## Well-formedness and words -/

/-- IDENT's kind is in the catalogue, so it is no unknown kind (R178, R190). -/
theorem test_wellFormed_refuses_known_kind : (Instr.unknownRequest 0x01 ⟨[0, 0, 0]⟩).wellFormed = false := by decide
theorem test_wellFormed_accepts_unknown_kind : (Instr.unknownRequest 0x21 ⟨[0, 0, 0]⟩).wellFormed = true := by decide

/-- A transaction whose first byte is 'W' is not ignored (R176). -/
theorem test_wellFormed_refuses_write_first : (Instr.ignoredTransaction [0x57]).wellFormed = false := by decide
theorem test_wellFormed_refuses_read_first : (Instr.ignoredTransaction [0x52, 0]).wellFormed = false := by decide

/-- The fourth byte of a frame is unmarked (R131). -/
theorem test_wellFormed_refuses_marked_byte : (Instr.controlFrame 0x80).wellFormed = false := by decide

/-- The table gives no row any bits. -/
theorem test_no_word_spells_a_command : decodeTableWord 8 0 = none ∧ decodeTableWord 32 0xFFFFFFFF = none := by decide

/-! ## Worked examples of spec/01 -/

/-- A tie rounds toward plus infinity (3.3). -/
theorem test_round12_tie : round12 (4507192 * 4096 + 2048) = 4507193 := by decide
theorem test_round_negative_tie : divHalfUp (-5) 2 = -2 ∧ divHalfUp 5 2 = 3 := by decide

/-- The gate's first block of 1.8.1: floor(1,024/48) = 21 at sample 0, 1,024 at sample 47. -/
theorem test_gate_ramp_ends : rampAt 0 1024 0 = 21 ∧ rampAt 0 1024 47 = 1024 := by decide

/-- The bank of 1.6.1. -/
def exampleBank : Table := (blankTable.set 184 6000000).set 185 6040000

theorem test_shaper_worked : shaperOut exampleBank 12288 540000 3072 1048576 = (4507193, false) := by decide +kernel

/-- The parameters of 1.8.1: open, close, attack, hold, release, floor. -/
def exampleGate : List Int := [1000000, 500000, 4, 2, 8, 0]

/-- Boundary b1: a peak above open opens the gate toward 1,024. -/
theorem test_gate_opens :
    let g := gateFix exampleGate (gateClose exampleGate { gateAtFloor 0 with peak := 2000000, computed := true })
    g.state = .opening ∧ g.ggStart = 0 ∧ g.ggEnd = 1024 := by decide

/-- Boundary b8: the hold counter reaches 0 and the gate closes from 4,096 to 3,584. -/
theorem test_gate_hold_ends :
    let g := gateHoldEnd exampleGate (gateFix exampleGate (gateClose exampleGate
      { state := .holding, gg := 4096, ggStart := 4096, ggEnd := 4096, hold := 1, peak := 250000, computed := true }))
    g.state = .closing ∧ g.ggEnd = 3584 := by decide

/-- The crossfade and the dip of 1.10.1. -/
theorem test_crossfade_worked : crossfadeMix 1000000 (-200000) 1 96 = 987500 ∧ crossfadeMix 1000000 (-200000) 48 96 = 400000 ∧
    crossfadeMix 1000000 (-200000) 96 96 = -200000 := by decide
theorem test_dip_worked : dipOutMix 1000000 1 24 = 958333 ∧ dipOutMix 1000000 24 24 = 0 ∧ dipInMix (-200000) 1 24 = -8333 ∧
    dipInMix (-200000) 24 24 = -200000 := by decide

/-! ## Worked examples of spec/02, 03, 04 -/

/-- Engage table 0xCC of 2.5: bypassed at latch 0, engaged at latch 1. -/
theorem test_engage_index : (0xCC : BitVec 8).getLsbD (engageIndex false false false) = false ∧
    (0xCC : BitVec 8).getLsbD (engageIndex false true false) = true := by decide

/-- The tone filter and the feedback of 3.2.1 at samples 12,000 to 12,002. -/
theorem test_echo_tone : toneStep 0 4000000 4194304 = 2000000 ∧ round12 (2000000 * 2048) = 1000000 ∧
    toneStep 2000000 0 4194304 = 1000000 ∧ toneStep 1000000 0 4194304 = 500000 := by decide

/-- A SYNC stage at division 3 of B = 23,990 and of B = 24,015 (8.2.1). -/
theorem test_sync_target : targetOffset [1, 1, 3] 23990 = 11995 ∧ targetOffset [1, 1, 3] 24015 = 12007 := by decide

/-- A FIFO that holds n samples. -/
def fifoOf (n : Nat) : List (Nat × Int) := (List.range n).map fun p => (p, 0)

/-- The arbitration of 3.4.1: after W1 with W0 at 16, R1 at 12, W2 at 25, R3 at 6, W2 is granted. -/
theorem test_arbitration_worked :
    let line (read write : Nat) : Line :=
      { lineReset with span := 100000, readFifo := fifoOf read, writeFifo := fifoOf write }
    let d : DelayMemory := { delayReset true [] with
      lines := #v[line 20 16, line 12 0, line 20 25, line 6 0], lastServed := 3 }
    d.nextServed (Vector.replicate 4 (readerAt 50000)) = some 5 := by decide +kernel

/-- The passthrough record passes with cost 2 and no DELAY (R65, R66). -/
theorem test_passthrough_valid : validate (writeRecord passthroughRecord) = .ok 2 0 := by decide +kernel

/-- The kinds of 4.6.1 cost 97, and 95 before the OUTPUT. -/
theorem test_cost_worked :
    ([.gate, .shaper, .shaper, .shaper, .shaper, .delay, .delay, .shaper, .biquad, .shaper, .shaper, .output].map
      StageKind.cost).sum = 97 := by decide

/-- An empty upload buffer fails LENGTH at offset 0 (R73). -/
theorem test_empty_record_fails : validate [] = .bad .length 0 := by decide +kernel

/-! ## Worked examples of spec/07, 08, 09 -/

/-- The values of 7.3.1. -/
theorem test_pedal_values : pedalDefaults.valueOf 40 = 9 ∧ pedalDefaults.valueOf 500 = 499 ∧ pedalDefaults.valueOf 990 = 1022 ∧
    pedalDefaults.valueOf 1000 = 1023 ∧ pedalDefaults.valueOf 600 = 606 := by decide

/-- The end of travel is sent within the deadband (7.3.1, reading 991). -/
theorem test_pedal_end_sent :
    ({ pedalReset pedalDefaults with value := 1022, lastSent := some 1022 }.scan 991).2 = some 1023 := by decide

/-- The binding of 7.3.1: 606 writes 2,426. -/
theorem test_binding_value : mapParam 0 4096 606 = 2426 := by decide

/-- The frame of 7.4.1: unit 5, PROGRAM, index 0, value 37. -/
theorem test_control_frame_worked : frameCue 0xC5 0x00 0x04 0x05 0 = some ⟨5, .program, 0, 37, 0⟩ := by decide

/-- Filter 20 takes it (7.4.1). -/
theorem test_filter_worked : cuesReset.matching ⟨5, .program, 0, 37, 0⟩ = some 20 := by decide +kernel

/-- The taps of 8.2.1 up to 172,020: B is floor(72,020/3). -/
theorem test_taps_worked :
    ((((tempoReset.tap 100000).tap 124100).tap 147900).tap 172020).beat = 24006 := by decide

/-- A run of seven intervals and the eighth of 8.3.1 make 24,005. -/
theorem test_lock_worked :
    let t := { tempoReset with clockLast := some 521020, clockFirst := some 3000, clockCount := 7,
                               clockRun := [3000, 3010, 2990, 3005, 2995, 3000, 3020] }
    (t.clock 524005).lockDue = true ∧ (t.clock 524005).lock.beat = 24005 := by decide

/-- The two crossings of 9.2.1. -/
theorem test_crossings_worked : crossingTime 1000000 65536 40000 90000 = 255999874 ∧
    crossingTime 1000436 65536 20000 80000 = 256111554 := by decide

/-- The A string of 9.4.1 and the biased run of 9.5.1. -/
theorem test_reading_worked : readingOf 111709 tunerDefaults = ⟨45, 0, true, 111709⟩ := by decide +kernel
theorem test_biased_reading : readingOf 110650 tunerDefaults = ⟨45, 165, false, 110650⟩ := by decide +kernel

/-! ## Small states -/

/-- The part as State.reset leaves it, with requests accepted and the memory present. -/
def ready : State :=
  { State.reset with startUp := { startUpReset true with phase := .running }, delay := delayReset true [] }

theorem ready_accepting : ready.accepting := ⟨rfl, by decide⟩
theorem ready_powered : ready.powered := by unfold State.powered; decide

/-- In another phase of start-up, and held by RESETn. -/
def inPhase (p : StartPhase) : State := { State.reset with startUp := { startUpReset true with phase := p } }

/-- The next state of a command. -/
def next (c : Instr) (s : State) : State :=
  match exec c s with
  | .next t => t
  | _ => s

/-- The status byte and payload of the youngest record of the outbound queue. -/
def lastReply (s : State) : Option (Byte × List Byte) := s.link.queue.getLast?.map fun r => (r.status, r.payload)

def withScene (scene : Scene) : State := { ready with scenes := { sceneReset with scene := scene } }
def withEngine (e : WriteEngine) : State := { ready with store := { erasedStore with engine := e } }
def withCue (c : Cue) (f : Filter) : State :=
  { ready with cues := { cuesReset with queue := [c], filters := cuesReset.filters.set 0 f } }

/-- An incoming context of one OUTPUT stage, of recall 1. -/
def incoming : Context := { passthroughContext with number := 1, cost := 2, fade := 2 }

/-- A silent frame with the contacts open. -/
def quietFrame : FrameInputs := { adin := Vector.replicate 4 0, contacts := 0xFF, pedals := Vector.replicate 4 1023 }

/-! ## Single commands -/

/-- SET_LATCH 3 1 answers OK (R26); latch 8 is refused. -/
theorem test_setLatch : (next (.setLatch (requestFrame 7 [3, 1])) ready).latches[3].value = true := by decide +kernel
theorem test_setLatch_refused : lastReply (next (.setLatch (requestFrame 7 [8, 1])) ready) = some (4, []) := by decide +kernel

/-- The IDENT reply of R187: part number 716 is 0x02CC. -/
theorem test_ident : lastReply (next (.ident (requestFrame 0 [])) (inPhase .directory)) =
    some (0, [0xBF, 0xCC, 0x02, 1, 1, 1, 0]) := by decide +kernel

/-- A request before step 9 is refused with NOT_READY (R178). -/
theorem test_not_ready : lastReply (next (.cancel (requestFrame 0 [])) (inPhase .directory)) = some (5, []) := by decide +kernel

/-- A length field above the payload received is refused with BAD_LENGTH (R178). -/
theorem test_bad_length : lastReply (next (.cancel ⟨[0, 1, 0]⟩) ready) = some (2, []) := by decide +kernel

/-- TEMPO_SET of 6,000 stores 12,000, and of 200,000 stores 144,000 (R155). -/
theorem test_tempoSet_clamps : (next (.tempoSet (requestFrame 0 [0x70, 0x17, 0, 0])) ready).tempo.beat = 12000 ∧
    (next (.tempoSet (requestFrame 0 [0x40, 0x0D, 0x03, 0])) ready).tempo.beat = 144000 := by decide +kernel

/-- A RECALL of the passthrough record is recall 1 and ACCEPTED (R82); a bad timing is refused. -/
theorem test_recall : lastReply (next (.recallScene (requestFrame 0 [129, 0, 0, 0])) ready) = some (1, [1]) := by decide +kernel
theorem test_recall_bad_timing : lastReply (next (.recallScene (requestFrame 0 [129, 3, 0, 0])) ready) = some (4, []) := by
  decide +kernel

/-- CANCEL in STEADY is TOO_LATE (R86). -/
theorem test_cancel_steady : lastReply (next (.cancel (requestFrame 0 [])) ready) = some (12, []) := by decide +kernel

/-- The read of a load of the passthrough record reaches its lines with cost 2 (R87, R88, R66). -/
theorem test_loadRead : (next .loadRead (withScene (.loading { incoming with source := .passthrough } .toRead))).scenes.scene.incoming.map
    (·.cost) = some 2 := by decide +kernel

/-- A load with no DELAY stage completes into ARMED (R89, R90). -/
theorem test_loadComplete : (next .loadComplete (withScene (.loading incoming (.lines passthroughRecord)))).scenes.scene.built.isSome =
    true := by decide +kernel

/-- Both contexts cost 2 and F is 2: a crossfade of 96 samples (R95, R19). -/
theorem test_switchPoint : (next .switchPoint (withScene (.armed incoming false))).chain.mixer = ⟨.crossfade, 0, 96⟩ := by
  decide +kernel

/-- EDIT of the passthrough OUTPUT's left gain to 5 (R78); stage 1 does not exist. -/
theorem test_edit : (next (.edit (requestFrame 0 [0, 0, 5, 0, 0, 0])) ready).scenes.playing.stages.map (·.params) = [[5, 4096]] := by
  decide +kernel
theorem test_edit_no_stage : lastReply (next (.edit (requestFrame 0 [1, 0, 5, 0, 0, 0])) ready) = some (7, []) := by decide +kernel

/-- An UPLOAD_CHECK of the empty buffer is INVALID with LENGTH at 0 (R73). -/
theorem test_uploadCheck : lastReply (next (.uploadCheck (requestFrame 0 [])) ready) = some (10, [1, 0, 0]) := by decide +kernel

/-- TABLE_WRITE at index 256 of two entries writes one (R11). -/
theorem test_tableWrite_drops : lastReply (next (.tableWrite (requestFrame 0 [2, 0, 1, 1, 0, 0, 2, 0, 0])) ready) = some (0, [1]) := by
  decide +kernel

/-- A whole read of an empty queue sends 0x00, the status byte and one 0x00 (R176, R180). -/
theorem test_read_nothing : (next (.readRecord (.whole 2)) ready).pins.sent = [0, 0, 0] := by decide +kernel

/-- SEND_CUE stamps the cue with the sample counter and source LINK (R134). -/
theorem test_sendCue : (next (.sendCue (requestFrame 0 [3, 9, 0xFF, 0x03])) { ready with sampleCounter := 77 }).cues.queue =
    [⟨2, .control, 9, 1023, 77⟩] := by decide +kernel

/-- A frame counts one sample and sends 0 while no context is held (R119, R196). -/
theorem test_audioFrame_counts : (next (.audioFrame quietFrame) ready).sampleCounter = 1 := by decide +kernel
theorem test_audioFrame_silent : (next (.audioFrame { quietFrame with adin := #v[5000 <<< 8, 0, 0, 0] }) ready).pins.outL = 0 := by
  decide +kernel

/-- -2 in slot 0 of ADIN, followed by eight bits 1, is IN-A (R196). -/
theorem test_adin : (next (.audioFrame { quietFrame with adin := #v[0xFFFFFEFF, 0x000003FF, 7, 7] }) ready).chain.history[47]? =
    some (-2, 3) := by decide +kernel

/-- A pair on DAOUT: slots 0 and 1 are 0, and each sample stands before eight bits 0, its most significant bit first (R196). -/
theorem test_daout :
    let s : State := { ready with pins := { ready.pins with outL := 1, outR := -8388608 } }
    s.daout = #v[0, 0, 0x100, 0x80000000] ∧ s.daoutBit 2 23 = true ∧ s.daoutBit 2 22 = false ∧ s.daoutBit 3 0 = true ∧
      s.daoutBit 3 24 = false := by decide +kernel

/-- The write burst's sample reaches the memory (R52, R55). -/
theorem test_writeBurst : Memory.sample (next .writeBurstComplete
    { ready with delay := { ready.delay with burst := some (.write 1 [(5, -2)] false) } }).delay.mem 1 5 = -2 := by decide +kernel

/-- A directory scan of erased flash finds no VALID slot (R105). -/
theorem test_directoryScan : (next .directoryScan State.reset).startUp.phase = .setup := by decide +kernel

/-! ## Witnesses: for every statement with hypotheses, states and operands that meet them, clause by clause -/

/-- A state in which requests are accepted, whatever its blocks other than start-up and link hold. -/
theorem accepting_of {s : State} (h : s.startUp.phase = .running ∧ s.link.queue.length < 24) : s.accepting := h

theorem powered_of {s : State} (h : (s.startUp.phase == .held) = false) : s.powered := by
  unfold State.powered
  intro e
  rw [e] at h
  exact absurd h (by decide)

/-! ### The machine, resets and start-up -/

theorem test_witness_StepRunsTheFrontCommand : State.reset.pending = [] := rfl

theorem test_witness_ResetnHoldsAndReleasesThePart :
    State.reset.powered ∧ (inPhase .held).startUp.phase = .held ∧ Instr.dipIn ≠ .resetnRelease :=
  ⟨powered_of rfl, rfl, by decide⟩

/-- A write engine in flight: an ERASE of slot 127. -/
def busy : State := withEngine (.writing (.erase 127) .erasing .empty)

theorem test_witness_ResetRequestResetsUnlessBusy :
    busy.accepting ∧ busy.store.engine ≠ .idle ∧ ready.accepting ∧ ready.store.engine = .idle :=
  ⟨accepting_of ⟨rfl, by decide⟩, by decide +kernel, ready_accepting, rfl⟩

theorem test_witness_DirectoryScanJudgesEverySlot : State.reset.startUp.phase = .directory := rfl

theorem test_witness_SetupLoadTakesTheSetupOrTheDefaults : (inPhase .setup).startUp.phase = .setup := rfl

/-- Step 4 with table slot 0 valid, after RESETn or RESET, with or without a memory. -/
def atBanks (powerOn present : Bool) : State :=
  { inPhase .banks with
    startUp := { startUpReset powerOn with phase := .banks }
    delay := delayReset present []
    store := { erasedStore with tables := erasedStore.tables.set 0 { valid := true, length := 771, entries := blankTable } } }

theorem test_witness_BankLoadFillsEveryBank :
    (atBanks true false).startUp.phase = .banks ∧ (atBanks true false).scenes.scene = .steady ∧
    (atBanks true false).store.tables[0].good = true ∧ (atBanks true false).store.tables[7].good = false ∧
    (atBanks true false).startUp.powerOn = true ∧ (atBanks false true).startUp.powerOn = false ∧
    (atBanks false true).delay.present = true ∧ (atBanks false false).startUp.phase = .banks ∧
    (atBanks false false).scenes.scene = .steady ∧ (atBanks false false).startUp.powerOn = false ∧
    (atBanks false false).delay.present = false ∧ (atBanks false false).scenes.lastRecall = 0 := by
  decide +kernel

/-- After a RESET without a memory DELAY (0x48) and then STARTED (0x49) are posted (R59, R199). -/
theorem test_bankLoad_reports : (next .bankLoad (atBanks false false)).link.queue.map (fun r => (r.kind, r.payload)) =
    [(0x48, [0]), (0x49, [0, 1, 0, 0xFF, 0, 0])] := by decide +kernel

theorem test_witness_MemoryProbeAndClearFinishStartUp :
    (inPhase .probe).startUp.phase = .probe ∧ (inPhase .clear).startUp.phase = .clear ∧ (0x7F : BitVec 8) ≠ 0xFF ∧
    (inPhase .probe).scenes.scene = .steady ∧ (inPhase .probe).scenes.lastRecall = 0 ∧
    Memory.wf (inPhase .probe).delay.mem = true ∧ (7 = 2 * (3 : Fin 4).val + 1 ∧ (131071 : Nat) = 131071) ∧
    (0 : Nat) < 131070 ∧ (131070 : Nat) < 131071 := by
  decide +kernel

/-! ### The audio frame -/

theorem test_witness_AudioFrameCountsAndKeepsItsInputs :
    ready.powered ∧ ready.chain.hasContext = false ∧ ready.chain.handover = false ∧
    (0x000003FF : BitVec 32).extractLsb' 8 24 = (0x00000300 : BitVec 32).extractLsb' 8 24 ∧ ready.outputsOk :=
  ⟨ready_powered, rfl, rfl, by decide, by unfold State.outputsOk sampleOk; decide +kernel⟩

/-- The beat position before the last sample of a beat, and one before that. -/
def atBeat (position : Nat) : State := { ready with tempo := { tempoReset with position := position } }

theorem test_witness_AudioFrameMovesTheBeat :
    (atBeat 23999).powered ∧ (atBeat 23998).powered ∧ (atBeat 23999).scenes.scene = .steady ∧
    (atBeat 23999).tempo.beatDue = false ∧ (atBeat 23999).tempo.clockCount < 8 ∧ (atBeat 23999).tempo.loss ≠ some 0 ∧
    (atBeat 23999).tempo.beat ≤ (atBeat 23999).tempo.position + 1 ∧ ¬(atBeat 23998).tempo.beat ≤ (atBeat 23998).tempo.position + 1 :=
  ⟨powered_of rfl, powered_of rfl, by decide +kernel⟩

/-- The passthrough context at rest, fully engaged. -/
def fullStage : Stage := { passthroughStage with target := true, m := 256 }
def playingNow : State :=
  { ready with
    chain := { ready.chain with hasContext := true }
    scenes := { sceneReset with playing := { passthroughContext with stages := [fullStage] } } }

theorem test_witness_PassthroughIsHeard48FramesLater :
    playingNow.powered ∧ sampleOk (playingNow.chain.history.headD (0, 0)).1 ∧ playingNow.chain.history.length = 48 ∧
    playingNow.chain.hasContext = true ∧
    playingNow.chain.mixer.phase = .single ∧ playingNow.scenes.scene = .steady ∧ playingNow.scenes.trails = [] ∧
    playingNow.tuner.mode ≠ .mute ∧ playingNow.scenes.playing.input = .a ∧ playingNow.scenes.playing.stages = [fullStage] ∧ fullStage.kind = .output ∧
    fullStage.engage = 0x55 ∧ fullStage.default = false ∧ fullStage.params = [4096, 4096] ∧ fullStage.current = [4096, 4096] ∧
    fullStage.previous = [4096, 4096] ∧ fullStage.m = 256 ∧ fullStage.target = true ∧
    playingNow.latches[fullStage.latch].value = false :=
  ⟨powered_of rfl, by unfold sampleOk; decide +kernel, by decide +kernel⟩

theorem test_witness_BlockBoundaryTakesParametersAndTargets :
    playingNow.powered ∧ playingNow.sampleCounter.toNat % 48 = 0 ∧ playingNow.chain.boundaryTaken = false ∧
    playingNow.scenes.scene = .steady ∧ playingNow.chain.mixer.phase = .single ∧ playingNow.chain.hasContext = true ∧
    ({ ready with sampleCounter := 47 } : State).sampleCounter.toNat % 48 ≠ 0 ∧ playingNow.scenes.playing.stages[0]? = some fullStage :=
  ⟨powered_of rfl, by decide +kernel⟩

/-- The passthrough context at a boundary with flags 3 and main raised in the block just ended. -/
def clipped : State := { ready with chain := { ready.chain with stageClip := 8, mainClip := true, clipRose := true } }

theorem test_witness_BlockBoundaryTakesParametersAndTargets_levels :
    clipped.powered ∧ clipped.sampleCounter.toNat % 48 = 0 ∧ clipped.chain.boundaryTaken = false ∧
    clipped.chain.blockClosed = false ∧ clipped.scenes.scene = .steady ∧ clipped.chain.mixer.phase = .single ∧
    clipped.chain.clipRose = true ∧ clipped.chain.stageClip.toNat + 4096 ≠ 0 ∧ clipped.link.mask.getLsbD 3 = true ∧
    ready.chain.clipRose = false ∧ ready.chain.levelsCatchUp = false :=
  ⟨powered_of rfl, by decide +kernel⟩

/-! ### Stage arithmetic -/

/-- A gate that waits for GATE_HOLD_END, alone in the playing or in the incoming context. -/
def heldGate : GateRun := { state := .holding, gg := 4096, ggStart := 4096, ggEnd := 4096, hold := 0, peak := 0, computed := false }
def gateStage (g : GateRun) : Stage :=
  { passthroughStage with kind := .gate, params := exampleGate, current := exampleGate, previous := exampleGate, run := .gate g }
def gateContext (g : GateRun) : Context := { passthroughContext with stages := [gateStage g] }
def gatePlaying (g : GateRun) : State := { ready with scenes := { sceneReset with playing := gateContext g } }
def gateIncoming (g : GateRun) : State := withScene (.crossfade (gateContext g) none)

theorem test_witness_GateStatesGainsAndHoldEnd :
    (gatePlaying heldGate).powered ∧ (gateIncoming heldGate).powered ∧
    (gatePlaying heldGate).scenes.playing.stages[0]? = some (gateStage heldGate) ∧
    (gateIncoming heldGate).scenes.scene = .crossfade (gateContext heldGate) none ∧
    (gateStage heldGate).run = .gate heldGate ∧ heldGate.state = .holding ∧ heldGate.hold = 0 ∧ heldGate.computed = false ∧
    ({ heldGate with computed := true } : GateRun).computed = true ∧ (gateAtFloor 0).state ≠ .holding ∧
    (1 : Int) ≤ 1 ∧ ({ heldGate with state := .opened, peak := 499999 } : GateRun).peak < 500000 :=
  ⟨powered_of rfl, powered_of rfl, by decide +kernel⟩

/-- The same GATE with a fresh start, one bypassed at rest, and one whose own ramp is up. -/
def gateAt (m : Nat) (target : Bool) : Stage := { gateStage heldGate with m := m, target := target }

theorem test_witness_GateStatesGainsAndHoldEnd_sample :
    (gateAt 0 true).kind = .gate ∧ (gateAt 0 true).run = .gate heldGate ∧ (gateAt 0 true).stepRamp.m ≠ 0 ∧
    (gateAt 0 false).stepRamp.m = 0 ∧ (gateAt 256 true).stepRamp.m ≠ 0 ∧ (gateAt 256 true).m ≠ 0 := by decide +kernel

/-- A fully engaged gate held at unity passes its sample and keeps its magnitude as the peak (R15, R16). -/
theorem test_gate_sample : ((gateAt 256 true).render ready.chain.banks 47 ⟨ready.delay, ready.readers⟩ (-5000)).out = -5000 ∧
    ((gateAt 256 true).render ready.chain.banks 47 ⟨ready.delay, ready.readers⟩ (-5000)).stage.run =
      .gate { heldGate with peak := 5000, computed := true } := by decide +kernel

/-- An edit of the release after the boundary does not reach the block: the closing gate still goes from 4,096 to 3,584 (R3, R16). -/
theorem test_holdEnd_keeps_block : ({ gateStage heldGate with params := [1000000, 500000, 4, 2, 1, 0] } : Stage).holdEnd.run =
    .gate { heldGate with state := .closing, ggEnd := 3584 } := by decide +kernel

theorem test_witness_GainAndEngageRampKeepTheirEnds :
    sampleOk 8388607 ∧ sampleOk (-8388607) ∧ (-8388607 : Int) ≠ sampleMin ∧ fullStage.m ≤ 256 ∧ (256 : Nat) ≤ 256 ∧ (3 : Int) ≤ 3 :=
  ⟨by unfold sampleOk; decide, by unfold sampleOk; decide, by decide⟩

/-- A GAIN stage at half, ramped from unity, and a BIQUAD stage. -/
def gainStage : Stage :=
  { fullStage with kind := .gain, params := [2048, 0], current := [2048, 0], previous := [4096, 0] }
def biquadStage : Stage :=
  { fullStage with kind := .biquad, params := [4194304, 0, 0, 0, 0], current := [4194304, 0, 0, 0, 0], run := .biquad ⟨0, 0, 0, 0⟩ }

theorem test_witness_GainAndEngageRampKeepTheirEnds_samples :
    gainStage.kind = .gain ∧ gainStage.run = .none ∧ biquadStage.kind = .biquad ∧ biquadStage.run = .biquad ⟨0, 0, 0, 0⟩ ∧
    biquadStage.stepRamp.m ≠ 0 ∧ ({ biquadStage with m := 0, target := false } : Stage).stepRamp.m = 0 ∧ (47 : Nat) ≤ 47 := by
  decide +kernel

/-- The ramp of R5 from 4,096 to 2,048: 3,072 at sample 23, which takes 4,000 to 3,000, and 2,048 at sample 47. -/
theorem test_gain_ramp : gainStage.rampedAt 0 23 = 3072 ∧ gainStage.rampedAt 0 47 = 2048 ∧
    (gainStage.render ready.chain.banks 23 ⟨ready.delay, ready.readers⟩ 4000).out = 3000 := by decide +kernel

theorem test_witness_IdentityCurvePassesSamples :
    sampleOk 8323071 ∧ (8323071 : Int) < 8323072 ∧ sampleOk 8323072 ∧ sampleOk 8388607 ∧ sampleOk (-8388608) :=
  ⟨by unfold sampleOk; decide, by decide, by unfold sampleOk; decide, by unfold sampleOk; decide, by unfold sampleOk; decide⟩

/-- A dip of F = 1 at sample k of its OUT phase. -/
def inDip (k : Nat) : State := { ready with chain := { ready.chain with mixer := { phase := .dipOut, k := k, length := 24 } } }

theorem test_witness_MixerEndsAndDipIn :
    (inDip 24).powered ∧ (inDip 23).powered ∧ (inDip 24).chain.mixer.phase = .dipOut ∧
    (inDip 24).chain.mixer.length ≤ (inDip 24).chain.mixer.k ∧ (inDip 23).chain.mixer.k < (inDip 23).chain.mixer.length ∧
    (0 : Nat) < 96 ∧ (96 : Nat) ≤ 96 ∧ fullStage.kind = .output ∧ fullStage.run = .none ∧ ready.chain.hasContext = false ∧
    playingNow.chain.hasContext = true ∧ playingNow.chain.mixer.phase = .single :=
  ⟨powered_of rfl, powered_of rfl, by decide +kernel⟩

/-! ### Delay memory and trails -/

def withBurst (b : Burst) : State := { ready with delay := { ready.delay with burst := some b } }

theorem test_witness_BurstCompletionsMoveTheirSamples :
    (withBurst (.read 3 [131071])).powered ∧ (withBurst (.read 3 [131071])).delay.burst = some (.read 3 [131071]) ∧
    (withBurst (.write 0 [(1, 5)] true)).delay.burst = some (.write 0 [(1, 5)] true) ∧
    (∀ e ∈ [((1 : Nat), (5 : Int))], 2 < sampleAddress 0 e.1 ∨ sampleAddress 0 e.1 + 3 ≤ 2) ∧
    (withBurst (.write 0 [(1, 5), (2, -5)] false)).delay.burst = some (.write 0 [(1, 5), (2, -5)] false) ∧
    Memory.wf (withBurst (.write 0 [(1, 5), (2, -5)] false)).delay.mem = true ∧
    [((1 : Nat), (5 : Int)), (2, -5)].Pairwise (fun e f => e.1 ≠ f.1) ∧
    (∀ e ∈ [((1 : Nat), (5 : Int)), (2, -5)], sampleMin ≤ e.2 ∧ e.2 ≤ sampleMax) ∧ ready.delay.burst = none :=
  ⟨powered_of rfl, by decide +kernel⟩

/-- A line whose reader wants samples from the memory. -/
def hungry : DelayMemory := { delayReset true [] with lines := Vector.replicate 4 { lineReset with span := 100000 } }
def readers : Vector Reader 4 := Vector.replicate 4 (readerAt 50000)

theorem test_witness_ArbiterServesUrgentFirstInRingOrder :
    hungry.burst = none ∧ hungry.ringRequest readers 0 = some true ∧ hungry.ringRequest readers 1 = none ∧
    (withBurst (.read 3 [131071])).delay.burst ≠ none ∧ (64 : Int) < 65 ∧ (readerAt 65).age = some 65 ∧
    (readerAt 64).age = some 64 ∧ (lineReset.fetchable (readerAt 65)).length = 16 ∧
    (({ lineReset with window := [7], wp := 10 } : Line).fetchable (readerAt 70)).length = 16 ∧ ∀ i : Fin 8, ready.delay.ringRequest (Vector.replicate 4 Reader.idle) i = none := by
  decide +kernel

theorem test_witness_DelayMemoryReadsWhatWasWritten :
    Memory.wf [(0, 1), (1572863, 2)] = true ∧ sampleOk (-8388608) ∧ (131071 : Nat) < 131072 ∧
    ((0 : Fin 4), (131071 : Nat)) ≠ ((1 : Fin 4), (0 : Nat)) ∧
    (let ln : Line := { lineReset with wp := 3, span := 100, readFifo := [(131010, 7)] }
     (ln.span : Int) < 101 ∧ (64 : Int) ≤ ln.span ∧ (64 : Int) < 65 ∧ (65 : Int) ≤ ln.span ∧
       (131010 : Int) = ((ln.wp : Int) - 65) % 131072 ∧ (131010 : Int) ≠ ((ln.wp : Int) - 66) % 131072) :=
  ⟨by decide, by unfold sampleOk; decide, by decide⟩

/-- A trail of a line in a state, with its accounts. -/
def trail (line : Fin 4) (state : TrailState) (age quiet : Nat) : Trail :=
  { line := line, offset := 100, w := 0, r := 0, tone := 0, feedback := 0, wet := 4096, gainL := 4096, gainR := 4096,
    state := state, age := age, quiet := quiet, peak := 0 }
def withTrails (ts : List Trail) : State := { ready with scenes := { sceneReset with trails := ts } }

theorem test_witness_TrailsEndByThemselvesAndAfterTheirFade :
    (withTrails [trail 0 .running 0 0, trail 1 .running 0 48, trail 2 (.cutting 256) 0 0]).powered ∧
    (withTrails [trail 0 .running 0 0, trail 1 .running 0 48, trail 2 (.cutting 256) 0 0]).scenes.trails =
      [trail 0 .running 0 0] ++ trail 1 .running 0 48 :: [trail 2 (.cutting 256) 0 0] ∧
    (∀ u ∈ [trail 0 .running 0 0] ++ [trail 2 (.cutting 256) 0 0], u.line ≠ (trail 1 .running 0 48).line) ∧
    (trail 1 .running 0 48).state = .running ∧ 48 ≤ (trail 1 .running 0 48).quiet ∧ 10000 ≤ (trail 3 .running 10000 0).age ∧
    (trail 2 (.cutting 256) 0 0).state = .cutting 256 ∧ (trail 2 (.cutting 255) 0 0).state = .cutting 255 ∧
    (trail 2 .cutWait 0 0).state = .cutWait :=
  ⟨powered_of rfl, by decide +kernel⟩

/-! ### Latches and cues -/

theorem test_witness_LatchRequests :
    ready.accepting ∧ (7 : Byte).toNat < 8 ∧ (1 : Byte).toNat ≤ 1 ∧ 7 < (8 : Byte).toNat ∧ 1 < (2 : Byte).toNat :=
  ⟨ready_accepting, by decide⟩

/-- A SWITCH_DOWN of switch 0, and filters for it. -/
def press : Cue := { source := 0, kind := .switchDown, index := 0, value := 1023, stamp := 0 }
def filterFor (a : Action) (copy : Bool) : Filter := { enable := true, identifier := 0, mask := .exact, action := a, copy := copy }
def cueState (a : Action) (copy : Bool) : State := withCue press (filterFor a copy)
def noFilter : State := withCue { press with source := 9 } (filterFor .none false)
def fullFifo : State :=
  { cueState .none true with
    cues := { (cueState .none true).cues with fifo := List.replicate 32 { cue := press, filter := 0 } } }

theorem test_witness_CueTakenHandlesTheHead :
    (cueState .none false).powered ∧ (cueState .none false).cues.queue = [press] ∧
    (cueState .none false).cues.matching press = some 0 ∧ (cueState .none false).cues.filters[0].action = .none ∧
    (cueState .none false).cues.filters[0].copy = false ∧ (cueState .none true).cues.filters[0].copy = true ∧
    (cueState .none true).cues.fifo.length < 32 ∧ fullFifo.cues.matching press = some 0 ∧ 32 ≤ fullFifo.cues.fifo.length ∧
    noFilter.cues.matching { press with source := 9 } = none :=
  ⟨powered_of rfl, by decide +kernel⟩

/-- The same with an edit context that has one binding. -/
def bound (b : Binding) : State :=
  { cueState (.bind 15) false with scenes := { sceneReset with playing := { passthroughContext with bindings := [b] } } }

/-- The same with slot 5 VALID in the directory. -/
def storedSlot : Store :=
  { erasedStore with directory := erasedStore.directory.set 5 (some { length := 33, name := [] }) }

theorem test_witness_CueActionsAreCarriedOut_recall :
    (cueState (.startRecall 5) false).powered ∧ (cueState (.startRecall 5) false).cues.filters[0].action = .startRecall 5 ∧
    (cueState (.startRecall 5) false).cues.matching press = some 0 ∧
    (cueState (.startRecall 5) false).store.directory[5] = none ∧ storedSlot.directory[5].isSome = true ∧
    127 < (127 : Fin 128).val + (1 : BitVec 10).toNat :=
  ⟨powered_of rfl, by decide +kernel⟩

/-- A clock run with seven intervals, the last clock at 0 and P1 = 3,000. -/
def clockRunning : State :=
  { cueState .clock false with
    tempo := { tempoReset with clockLast := some 0, clockFirst := some 3000, clockRun := [3000], clockCount := 1 } }

theorem test_witness_CueActionsAreCarriedOut_tempo_and_tuner :
    (cueState .tap false).cues.filters[0].action = .tap ∧ (cueState .clock false).cues.filters[0].action = .clock ∧
    clockRunning.tempo.clockCount < 7 ∧ clockRunning.tempo.clockLast = some 0 ∧ clockRunning.tempo.clockFirst = some 3000 ∧
    max 3187 3000 - min 3187 3000 ≤ 3000 / 16 ∧ 3000 / 16 < max 3188 3000 - min 3188 3000 ∧
    clockRunning.tempo.clockRun.length < 8 ∧ (cueState .clock false).tempo.clockLast = none ∧
    ({ clockRunning.tempo with clockFirst := none } : Tempo).clockFirst = none ∧ (cueState .tuner false).cues.filters[0].action = .tuner := by
  decide +kernel

/-- The same run one interval before its eighth, of 3,000 or of 1,499 samples each, unlocked or locked, and with eight held. -/
def clockEighth (p : Nat) (locked : Bool) : State :=
  { cueState .clock false with
    tempo := { tempoReset with
      clockLast := some 0, clockFirst := some p, clockRun := List.replicate 7 p, clockCount := 7, locked := locked } }
def clockHolding : Tempo := { (clockEighth 3000 true).tempo with clockRun := List.replicate 8 3000, clockCount := 0 }

theorem test_witness_CueActionsAreCarriedOut_eighth :
    (clockEighth 3000 false).cues.filters[0].action = .clock ∧ (clockEighth 3000 false).tempo.clockCount < 8 ∧
    (clockEighth 3000 false).tempo.clockCount = 7 ∧ (clockEighth 3000 false).tempo.locked = false ∧
    (clockEighth 3000 true).tempo.locked = true ∧ (clockEighth 3000 false).tempo.clockFirst = some 3000 ∧
    beatOk (List.replicate 7 3000 ++ [3187]).sum ∧ (clockEighth 1499 false).tempo.clockFirst = some 1499 ∧
    max 1499 1499 - min 1499 1499 ≤ 1499 / 16 ∧ ¬beatOk (List.replicate 7 1499 ++ [1499]).sum ∧
    8 ≤ clockHolding.clockRun.length ∧ clockHolding.clockCount < 7 := by
  unfold beatOk
  decide +kernel

/-- Eight intervals of 1,499 make 11,992, which is no beat: the run is empty and its last clock is kept (R151). -/
theorem test_clock_no_beat : ((clockEighth 1499 false).tempo.clock 1499).clockRun = [] ∧
    ((clockEighth 1499 false).tempo.clock 1499).clockFirst = none ∧
    ((clockEighth 1499 false).tempo.clock 1499).clockLast = some 1499 := by decide +kernel

theorem test_witness_CueActionsAreCarriedOut_bind :
    (bound ⟨15, .param 0 1 0 4096⟩).powered ∧ (bound ⟨15, .param 0 1 0 4096⟩).cues.matching press = some 0 ∧
    (bound ⟨15, .param 0 1 0 4096⟩).cues.filters[0].action = .bind 15 ∧
    (bound ⟨15, .param 0 1 0 4096⟩).scenes.scene.built = none ∧
    (bound ⟨15, .param 0 1 0 4096⟩).scenes.playing.stages[0]? = some passthroughStage ∧
    (paramSpecs .output)[1]? = some ⟨0, 65535, 6, 2, false, true⟩ ∧ passthroughStage.kind ≠ .gate ∧
    (bound ⟨14, .latch 0 .set⟩).scenes.playing.bindings = [⟨14, .latch 0 .set⟩] ∧
    (bound ⟨15, .latch 7 .momentary⟩).scenes.playing.bindings = [⟨15, .latch 7 .momentary⟩] :=
  ⟨powered_of rfl, by decide +kernel⟩

/-- A GATE alone in the playing context, with bindings to its thresholds; an armed context; a copying filter. -/
def boundGate : State :=
  { cueState (.bind 15) true with
    scenes := { sceneReset with playing := { passthroughContext with
      stages := [gateStage (gateAtFloor 0)], bindings := [⟨15, .param 0 0 0 4096⟩, ⟨15, .param 0 1 0 4096⟩] } } }
def armedRecall : State :=
  { cueState (.startRecall 5) false with
    scenes := { sceneReset with scene := .armed incoming false }
    store := storedSlot }

theorem test_witness_CueActionsAreCarriedOut_copy_gate_armed :
    boundGate.powered ∧ boundGate.cues.queue = [press] ∧ boundGate.cues.matching press = some 0 ∧
    boundGate.cues.filters[0].copy = true ∧ boundGate.cues.fifo.length < 32 ∧ 32 ≤ fullFifo.cues.fifo.length ∧
    (boundGate.scenes.scene.built.getD boundGate.scenes.playing).stages[0]? = some (gateStage (gateAtFloor 0)) ∧
    1 < (paramSpecs .gate).length ∧ (gateStage (gateAtFloor 0)).params.length = (paramSpecs .gate).length ∧
    press.kind = .switchDown ∧ (gateStage (gateAtFloor 0)).kind = .gate ∧ armedRecall.powered ∧
    armedRecall.cues.matching press = some 0 ∧ armedRecall.cues.filters[0].copy = false ∧
    armedRecall.store.directory[(5 : Fin 128)].isSome = true ∧ armedRecall.scenes.scene = .armed incoming false :=
  ⟨powered_of rfl, by decide +kernel, by decide +kernel, by decide +kernel, by decide +kernel, by decide +kernel,
    by decide +kernel, by decide, by decide +kernel, by decide, rfl, powered_of rfl, by decide +kernel⟩

/-- Binding 0 to the open threshold takes the close threshold down with it, then binding 1 is held below open (R14, R139). -/
theorem test_bindings_in_order : (next .cueTaken boundGate).scenes.playing.stages.map (·.params) = [[4096, 4096, 4, 2, 8, 0]] := by
  decide +kernel

/-- Switch 7 with a debounce or a hold completed. -/
def switchDue (sw : Switch) (queue : List Cue) : State :=
  { ready with cues := { cuesReset with switches := cuesReset.switches.set 7 sw, queue := queue } }
def pressedNow : Switch := { switchReset with state := .released, count := 384, last := some true, debounceDue := true }
def heldNow : Switch := { switchReset with state := .pressed, holdRunning := true, hold := 28800, holdDue := true }

theorem test_witness_SwitchEventsMakeTheirCues :
    (switchDue pressedNow []).powered ∧ (switchDue pressedNow []).cues.switches[7].debounceDue = true ∧
    (∀ j : Fin 8, j < 7 → (switchDue pressedNow []).cues.switches[j].debounceDue = false ∧
      (switchDue pressedNow []).cues.switches[j].holdDue = false) ∧
    (switchDue heldNow []).cues.switches[7].holdDue = true ∧ pressedNow.state = .released ∧ pressedNow.last = some true ∧
    (switchDue pressedNow (List.replicate 15 press)).cues.queue.length < 16 ∧
    16 ≤ (switchDue pressedNow (List.replicate 16 press)).cues.queue.length ∧
    (switchDue pressedNow []).cues.switches[0].debounceDue = false ∧ ready.startUp.phase = .running ∧
    (∀ i : Fin 8, ready.cues.switches[i].debounceDue = false ∧ ready.cues.switches[i].holdDue = false) :=
  ⟨powered_of rfl, by decide +kernel⟩

/-! ### Scenes -/

/-- A queued recall of the passthrough record. -/
def queued : QueuedRecall := incoming.asQueued
def slotValid : State := { ready with store := storedSlot }

theorem test_witness_RecallActsBySceneState :
    ready.accepting ∧ slotValid.accepting ∧ 129 < (130 : Byte).toNat ∧ 2 < (3 : Byte).toNat ∧ (1 : Byte) ≠ 0 ∧
    ¬((0xFF : Byte) = 0xFF ∧ (1 : Byte) = 0xFF) ∧ ready.store.directory[127] = none ∧
    slotValid.store.directory[5].isSome = true ∧ (withScene (.armed incoming false)).scenes.scene = .armed incoming false ∧
    (withScene (.crossfade incoming (some queued))).scenes.scene = .crossfade incoming (some queued) ∧
    (withScene (.dip incoming none)).scenes.scene = .dip incoming none :=
  ⟨ready_accepting, accepting_of ⟨rfl, by decide⟩, by decide +kernel⟩

theorem test_witness_CancelActsBySceneState :
    (withScene (.loading incoming .toRead)).accepting ∧ (withScene (.armed incoming true)).accepting ∧
    (withScene (.crossfade incoming (some queued))).accepting ∧ (withScene (.dip incoming (some queued))).accepting ∧
    (withScene (.dip incoming none)).accepting :=
  ⟨accepting_of ⟨rfl, by decide⟩, accepting_of ⟨rfl, by decide⟩, accepting_of ⟨rfl, by decide⟩, accepting_of ⟨rfl, by decide⟩,
    accepting_of ⟨rfl, by decide⟩⟩

/-- A load of a source, in its first step. -/
def loading (source : Source) : State := withScene (.loading { incoming with source := source } .toRead)
/-- The same of slot 5, VALID, while an ERASE of slot 7 of its bank is in flight; and of a STORE of slot 5 itself. -/
def loadingBusy (op : StoreOp) (image : WriteImage) : State :=
  { loading (.slot 5) with store := { storedSlot with engine := .writing op .erasing image } }
/-- A record with one DELAY stage: with lines FREE, and with four cutting trails. -/
def delayStageEntry : StageEntry :=
  { kind := .delay, engage := 0xFF, latch := 0, default := false, params := [0, 12000, 0, 2048, 4194304, 4096, 4096, 0, 1] }
def delayRecord : Record := { passthroughRecord with stages := delayStageEntry :: passthroughRecord.stages }
def loadingDelay (trails : List Trail) (holder : Holder) : State :=
  { loading .upload with
    upload := writeRecord delayRecord
    scenes := { (loading .upload).scenes with trails := trails }
    delay := { delayReset true [] with lines := Vector.replicate 4 { lineReset with holder := holder } } }

theorem test_witness_LoadReadValidatesItsRecord :
    (loading (.slot 5)).powered ∧ (loading (.slot 5)).store.directory[5] = none ∧
    (loadingBusy (.erase 7) .empty).loadWaits 5 ∧ (loadingBusy (.store 5) (.preset [1])).loadReads (.slot 5) [1] ∧
    (loading .upload).loadReads .upload [] ∧ validate [] = .bad .length 0 ∧
    (loading .passthrough).loadReads .passthrough (writeRecord passthroughRecord) ∧
    validate (writeRecord passthroughRecord) = .ok 2 0 :=
  ⟨powered_of rfl, by decide +kernel, ⟨by decide +kernel, .erase 7, .erasing, .empty, rfl, by decide, by decide⟩,
    ⟨by decide +kernel, by simp [loadingBusy]⟩, rfl, by decide +kernel, rfl, by decide +kernel⟩

theorem test_witness_LoadReadValidatesItsRecord_lines :
    (loadingDelay [] .free).powered ∧ (loadingDelay [] .free).loadReads .upload (writeRecord delayRecord) ∧
    validate (writeRecord delayRecord) = .ok 14 1 ∧ (1 : Nat) ≠ 0 ∧ (loadingDelay [] .free).delay.present = true ∧
    1 ≤ (loadingDelay [] .free).delay.freeLines ∧ (loadingDelay [trail 0 .running 0 0] .trail).delay.freeLines < 1 ∧
    1 ≤ (loadingDelay [] .cutting).delay.freeLines + (loadingDelay [] .cutting).delay.cuttingLines :=
  ⟨powered_of rfl, rfl, by decide +kernel⟩

/-- A DELAY stage with a line and one without (R59). -/
theorem test_witness_GainAndEngageRampKeepTheirEnds_delay :
    (delayStageEntry.build (some 2) 24000).kind = .delay ∧ (delayStageEntry.build (some 2) 24000).run = .delay ⟨12000, 0, some 2, 0⟩ ∧
    (delayStageEntry.build none 24000).run = .delay ⟨12000, 0, none, 0⟩ := by decide +kernel

/-- Four running trails hold the four lines when the load of a record with one DELAY stage reads it. -/
def loadingCut : State :=
  loadingDelay [trail 0 .running 0 0, trail 1 .running 0 0, trail 2 .running 0 0, trail 3 .running 0 0] .trail

theorem loadingCut_linesOk : loadingCut.linesOk := by
  refine ⟨?_, ?_, ?_, ?_, ?_⟩
  · intro l n
    match n with
    | 0 => fin_cases l <;> simp [loadingCut, loadingDelay, loading, withScene, sceneReset, passthroughContext, passthroughStage,
        Stage.lineOffset]
    | n + 1 => fin_cases l <;> simp [loadingCut, loadingDelay, loading, withScene, sceneReset, passthroughContext]
  · intro l n
    fin_cases l <;> simp [loadingCut, loadingDelay, loading, withScene, Scene.built]
  · intro l
    fin_cases l <;> simp [loadingCut, loadingDelay, trail]
  · intro l
    fin_cases l <;> simp [loadingCut, loadingDelay, trail]
  · simp [loadingCut, loadingDelay, trail]

theorem test_witness_LoadReadValidatesItsRecord_cut :
    loadingCut.powered ∧ loadingCut.linesOk ∧ loadingCut.delay.present = true ∧ loadingCut.delay.freeLines < 1 ∧
    loadingCut.delay.freeLines + loadingCut.delay.cuttingLines < 1 ∧ runningTrails loadingCut.scenes.trails ≠ 0 :=
  ⟨powered_of rfl, loadingCut_linesOk, by decide +kernel⟩

/-- The oldest running trail is cut, and its line is CUTTING (R89, R100). -/
theorem test_load_cuts_oldest : (next .loadRead loadingCut).scenes.trails.map (·.state) = [.cutWait, .running, .running, .running] ∧
    (next .loadRead loadingCut).delay.lines[0].holder = .cutting := by decide +kernel

/-- A validated load of the record with one DELAY stage, with four lines free or held. -/
def linesState (holder : Holder) : State :=
  { withScene (.loading { incoming with cost := 14, delays := 1 } (.lines delayRecord)) with
    delay := { delayReset true [] with lines := Vector.replicate 4 { lineReset with holder := holder } } }

theorem test_witness_LoadCompleteArmsTheContext :
    (linesState .free).powered ∧ (linesState .trail).powered ∧
    (linesState .free).scenes.scene = .loading { incoming with cost := 14, delays := 1 } (.lines delayRecord) ∧
    (linesState .free).delay.present = true ∧ (linesState .trail).delay.freeLines < 1 ∧
    1 ≤ (linesState .free).delay.freeLines ∧ delayRecord.stages[0]? = some delayStageEntry ∧
    (∀ e ∈ passthroughRecord.stages, e.kind ≠ .delay) ∧ delayStageEntry.kind = .delay ∧
    1 = (delayRecord.stages.filter fun e => e.kind = .delay).length ∧
    (delayStageEntry.build (some 0) 24000).lineOffset = some (0, 12000) :=
  ⟨powered_of rfl, powered_of rfl, by decide +kernel⟩

/-- The load takes line 0, the lowest-numbered FREE one (R38, R89). -/
theorem test_load_allocates : (next .loadComplete (linesState .free)).delay.lines[0].holder = .incoming 0 ∧
    (next .loadComplete (linesState .free)).delay.lines[1].holder = .free := by decide +kernel

/-- An armed context of a given cost, fade and timing, with trails. -/
def armed (cost : Nat) (fade : BitVec 8) (timing : Timing) (beat : Bool) (trails : List Trail) : State :=
  { withScene (.armed { incoming with cost := cost, fade := fade, timing := timing } beat) with
    scenes := { (withScene (.armed { incoming with cost := cost, fade := fade, timing := timing } beat)).scenes with trails := trails } }
def fourTrails : List Trail := [trail 0 .running 0 0, trail 1 .running 0 0, trail 2 .running 0 0, trail 3 .running 0 0]

theorem test_witness_SwitchPointChoosesTheMode :
    (armed 2 0 .now false []).powered ∧ (armed 2 0 .beat false []).scenes.scene =
      .armed { incoming with fade := 0, timing := .beat } false ∧
    (armed 2 0 .beat false []).tempo.beatDue = false ∧ (armed 2 0 .now false []).sampleCounter.toNat % 48 = 0 ∧ (armed 2 0 .now false []).chain.boundaryTaken = false ∧
    (incoming.parts.tempo = none ∧ incoming.parts.latches = none) ∧
    (armed 2 0 .now false []).scenes.playing.cost + 126 + 6 * runningTrails [] ≤ 128 ∧
    (armed 126 1 .now false fourTrails).scenes.playing.cost + 126 ≤ 128 ∧ fourTrails.length ≤ 4 ∧
    128 < (armed 127 1 .now false []).scenes.playing.cost + 127 :=
  ⟨powered_of rfl, by decide +kernel⟩

/-- A DELAY stage that holds line 2, with its trail bit as given. -/
def oldDelay (trailBit : Int) : Stage :=
  { delayStageEntry.build (some 2) 24000 with params := [0, 12000, 0, 2048, 4194304, 4096, 4096, 0, trailBit] }

/-- A state with a scene and a mixer position, whose playing context has that DELAY stage before its OUTPUT. -/
def handing (trailBit : Int) (scene : Scene) (mixer : Mixer) : State :=
  { withScene scene with
    chain := { ready.chain with hasContext := true, mixer := mixer }
    scenes := { (withScene scene).scenes with
      playing := { passthroughContext with stages := [oldDelay trailBit, passthroughStage] } }
    delay := { delayReset true [] with lines := (delayReset true []).lines.set 2 { lineReset with holder := .playing 0 } } }

/-- A crossfade at its last sample. -/
def switchDone (trailBit : Int) (q : Option QueuedRecall) : State := handing trailBit (.crossfade incoming q) ⟨.crossfade, 96, 96⟩

theorem handing_linesOk (b : Int) (scene : Scene) (m : Mixer) (hb : ∀ c, scene.built = some c → c.stages = [passthroughStage]) :
    (handing b scene m).linesOk := by
  refine ⟨?_, ?_, ?_, ?_, ?_⟩
  · intro l n
    match n with
    | 0 => fin_cases l <;> simp [handing, oldDelay, StageEntry.build, builtRun, delayStageEntry, Stage.lineOffset, delayReset, lineReset]
    | 1 => fin_cases l <;> simp [handing, passthroughStage, Stage.lineOffset, delayReset, lineReset]
    | n + 2 => fin_cases l <;> simp [handing, delayReset, lineReset]
  · intro l n
    constructor
    · fin_cases l <;> simp [handing, delayReset, lineReset]
    · rintro ⟨c, st, o, h, hs, hl⟩
      have hst : c.stages = [passthroughStage] := hb c h
      match n with
      | 0 =>
        obtain rfl : passthroughStage = st := by simpa [hst] using hs
        simp [passthroughStage, Stage.lineOffset] at hl
      | n + 1 => simp [hst] at hs
  · intro l
    fin_cases l <;> simp [handing, withScene, sceneReset, delayReset, lineReset]
  · intro l
    fin_cases l <;> simp [handing, withScene, sceneReset, delayReset, lineReset]
  · simp [handing, withScene, sceneReset]

theorem switchDone_linesOk (b : Int) (q : Option QueuedRecall) : (switchDone b q).linesOk :=
  handing_linesOk b _ _ fun c h => by cases h; rfl

/-- A CUT's switch point, with the old context's DELAY stage in place. -/
def cutting (trailBit : Int) : State := handing trailBit (.armed { incoming with fade := 0 } false) ⟨.single, 0, 0⟩

theorem test_witness_SwitchPointChoosesTheMode_cut :
    (cutting 1).powered ∧ (cutting 1).scenes.scene = .armed { incoming with fade := 0 } false ∧
    (cutting 1).sampleCounter.toNat % 48 = 0 ∧ (cutting 1).chain.boundaryTaken = false ∧
    ({ incoming with fade := 0 } : Context).timing = .now ∧ ({ incoming with fade := 0 } : Context).parts.tempo = none ∧
    ({ incoming with fade := 0 } : Context).parts.latches = none ∧ (cutting 1).linesOk ∧ (cutting 0).linesOk ∧
    oldDelay 1 ∈ (cutting 1).scenes.playing.stages ∧ (oldDelay 1).lineOffset = some (2, 12000) ∧ (oldDelay 1).value 8 = 1 ∧
    (oldDelay 0).value 8 ≠ 1 ∧ (oldDelay 1).run = .delay ⟨12000, 0, some 2, 0⟩ :=
  ⟨powered_of rfl, rfl, by decide +kernel, rfl, rfl, rfl, rfl, handing_linesOk 1 _ _ (fun c h => by cases h; rfl),
    handing_linesOk 0 _ _ (fun c h => by cases h; rfl), by decide +kernel⟩

/-- The CUT makes one trail of line 2, or gives the line up (R98). -/
theorem test_cut_trails : (next .switchPoint (cutting 1)).scenes.trails.map (·.line) = [2] ∧
    (next .switchPoint (cutting 0)).delay.lines[2].holder = .free := by decide +kernel

/-- A crossfade, the two phases of a dip and a steady scene, from the context with a DELAY stage. -/
def steadyDelay : State := handing 1 .steady ⟨.single, 0, 0⟩
def midCrossfade : State := handing 1 (.crossfade incoming none) ⟨.crossfade, 95, 96⟩
def midDip (phase : MixPhase) (k : Nat) : State := handing 1 (.dip incoming none) ⟨phase, k, 96⟩

theorem midDip_linesOk (phase : MixPhase) (k : Nat) : (midDip phase k).linesOk := handing_linesOk 1 _ _ fun c h => by cases h; rfl

theorem test_witness_BlockBoundaryTakesParametersAndTargets_contexts :
    steadyDelay.powered ∧ steadyDelay.linesOk ∧ steadyDelay.chain.mixer.phase = .single ∧ steadyDelay.scenes.scene = .steady ∧
    midCrossfade.powered ∧ midCrossfade.linesOk ∧ (midDip .dipOut 48).powered ∧ (midDip .dipOut 48).linesOk ∧
    (midDip .dipOut 49).linesOk ∧ (midDip .dipIn 95).powered ∧ (midDip .dipIn 95).linesOk ∧
    midCrossfade.sampleCounter.toNat % 48 = 0 ∧ midCrossfade.chain.boundaryTaken = false ∧ midCrossfade.chain.hasContext = true ∧
    midCrossfade.chain.mixer.k < midCrossfade.chain.mixer.length ∧ midCrossfade.scenes.scene = .crossfade incoming none ∧
    midCrossfade.chain.mixer.phase = .crossfade ∧ (midDip .dipOut 48).scenes.scene = .dip incoming none ∧
    (midDip .dipOut 49).chain.mixer.phase = .dipOut ∧ (midDip .dipIn 95).chain.mixer.phase = .dipIn ∧
    (∃ l : Fin 4, ∀ n, steadyDelay.delay.lines[l].holder ≠ .playing n) ∧
    (oldDelay 1).lineOffset = some (2, 12000) ∧ (oldDelay 1).run = .delay ⟨12000, 0, some 2, 0⟩ ∧
    (gateStage heldGate).run = .gate heldGate :=
  ⟨powered_of rfl, handing_linesOk 1 _ _ (fun c h => nomatch h), rfl, rfl, powered_of rfl,
    handing_linesOk 1 _ _ (fun c h => by cases h; rfl), powered_of rfl, midDip_linesOk _ _, midDip_linesOk _ _, powered_of rfl,
    midDip_linesOk _ _, by decide +kernel, rfl, rfl, by decide +kernel, rfl, rfl, rfl, rfl, rfl,
    ⟨0, fun n h => nomatch h⟩, by decide +kernel⟩

/-- With G = 100 a boundary takes the offset from 12,000 toward 13,000 by 100, and the read FIFO is emptied (R42, R51). -/
def gliding : State :=
  { steadyDelay with
    scenes := { steadyDelay.scenes with playing := { passthroughContext with
      stages := [{ oldDelay 1 with params := [0, 13000, 0, 2048, 4194304, 4096, 4096, 100, 1] }, passthroughStage] } }
    delay := { steadyDelay.delay with lines := steadyDelay.delay.lines.set 2 { lineReset with holder := .playing 0, readFifo := fifoOf 3 } } }

theorem test_boundary_glides : (next .blockBoundary gliding).scenes.playing.stages.map (·.run) = [.delay ⟨12100, 0, some 2, 0⟩, .none] ∧
    (next .blockBoundary gliding).delay.lines[2].readFifo = [] := by decide +kernel

/-- The built incoming context, which the crossfade and the IN phase render. -/
theorem test_witness_MixerEndsAndDipIn_contexts :
    midCrossfade.chain.hasContext = true ∧ midCrossfade.scenes.scene.built = some incoming ∧ midCrossfade.chain.mixer.phase = .crossfade ∧
    (midDip .dipIn 95).scenes.scene.built = some incoming ∧ (midDip .dipIn 95).chain.mixer.phase = .dipIn ∧
    (midDip .dipOut 48).chain.mixer.phase = .dipOut := by decide +kernel

theorem test_witness_SwitchEndHandsOverToTheIncomingContext :
    (switchDone 1 (some queued)).powered ∧ (switchDone 0 none).linesOk ∧ (switchDone 1 (some queued)).linesOk ∧
    (switchDone 1 (some queued)).scenes.scene = .crossfade incoming (some queued) ∧
    (switchDone 1 none).chain.mixer.phase = .crossfade ∧ (switchDone 1 none).chain.mixer.length ≤ (switchDone 1 none).chain.mixer.k ∧
    oldDelay 1 ∈ (switchDone 1 none).scenes.playing.stages ∧ (oldDelay 1).lineOffset = some (2, 12000) ∧
    (oldDelay 1).value 8 = 1 ∧ (oldDelay 0).value 8 ≠ 1 ∧ (oldDelay 1).run = .delay ⟨12000, 0, some 2, 0⟩ ∧
    (switchDone 1 none).scenes.playing.stages = [oldDelay 1] ++ [passthroughStage] ∧ passthroughStage.kind = .output ∧
    (∀ x ∈ [oldDelay 1], x.kind ≠ .output) :=
  ⟨powered_of rfl, switchDone_linesOk 0 none, switchDone_linesOk 1 _, by decide +kernel⟩

/-- A GATE alone in the built incoming context, where an EDIT acts. -/
def editState : State := withScene (.armed (gateContext (gateAtFloor 0)) false)

theorem test_witness_EditAndGetParamActOnTheEditContext :
    editState.accepting ∧ ready.accepting ∧ (editState.scenes.scene.built.getD editState.scenes.playing).stages.length ≤ (1 : Byte).toNat ∧
    (editState.scenes.scene.built.getD editState.scenes.playing).stages[0]? = some (gateStage (gateAtFloor 0)) ∧
    (paramSpecs .gate).length ≤ (6 : Byte).toNat ∧ (19 : Byte).toNat ≠ 18 ∧ (5 : Byte).toNat < (paramSpecs .gate).length ∧
    (paramSpecs .gate)[5]? = some ⟨0, 4096, 13, 2, false, false⟩ ∧ 5 < (gateStage (gateAtFloor 0)).params.length ∧
    (gateStage (gateAtFloor 0)).params = 1000000 :: 500000 :: [4, 2, 8, 0] ∧ (gateStage (gateAtFloor 0)).kind = .gate ∧
    (-2147483648 : Int) ≤ -2147483648 ∧ (2147483647 : Int) ≤ 2147483647 :=
  ⟨accepting_of ⟨rfl, by decide⟩, ready_accepting, by decide +kernel⟩

/-! ### Preset store, upload buffer and banks -/

theorem test_witness_StoreFixesTheRecordAndStartsTheWrite :
    ready.accepting ∧ busy.accepting ∧ 127 < (128 : Byte).toNat ∧ 1 < (2 : Byte).toNat ∧ (127 : Byte).toNat ≤ 127 ∧
    busy.store.engine ≠ .idle ∧ (127 : Byte) = BitVec.ofNat 8 (127 : Fin 128).val ∧ ready.store.engine = .idle ∧
    ready.upload = [] ∧ validate [] = .bad .length 0 ∧
    (validate (writeRecord (Context.record (ready.scenes.scene.built.getD ready.scenes.playing)))).isOk = true :=
  ⟨ready_accepting, accepting_of ⟨rfl, by decide⟩, by decide +kernel⟩

theorem test_witness_EraseAndSavesStartTheirWrites :
    ready.accepting ∧ busy.accepting ∧ 127 < (128 : Byte).toNat ∧ 7 < (8 : Byte).toNat ∧ (128 : Byte) ≠ 0xFF ∧
    (7 : Byte) = BitVec.ofNat 8 (7 : Fin 8).val ∧ (0xFF : Byte) = presetByte none ∧ (127 : Byte) = presetByte (some 127) :=
  ⟨ready_accepting, accepting_of ⟨rfl, by decide⟩, by decide⟩

def writing (op : StoreOp) (phase : WritePhase) (image : WriteImage) : State := withEngine (.writing op phase image)
def waiting : State :=
  { loading (.slot 5) with
    store := { storedSlot with engine := .writing (.erase 7) .programming .empty }
    scenes := { (loading (.slot 5)).scenes with scene := .loading { incoming with source := .slot 5 } .waiting } }

theorem test_witness_FlashCompletionsEndTheWrite :
    (writing (.erase 0) .erasing .empty).powered ∧
    (writing (.erase 0) .erasing .empty).store.engine = .writing (.erase 0) .erasing .empty ∧
    (writing (.store 127) .programming (.preset [1])).store.engine = .writing (.store 127) .programming (.preset [1]) ∧
    (∀ c, ready.scenes.scene ≠ .loading c .waiting) ∧ waiting.powered ∧
    waiting.store.engine = .writing (.erase 7) .programming .empty ∧
    waiting.scenes.scene = .loading { incoming with source := .slot 5 } .waiting :=
  ⟨powered_of rfl, rfl, rfl, (by intro c h; exact nomatch h), powered_of rfl, rfl, rfl⟩

theorem test_witness_ReadSlotAndListShowTheStore :
    ready.accepting ∧ slotValid.accepting ∧ 1024 < (1 : Byte).toNat + 256 * (4 : Byte).toNat ∧
    (0 : Byte).toNat + 256 * (4 : Byte).toNat ≤ 1024 ∧ (240 : Byte).toNat ≤ 240 ∧ 240 < (241 : Byte).toNat ∧
    ready.store.directory[5] = none ∧ slotValid.store.directory[5] = some { length := 33, name := [] } ∧
    (loadingBusy (.erase 7) .empty).store.engine = .writing (.erase 7) .erasing .empty ∧ (StoreOp.erase 7).bank = 5 % 2 ∧
    (StoreOp.erase 6).bank ≠ 5 % 2 ∧ 127 < (128 : Byte).toNat ∧ (127 : Byte).toNat ≤ 127 :=
  ⟨ready_accepting, accepting_of ⟨rfl, by decide⟩, by decide +kernel⟩

/-- A SHAPER of the playing context names bank 3. -/
def shaperStage : Stage := { passthroughStage with kind := .shaper, params := [4096, 0, 3, 4096], current := [4096, 0, 3, 4096] }
def shaperPlaying : State :=
  { ready with scenes := { sceneReset with playing := { passthroughContext with stages := [shaperStage, passthroughStage] } } }

theorem test_witness_IdentityCurvePassesSamples_stage :
    shaperStage.kind = .shaper ∧ shaperStage.run = .none ∧ shaperStage.current.getD 2 0 = ((3 : Fin 8).val : Int) ∧
    ({ shaperStage with current := [4096, 0, 7, 4096] } : Stage).current.getD 2 0 = ((7 : Fin 8).val : Int) := by decide +kernel

theorem test_witness_TableWriteAndReadActOnTheBank :
    shaperPlaying.accepting ∧ (∀ v ∈ [sampleMin, 0, sampleMax], sampleOk v) ∧ [sampleMin, 0, sampleMax].length ≤ 80 ∧
    7 < (8 : Byte).toNat ∧ 256 < (1 : Byte).toNat + 256 * (1 : Byte).toNat ∧ (0 : Byte).toNat + 256 * (1 : Byte).toNat ≤ 256 ∧
    (7 : Byte) = BitVec.ofNat 8 (7 : Fin 8).val ∧ shaperStage ∈ shaperPlaying.scenes.playing.stages ∧
    shaperStage.kind = .shaper ∧ shaperStage.params.getD 2 0 = 3 ∧ shaperPlaying.scenes.namesBank 7 = false ∧
    80 < (81 : Byte).toNat ∧ (80 : Byte).toNat ≤ 80 :=
  ⟨accepting_of ⟨rfl, by decide⟩, by unfold sampleOk; decide, by decide +kernel⟩

/-- An upload buffer of 1,000 bytes, and of the passthrough record. -/
def uploaded (bs : List Byte) : State := { ready with upload := bs }

theorem test_witness_UploadBufferRequests :
    ready.accepting ∧ (uploaded (List.replicate 1000 0)).accepting ∧
    (uploaded (List.replicate 1000 0)).upload.length + (List.replicate 24 (0 : Byte)).length ≤ 1024 ∧
    1024 < (uploaded (List.replicate 1000 0)).upload.length + (List.replicate 25 (0 : Byte)).length ∧
    validate (uploaded (writeRecord passthroughRecord)).upload = .ok 2 0 ∧ validate (uploaded []).upload = .bad .length 0 :=
  ⟨ready_accepting, accepting_of ⟨rfl, by decide⟩, by decide +kernel⟩

/-! ### Scanners, control port and cue requests -/

/-- A scan that waits at pedal 3, PLUGGED or UNPLUGGED after four readings. -/
def scanWaits (plugged : Bool) (settings : PedalSettings) : State :=
  { ready with cues := { cuesReset with
      pedals := cuesReset.pedals.set 3 { pedalReset settings with plugged := plugged, run := 4, raw := 600 }, scanAt := some 3 } }
def flat : PedalSettings := { pedalDefaults with lo := 500, hi := 500 }

theorem test_witness_PedalScansAndPlugChanges :
    (pedalReset pedalDefaults).plugged = true ∧ (1015 : Nat) < 1016 ∧ pedalDefaults.lo ≠ pedalDefaults.hi ∧ flat.lo = flat.hi ∧
    pedalDefaults.lo < pedalDefaults.hi ∧ pedalDefaults.lo ≤ 991 ∧ 991 ≤ pedalDefaults.hi ∧
    ({ pedalReset pedalDefaults with plugged := false } : Pedal).plugged = false ∧ ready.startUp.phase = .running ∧
    ready.cues.countdown = 0 ∧ ready.cues.scanAt = none ∧ ready.cues.queue.length + 4 ≤ 16 ∧
    (∀ i : Fin 4, ready.cues.pedals[i].settings.enabled = true →
      (ready.cues.pedals[i].scan ready.pins.pedals[i].toNat).1.run < 4) := by
  decide +kernel

theorem test_witness_PedalScansAndPlugChanges_plug :
    (scanWaits true pedalDefaults).powered ∧ (scanWaits true pedalDefaults).cues.scanAt = some 3 ∧
    4 ≤ (scanWaits true pedalDefaults).cues.pedals[3].run ∧ (scanWaits true pedalDefaults).cues.pedals[3].plugged = true ∧
    (∀ j : Fin 4, 3 < j → (scanWaits true pedalDefaults).cues.pedals[j].settings.enabled = false) ∧
    (scanWaits false pedalDefaults).cues.pedals[3].plugged = false ∧ (scanWaits false pedalDefaults).cues.queue.length < 16 ∧
    (scanWaits false flat).cues.pedals[3].settings.lo = (scanWaits false flat).cues.pedals[3].settings.hi :=
  ⟨powered_of rfl, by decide +kernel⟩

/-- A control-port receiver with part of a frame. -/
def received (bs : List Byte) : State := { ready with cues := { cuesReset with frame := bs } }

theorem test_witness_ControlPortAssemblesFrames :
    (received [0xC5, 0, 4]).startUp.phase = .running ∧ (0x80 : Byte).msb = true ∧ (0x7F : Byte).msb = false ∧
    (received []).cues.frame = [] ∧ (received [0xC5]).cues.frame ≠ [] ∧ (received [0xC5, 0]).cues.frame.length < 3 ∧
    (received [0xC5, 0, 4]).cues.frame = [0xC5, 0, 4] ∧ (0xC2 : Byte).toNat % 16 < 3 ∧ (0xF5 : Byte).toNat / 16 % 8 = 7 ∧
    3 ≤ (0xC3 : Byte).toNat % 16 ∧ (0xC5 : Byte).toNat / 16 % 8 = CueKind.program.code ∧
    (received [0xC5, 0, 4]).cues.queue.length < 16 ∧ (inPhase .clear).startUp.phase ≠ .running ∧
    3 ≤ (15 : BitVec 4).toNat ∧ (127 : BitVec 8).toNat < 128 := by
  decide +kernel

/-- A full cue input queue with two cues of pedal 2. -/
def pedalQueue : List Cue :=
  List.replicate 10 press ++ [⟨1, .control, 2, 5, 0⟩] ++ List.replicate 2 press ++ ⟨1, .control, 2, 6, 0⟩ :: List.replicate 2 press

theorem test_witness_PedalScansAndPlugChanges_queue :
    pedalQueue = (List.replicate 10 press ++ [⟨1, .control, 2, 5, 0⟩] ++ List.replicate 2 press) ++
      ⟨1, .control, 2, 6, 0⟩ :: List.replicate 2 press ∧ 16 ≤ pedalQueue.length ∧
    (∀ e ∈ List.replicate 2 press, e.source ≠ 1 ∨ e.index ≠ 2) ∧ (∀ d ∈ pedalQueue, d.source ≠ 1 ∨ d.index ≠ 3) ∧
    press.source ≠ 1 ∧ cuesReset.queue.length < 16 := by decide +kernel

/-- The youngest cue of the pedal gives way (R133). -/
theorem test_pedal_cue_replaced : ({ cuesReset with queue := pedalQueue }.enqueue ⟨1, .control, 2, 9, 4⟩).queue[13]? =
    some ⟨1, .control, 2, 9, 4⟩ := by decide +kernel

def fullQueue : State := { ready with cues := { cuesReset with queue := List.replicate 16 press } }

theorem test_witness_CueUnitRequests :
    ready.accepting ∧ fullQueue.accepting ∧ 6 < (7 : Byte).toNat ∧ 1023 < (0 : Byte).toNat + 256 * (4 : Byte).toNat ∧
    (0xFF : Byte).toNat + 256 * (3 : Byte).toNat ≤ 1023 ∧ 16 ≤ fullQueue.cues.queue.length ∧
    (6 : Byte) = BitVec.ofNat 8 CueKind.tap.code ∧ 23 < (24 : Byte).toNat ∧ 4 < (5 : Byte).toNat ∧ 5 < (6 : Byte).toNat ∧
    15 < (16 : Byte).toNat ∧ (4 : Byte) = MaskSel.exact.code ∧ (2 : Byte) = (Action.startRecall 127).code ∧
    (Action.startRecall 127).argument = some 127 ∧ 3 < (4 : Byte).toNat ∧ 8 < (9 : Byte).toNat ∧ 32 < (33 : Byte).toNat ∧
    (8 : Byte).toNat ≤ 8 ∧ (32 : Byte).toNat ≤ 32 :=
  ⟨ready_accepting, accepting_of ⟨rfl, by decide⟩, by decide +kernel⟩

theorem test_witness_ScannerRequests :
    ready.accepting ∧ (1 : Byte).toNat < 2 ∧ 40 < (41 : Byte).toNat ∧ 2000 < (0xD1 : Byte).toNat + 256 * (7 : Byte).toNat ∧
    2 ≤ (2 : Byte).toNat ∧ (40 : Byte).toNat ≤ 40 ∧ 300 ≤ (0x2C : Byte).toNat + 256 * (1 : Byte).toNat ∧
    (0xD0 : Byte).toNat + 256 * (7 : Byte).toNat ≤ 2000 ∧ 3 < (4 : Byte).toNat ∧ 1 < (2 : Byte).toNat ∧
    1023 < (0 : Byte).toNat + 256 * (4 : Byte).toNat ∧ 32 < (33 : Byte).toNat ∧ 20 < (21 : Byte).toNat ∧
    (3 : Byte) = BitVec.ofNat 8 (3 : Fin 4).val ∧ (32 : Byte).toNat ≤ 32 ∧ (20 : Byte).toNat ≤ 20 ∧ ready.cues.scanAt = none :=
  ⟨ready_accepting, by decide +kernel⟩

/-! ### Tempo and tuner -/

def withTempo (t : Tempo) : State := { ready with tempo := t }
def lockedTempo : Tempo := { tempoReset with locked := true, source := .clock, clockCount := 8, clockRun := List.replicate 8 3000 }

theorem test_witness_TempoRequests :
    (withTempo lockedTempo).accepting ∧ ready.accepting ∧ (4294967295 : Nat) < 4294967296 ∧
    (withTempo lockedTempo).tempo.locked = true ∧ ready.tempo.locked = false ∧
    (withTempo { tempoReset with source := .link }).tempo.source = .link :=
  ⟨accepting_of ⟨rfl, by decide⟩, ready_accepting, by decide +kernel⟩

theorem test_witness_TapsAndTempoEventsTakeEffect :
    lockedTempo.locked = true ∧ tempoReset.locked = false ∧ tempoReset.tapLast = none ∧
    ({ tempoReset with tapLast := some 5 } : Tempo).tapLast = some 5 ∧ ((12004 : Stamp) - 5).toNat < 12000 ∧
    12000 ≤ ((12005 : Stamp) - 5).toNat ∧ ((144005 : Stamp) - 5).toNat ≤ 144000 ∧ 144000 < ((144006 : Stamp) - 5).toNat ∧
    ({ tempoReset with tapRun := [24000, 24000, 24000] } : Tempo).tapRun.length < 4 ∧
    ({ tempoReset with tapRun := [1, 2, 3, 4] } : Tempo).tapRun = [1, 2, 3, 4] := by
  decide +kernel

theorem test_witness_TapsAndTempoEventsTakeEffect_events :
    (withTempo lockedTempo).powered ∧ (withTempo lockedTempo).tempo.clockCount = 8 ∧
    (withTempo { lockedTempo with locked := false }).tempo.locked = false ∧ beatOk lockedTempo.clockRun.sum ∧
    (withTempo { tempoReset with loss := some 0 }).tempo.loss = some 0 ∧
    ({ armed 2 0 .beat false [] with tempo := { tempoReset with beatDue := true } } : State).tempo.beatDue = true ∧
    ready.tempo.beatDue = false ∧ ready.tempo.loss ≠ some 0 ∧ ready.tempo.clockCount ≠ 8 :=
  ⟨powered_of rfl, rfl, rfl, by unfold beatOk; decide +kernel, by decide +kernel⟩

def withTuner (t : Tuner) : State := { ready with tuner := t }
def tuning : Tuner := { tunerReset with mode := .silent, measure := .seeking, loss := some 0, count := 4, sum := 442600, first := some 107490 }

theorem test_witness_TunerRequests :
    ready.accepting ∧ (4294967295 : Nat) < 4294967296 ∧ 1 < (2 : Byte).toNat ∧ 2 < (3 : Byte).toNat ∧ (0 : Byte).toNat = 0 ∧
    (1 : Byte) = TunerSource.b.code ∧ (2 : Byte) = TunerMode.mute.code ∧ (1 : Byte) = TunerMode.silent.code ∧
    TunerMode.silent ≠ .off ∧ ready.tuner.mode = .off ∧ (withTuner tuning).tuner.mode ≠ .off :=
  ⟨ready_accepting, by decide +kernel⟩

/-- A reading with offset 30, reported in tune within a window of 50; within a window of 20 it is not in tune. -/
def offPitch : Reading := ⟨45, 30, true, 111709⟩
def tracked : State :=
  withTuner { tunerReset with settings := { tunerDefaults with window := 50 }, mode := .silent, measure := .tracking,
                              latest := some offPitch, reported := .reading offPitch }

theorem test_witness_TunerRequests_settings :
    tracked.accepting ∧ (∀ old, ready.tuner.reported ≠ .reading old) ∧ tracked.tuner.mode = .silent ∧ tracked.tuner.latest = some offPitch ∧
    tracked.tuner.reported = .reading offPitch ∧ tracked.tuner.settings.window ≠ 20 ∧ tracked.link.mask.getLsbD 2 = true ∧
    offPitch.inTune ≠ decide (offPitch.cents.natAbs ≤ 20) ∧ offPitch.inTune = decide (offPitch.cents.natAbs ≤ 40) ∧
    ready.tuner.latest = none ∧ TunerSource.a ≠ TunerSource.b ∧ tracked.tuner.settings.runLength ≠ 2 ∧
    (tracked.tuner.mode = .off ↔ TunerMode.mute = .off) ∧ ¬(tracked.tuner.mode = .off ∧ TunerMode.mute ≠ .off) ∧
    tracked.tuner.settings.window = 50 :=
  ⟨accepting_of ⟨rfl, by decide⟩, (fun _ h => nomatch h), by decide +kernel⟩

/-- SILENT to MUTE leaves the measurement as it stood (R159). -/
theorem test_tuner_mute : ((withTuner tuning).setTuner tuning.settings .mute).tuner = { tuning with mode := .mute } := by decide +kernel

/-- A tuner whose y is about to reach the threshold, with a crossing at sample 0 and one period of 12,288 in the run. -/
def crossing : Tuner :=
  { tunerReset with mode := .silent, measure := .seeking, y := 65000, lastCrossing := some 0, first := some 12288, count := 1,
                    sum := 12288 }

theorem test_witness_TunerEventsMakeReadings_sample :
    crossing.mode ≠ .off ∧ crossing.positive = false ∧ crossing.settings.threshold ≤ crossing.y + (80000 - crossing.y) / 8 ∧
    ¬crossing.y + (80000 - crossing.y) / 8 ≤ -crossing.settings.threshold ∧ crossing.lastCrossing = some 0 ∧
    crossing.first = some 12288 ∧ tunerReset.mode = .off ∧ ({ crossing with lastCrossing := none } : Tuner).lastCrossing = none ∧
    ({ crossing with first := none } : Tuner).first = none ∧ tracked.tuner.loss ≠ some 0 ∧
    tracked.tuner.count < tracked.tuner.settings.runLength := by
  decide +kernel

/-- The crossing at sample 48 falls 73/256 of the way from sample 47: 12,105 is within a sixteenth of 12,288 (R166, R168). -/
theorem test_tuner_sample_joins_run : (crossing.sample 48 (80000, 0)).count = 2 ∧
    (crossing.sample 48 (80000, 0)).lastCrossing = some 12105 := by decide +kernel

theorem test_witness_TunerEventsMakeReadings :
    (withTuner tuning).powered ∧ (withTuner tuning).tuner.mode ≠ .off ∧
    (withTuner tuning).tuner.settings.runLength ≤ (withTuner tuning).tuner.count ∧ (withTuner tuning).tuner.loss = some 0 ∧
    (withTuner tuning).tuner.reported ≠ .noSignal ∧ (withTuner tuning).link.enabled .tuner = true ∧
    ({ withTuner tuning with link := linkReset 0 } : State).link.enabled .tuner = false ∧
    (withTuner { tuning with count := 3 }).tuner.count < (withTuner tuning).tuner.settings.runLength ∧
    (8778 : Nat) ≤ 8778 ∧ (614400 : Nat) ≤ 614400 ∧ 4300 ≤ tunerDefaults.reference ∧ tunerDefaults.reference ≤ 4500 :=
  ⟨powered_of rfl, by decide +kernel⟩

/-! ### The host link -/

/-- An outbound queue of n replies. -/
def queueOf (n : Nat) : State :=
  { ready with link := { linkReset maskDefault with queue := List.replicate n { kind := 0x81, tag := 0, status := 0, payload := [] } } }

theorem test_witness_LinkTransactions :
    ready.powered ∧ (queueOf 24).link.queue.length ≤ 24 ∧ ([] : List Byte).head? ≠ some 0x57 ∧
    [(0x51 : Byte)].head? ≠ some 0x57 ∧ [(0x51 : Byte)].head? ≠ some 0x52 ∧ ready.link.reading = none ∧ ready.pins.sent = [] ∧
    [(0x04 : Byte), 7, 0].length < 4 :=
  ⟨ready_powered, by decide +kernel⟩

theorem test_witness_LinkTransactions_reports :
    (ReportKind.cues, 4) ∈ [(ReportKind.scene, 0), (.storeDone, 1), (.tuner, 2), (.levels, 3), (.cues, 4), (.pedal, 5), (.tempo, 6),
      (.delay, 7), (.started, 8)] ∧ (linkReset 0).mask.getLsbD 4 = false ∧ ready.link.mask.getLsbD 4 = true ∧
    ready.link.mask.getLsbD 0 = true ∧ ReportKind.scene ≠ .tuner ∧ ReportKind.scene ≠ .levels ∧ ReportKind.scene ≠ .cues ∧
    (queueOf 21).link.queue.length ≤ 21 ∧ 22 ≤ (queueOf 22).link.queue.length := by decide +kernel

/-- The 22nd record of the queue may be a report, the 23rd not; an empty queue asserts no ATTN (R184, R185). -/
theorem test_posting : ((queueOf 21).link.post .pedal 0 []).queue.length = 22 ∧ ((queueOf 22).link.post .pedal 0 []).queue.length = 22 ∧
    ((queueOf 22).link.post .pedal 0 []).lost = true ∧ ready.attn = false ∧ (queueOf 1).attn = true := by decide +kernel

/-- The bytes after a 'W' are the frame (R177, R194); after an 'R' each byte clocks one byte out (R180). -/
theorem test_transactions : transactionOf [0x57, 4, 7, 0, 0] = .request 4 ⟨[7, 0, 0]⟩ ∧ transactionOf [0x57, 4, 7, 0] = .incomplete ∧
    transactionOf [0x52, 0, 0] = .read 2 ∧ transactionOf [0x58] = .ignored ∧ transactionOf [] = .ignored ∧
    (⟨[7, 3, 1]⟩ : Frame).length = 259 ∧ (⟨[7, 2, 0, 5, 6]⟩ : Frame).payload = [5, 6] := by decide

theorem test_witness_EveryRequestIsDroppedOrAnsweredOnce :
    (queueOf 24).powered ∧ (queueOf 23).powered ∧ requestOf (.cancel ⟨[7, 0, 0]⟩) = some (4, ⟨[7, 0, 0]⟩) ∧
    (⟨[7, 0]⟩ : Frame).bytes.length < 3 ∧ (queueOf 23).startUp.phase = .running ∧ (1 : Byte).toNat + 256 * (0 : Byte).toNat = [(0 : Byte)].length ∧ 24 ≤ (queueOf 24).link.queue.length ∧ (queueOf 23).link.queue.length < 24 ∧
    (251 : Byte).toNat + 256 * (0 : Byte).toNat = (List.replicate 251 (0 : Byte)).length ∧
    250 < (251 : Byte).toNat + 256 * (0 : Byte).toNat ∧ (0 : Byte).toNat + 256 * (1 : Byte).toNat ≠ 0 ∧
    requestOf (.unknownRequest 33 ⟨[7, 0, 0]⟩) = some (33, ⟨[7, 0, 0]⟩) ∧ 32 < (33 : Byte).toNat ∧ (32 : Byte).toNat ≤ 32 ∧
    (inPhase .probe).startUp.phase ≠ .running :=
  ⟨powered_of rfl, powered_of rfl, by decide +kernel⟩

/-- TABLE_WRITE takes 3 to 243 bytes, CANCEL none (R190). -/
theorem test_catalogueLength : ¬catalogueLength 0x14 2 ∧ catalogueLength 0x14 243 ∧ ¬catalogueLength 0x04 1 := by
  simp [catalogueLength]

/-- A cue FIFO at the watermark and a mask with CUES and LEVELS off. -/
def reportsOff : State :=
  { ready with
    link := linkReset 0
    cues := { cuesReset with fifo := [{ cue := press, filter := 0 }] } }

theorem test_witness_IdentStatusAndReports :
    (inPhase .directory).powered ∧ (queueOf 23).powered ∧ (queueOf 23).link.queue.length < 24 ∧ (1 : Byte) ≠ 0 ∧
    reportsOff.accepting ∧ 1 < (2 : Byte).toNat ∧ (1 : Byte).toNat ≤ 1 ∧ reportsOff.link.mask.getLsbD 4 = false ∧
    (BitVec.ofNat 16 ((0xFF : Byte).toNat + 256 * (1 : Byte).toNat)).getLsbD 4 = true ∧
    reportsOff.cues.watermark ≤ reportsOff.cues.fifo.length ∧ ready.cues.fifo.length < ready.cues.watermark ∧
    ready.link.mask.getLsbD 2 = true ∧ reportsOff.link.mask.getLsbD 2 = false ∧
    (BitVec.ofNat 16 ((0xFF : Byte).toNat + 256 * (1 : Byte).toNat)).getLsbD 2 = true ∧ tracked.tuner.latest = some offPitch ∧
    reportsOff.tuner.latest = none ∧ reportsOff.tuner.reported ≠ .noSignal :=
  ⟨powered_of rfl, powered_of rfl, by decide +kernel, by decide, accepting_of ⟨rfl, by decide⟩, by decide +kernel⟩

/-- A reading that TUNER has not reported, and one it has, while the kind is disabled. -/
def unreported (r : LastReport) : State := { withTuner { tracked.tuner with reported := r } with link := linkReset 0 }

/-- REPORTS that enables TUNER posts the reading only when it differs from the last one reported (R174). -/
theorem test_reports_tuner : (next (.reports (requestFrame 0 [4, 0])) (unreported .noSignal)).link.tuner.map (·.payload) =
      some [2, 1, 45, 30, 0, 1, 0x5D, 0xB4, 1] ∧
    (next (.reports (requestFrame 0 [4, 0])) (unreported (.reading offPitch))).link.tuner = none := by decide +kernel

/-! ### The invariants: each holds of a state that steps on a command -/

/-- `ready` with one command waiting. -/
def waitingFrame : State := { ready with pending := [.audioFrame quietFrame] }

theorem test_witness_DelayMemoryStaysCanonical :
    Memory.wf waitingFrame.delay.mem = true ∧ ∃ t, step waitingFrame = .next t :=
  ⟨rfl, _, rfl⟩

theorem test_witness_OutboundQueueStaysBounded : waitingFrame.link.ok ∧ ∃ t, step waitingFrame = .next t :=
  ⟨by unfold Link.ok; decide +kernel, _, rfl⟩

theorem test_witness_OutputsStayInTheSampleRange : waitingFrame.outputsOk ∧ ∃ t, step waitingFrame = .next t :=
  ⟨by unfold State.outputsOk sampleOk; decide +kernel, _, rfl⟩

theorem test_witness_RampPositionsStayInRange : waitingFrame.rampsOk ∧ ∃ t, step waitingFrame = .next t :=
  ⟨⟨by unfold Context.rampsOk; decide +kernel, fun _ h => by cases h⟩, _, rfl⟩

/-- A locked unit whose eight intervals wait. -/
def waitingUpdate : State := { withTempo lockedTempo with pending := [.clockUpdate] }

theorem test_witness_TempoStaysInRangeAndLockedToTheClock : waitingUpdate.tempo.ok ∧ ∃ t, step waitingUpdate = .next t :=
  ⟨by unfold Tempo.ok beatOk; decide +kernel, _, rfl⟩

theorem test_witness_DirectoryHoldsOnlyValidRecords : State.reset.store.ok ∧ ∃ t, step State.reset = .next t := by
  refine ⟨⟨?_, trivial⟩, _, rfl⟩
  intro n e h
  simp [State.reset, erasedStore, directoryReset] at h

/-- The end of a switch waits. -/
def waitingEnd : State := { switchDone 1 none with pending := [.switchEnd] }

theorem test_witness_LineTableAgreesWithItsHolders : waitingEnd.linesOk ∧ ∃ t, step waitingEnd = .next t :=
  ⟨switchDone_linesOk 1 none, _, rfl⟩

theorem test_witness_BuffersStayWithinTheirSizes : waitingFrame.sizesOk ∧ ∃ t, step waitingFrame = .next t := by
  refine ⟨⟨?_, ?_, by decide +kernel⟩, _, rfl⟩
  · unfold Line.sizesOk
    decide +kernel
  · intro l wanted h
    cases h

theorem test_witness_RecordsInOrderSurviveWritingAndReading : passthroughRecord.ok := by
  refine ⟨by decide, by decide, fun _ h => (by cases h), fun _ h => (by cases h), by decide, ?_, ⟨[], _, rfl, rfl, by simp⟩,
    by decide, by decide, by decide, by simp [passthroughRecord]⟩
  intro e he
  obtain rfl := List.mem_singleton.1 he
  refine ⟨rfl, ?_, fun h => (by cases h)⟩
  intro id spec h
  match id with
  | 0 => cases h; rfl
  | 1 => cases h; rfl
  | n + 2 => cases h

end Sys2Proof.Tests
end

section
/-! SUPPORT. TABLE_WRITE and TABLE_READ (R11, R12, R13): what each body answers in each of its cases, and the statement about the two
requests. -/

namespace Sys2Proof.Machine

/-! ## TABLE_WRITE (R11, R13) -/

/-- What TABLE_WRITE carries: a bank, a start index in two bytes, and samples. -/
def tableWritePayload (b s0 s1 : Byte) (vs : List Int) : List Byte := [b, s0, s1] ++ vs.flatMap (bytesSignedLE 3)

@[simp] theorem tableWritePayload_length (b s0 s1 : Byte) (vs : List Int) :
    (tableWritePayload b s0 s1 vs).length = 3 + 3 * vs.length := by
  have samples : (vs.flatMap (bytesSignedLE 3)).length = 3 * vs.length := by simp [List.length_flatMap, Nat.mul_comm]
  rw [tableWritePayload, List.length_append, samples]
  rfl

@[simp] theorem byteAt_tableWritePayload (b s0 s1 : Byte) (vs : List Int) : byteAt (tableWritePayload b s0 s1 vs) 0 = b.toNat := rfl

@[simp] theorem numAt_tableWritePayload (b s0 s1 : Byte) (vs : List Int) :
    numAt (tableWritePayload b s0 s1 vs) 1 2 = s0.toNat + 256 * s1.toNat := numAt_one_two _ _ _ _

theorem samplesOf_tableWritePayload (b s0 s1 : Byte) {vs : List Int} (hv : ∀ v ∈ vs, sampleOk v) :
    samplesOf ((tableWritePayload b s0 s1 vs).drop 3) = vs := samplesOf_flatMap vs hv

theorem tableWritePayload_length_le (b s0 s1 : Byte) {vs : List Int} (hv : vs.length ≤ 80) :
    (tableWritePayload b s0 s1 vs).length ≤ 250 := by
  rw [tableWritePayload_length]
  omega

/-- Up to 80 samples fit a request (R190). -/
theorem tableWritePayload_fits (b s0 s1 : Byte) {vs : List Int} (hv : vs.length ≤ 80) :
    tableWriteFits (tableWritePayload b s0 s1 vs).length = true := by
  have : 3 + 3 * vs.length ≤ 243 := by omega
  simp [tableWriteFits, this]

theorem tableWriteBody_badField (s : State) {p : List Byte} (h : 7 < byteAt p 0 ∨ 256 < numAt p 1 2) :
    tableWriteBody s p = s.refuse .badField :=
  dif_neg (by omega)

theorem tableWriteBody_inUse {s : State} {p : List Byte} (hb : byteAt p 0 ≤ 7) (hs : numAt p 1 2 ≤ 256)
    (hn : s.scenes.namesBank (byteAt p 0) = true) : tableWriteBody s p = s.refuse .inUse :=
  (dif_pos ⟨by omega, hs⟩).trans (if_pos hn)

theorem tableWriteBody_writes {s : State} {p : List Byte} {n : Fin 8} (hb : byteAt p 0 = n) (hs : numAt p 1 2 ≤ 256)
    (hn : s.scenes.namesBank n = false) : tableWriteBody s p =
      (s.withChain { s.chain with
        banks := s.chain.banks.set n (Table.writeFrom s.chain.banks[n] (numAt p 1 2) (samplesOf (p.drop 3))) }).okay
        [byteOf (min (samplesOf (p.drop 3)).length (257 - numAt p 1 2))] := by
  simp [tableWriteBody, hb, hs, hn]

section
variable {s : State} {vs : List Int} (h : s.accepting) (hv : vs.length ≤ 80) (tag b s0 s1 : Byte)
include h hv

theorem exec_tableWrite_refuses {st : Status}
    (e : tableWriteBody s.endRead (tableWritePayload b s0 s1 vs) = s.endRead.refuse st) :
    exec (.tableWrite (requestFrame tag (tableWritePayload b s0 s1 vs))) s = .next (s.replied 0x94 tag st.code []) :=
  request_refuses h (tableWritePayload_length_le _ _ _ hv) (tableWritePayload_fits _ _ _ hv) e

theorem exec_tableWrite_badField (hbad : 7 < b.toNat ∨ 256 < s0.toNat + 256 * s1.toNat) :
    exec (.tableWrite (requestFrame tag (tableWritePayload b s0 s1 vs))) s = .next (s.replied 0x94 tag 4 []) :=
  exec_tableWrite_refuses h hv tag b s0 s1 (tableWriteBody_badField _ (by simpa using hbad))

theorem exec_tableWrite_inUse (hb : b.toNat ≤ 7) (hs : s0.toNat + 256 * s1.toNat ≤ 256)
    (hn : s.scenes.namesBank b.toNat = true) :
    exec (.tableWrite (requestFrame tag (tableWritePayload b s0 s1 vs))) s = .next (s.replied 0x94 tag 9 []) :=
  exec_tableWrite_refuses h hv tag b s0 s1 (tableWriteBody_inUse hb (by simpa using hs) hn)

theorem exec_tableWrite_writes (hok : ∀ v ∈ vs, sampleOk v) {n : Fin 8} (hb : b.toNat = n)
    (hs : s0.toNat + 256 * s1.toNat ≤ 256) (hn : s.scenes.namesBank n = false) :
    exec (.tableWrite (requestFrame tag (tableWritePayload b s0 s1 vs))) s = .next (State.replied
      { s with chain := { s.chain with
          banks := s.chain.banks.set n (Table.writeFrom s.chain.banks[n] (s0.toNat + 256 * s1.toNat) vs) } } 0x94 tag 0
      [BitVec.ofNat 8 (min vs.length (257 - (s0.toNat + 256 * s1.toNat)))]) := by
  have body := tableWriteBody_writes (s := s.endRead) (p := tableWritePayload b s0 s1 vs) hb (by simpa using hs) hn
  simp only [samplesOf_tableWritePayload b s0 s1 hok, numAt_tableWritePayload] at body
  exact request_answers h (tableWritePayload_length_le _ _ _ hv) (tableWritePayload_fits _ _ _ hv) body rfl rfl
end

/-! ## TABLE_READ (R12) -/

theorem tableReadBody_badField (s : State) {p : List Byte} (h : 7 < byteAt p 0 ∨ 256 < numAt p 1 2 ∨ 80 < byteAt p 3) :
    tableReadBody s p = s.refuse .badField :=
  dif_neg (by omega)

theorem tableReadBody_reads (s : State) {p : List Byte} {n : Fin 8} (hb : byteAt p 0 = n) (hs : numAt p 1 2 ≤ 256)
    (hc : byteAt p 3 ≤ 80) : tableReadBody s p = s.okay
      (byteOf (min (byteAt p 3) (257 - numAt p 1 2)) ::
        ((s.chain.banks[n].toList.drop (numAt p 1 2)).take (byteAt p 3)).flatMap (bytesSignedLE 3)) := by
  simp [tableReadBody, hb, hs, hc]

section
variable {s : State} (h : s.accepting) (tag b s0 s1 count : Byte)
include h

theorem exec_tableRead_badField (hbad : 7 < b.toNat ∨ 256 < s0.toNat + 256 * s1.toNat ∨ 80 < count.toNat) :
    exec (.tableRead (requestFrame tag [b, s0, s1, count])) s = .next (s.replied 0x95 tag 4 []) :=
  request_refuses h (by simp) rfl (tableReadBody_badField _ (by rwa [numAt_one_two]))

theorem exec_tableRead_reads {n : Fin 8} (hb : b.toNat = n) (hs : s0.toNat + 256 * s1.toNat ≤ 256) (hc : count.toNat ≤ 80) :
    exec (.tableRead (requestFrame tag [b, s0, s1, count])) s = .next (s.replied 0x95 tag 0
      (BitVec.ofNat 8 (min count.toNat (257 - (s0.toNat + 256 * s1.toNat))) ::
        ((s.chain.banks[n].toList.drop (s0.toNat + 256 * s1.toNat)).take count.toNat).flatMap (bytesSignedLE 3))) := by
  have body := tableReadBody_reads s.endRead (p := [b, s0, s1, count]) hb (by rwa [numAt_one_two]) hc
  rw [numAt_one_two] at body
  exact request_answers h (by simp) rfl body rfl rfl
end

/-! ## The two requests -/

/-- Settles O38. A bank's use is `SceneManager.namesBank_iff`, the entries written are `Table.writeFrom_getElem`. -/
theorem tableWriteAndReadActOnTheBank : Obligations.TableWriteAndReadActOnTheBank := by
  intro s tag b s0 s1 h start named
  have bank_number {n : Fin 8} (e : b = BitVec.ofNat 8 n.val) : b.toNat = n := by
    obtain ⟨_, rfl⟩ := fin_of_byte (by omega) e
    rfl
  refine ⟨fun vs hv hok => ⟨?badField, ?inUse, ?writes⟩, fun count => ⟨?readBadField, ?reads⟩⟩
  case badField => exact exec_tableWrite_badField h hv tag b s0 s1
  case inUse =>
    intro hb hs hn
    exact exec_tableWrite_inUse h hv tag b s0 s1 hb hs ((s.scenes.namesBank_iff _).2 hn)
  case writes =>
    intro n e hs hn
    have free : s.scenes.namesBank n = false := Bool.eq_false_iff.2 fun used => hn ((s.scenes.namesBank_iff _).1 used)
    exact ⟨_, exec_tableWrite_writes h hv tag b s0 s1 hok (bank_number e) hs free,
      fun i => Table.writeFrom_getElem vs _ start i i.isLt⟩
  case readBadField => exact exec_tableRead_badField h tag b s0 s1 count
  case reads =>
    intro n e hs hc
    exact exec_tableRead_reads h tag b s0 s1 count (bank_number e) hs hc

end Sys2Proof.Machine
end

section
/-! SUPPORT. SET_LATCH and GET_LATCHES (R26, R27): what each body answers, and the statement about the two requests. -/

namespace Sys2Proof.Machine

/-! ## SET_LATCH (R26) -/

theorem setLatchBody_badField (s : State) {p : List Byte} (h : 7 < byteAt p 0 ∨ 1 < byteAt p 1) :
    setLatchBody s p = s.refuse .badField :=
  dif_neg (by omega)

theorem setLatchBody_sets (s : State) {p : List Byte} (hl : byteAt p 0 < 8) (hv : byteAt p 1 ≤ 1) :
    setLatchBody s p =
      (s.withLatches (s.latches.set (byteAt p 0) { value := byteAt p 1 == 1, hold := none } hl)).okay [] :=
  dif_pos ⟨hl, by omega⟩

theorem toNat_beq_one (b : Byte) : (b.toNat == 1) = (b == 1) := by
  rw [Bool.eq_iff_iff, beq_iff_eq, beq_iff_eq, ← BitVec.toNat_inj]
  rfl

section
variable {s : State} (h : s.accepting) (tag latch value : Byte)
include h

theorem exec_setLatch_badField (hbad : 7 < latch.toNat ∨ 1 < value.toNat) :
    exec (.setLatch (requestFrame tag [latch, value])) s = .next (s.replied 0x87 tag 4 []) :=
  request_refuses h (by simp) rfl (setLatchBody_badField _ (by simpa using hbad))

/-- The hold record goes with the old value (R26). -/
theorem exec_setLatch_sets (hl : latch.toNat < 8) (hv : value.toNat ≤ 1) :
    exec (.setLatch (requestFrame tag [latch, value])) s = .next (State.replied
      { s with latches := s.latches.set latch.toNat { value := value == 1, hold := none } hl } 0x87 tag 0 []) := by
  have body := setLatchBody_sets s.endRead (p := [latch, value]) hl hv
  simp only [byteAt_cons_zero, byteAt_cons_succ, toNat_beq_one] at body
  exact request_answers h (by simp) rfl body rfl rfl
end

/-! ## GET_LATCHES (R27) -/

theorem latchBytes_free (v : Bool) : latchBytes { value := v, hold := none } = [flagByte v, 0, 0, 0] := rfl

theorem latchBytes_held (v : Bool) (r : Hold) :
    latchBytes { value := v, hold := some r } = [flagByte v, 1, byteOf r.source.toNat, r.index] := rfl

theorem exec_getLatches_answers {s : State} (h : s.accepting) (tag : Byte) :
    exec (.getLatches (requestFrame tag [])) s = .next (s.replied 0x88 tag 0 (s.latches.toList.flatMap latchBytes)) :=
  request_answers h (by simp) rfl (a := s.endRead.okay (s.latches.toList.flatMap latchBytes)) rfl rfl rfl

/-! ## The two requests -/

/-- Settles O22: SET_LATCH by whether its two fields are in range, GET_LATCHES by whether each latch has a hold record. -/
theorem latchRequests : Obligations.LatchRequests := by
  refine ⟨fun s tag latch value h => ⟨?sets, ?badField⟩, fun s tag h => ?reads⟩
  case sets => exact exec_setLatch_sets h tag latch value
  case badField => exact exec_setLatch_badField h tag latch value
  case reads =>
    rw [exec_getLatches_answers h tag]
    congr 3
    funext l
    obtain ⟨v, hold⟩ := l
    cases hold with
    | none => exact latchBytes_free v
    | some r => exact latchBytes_held v r

end Sys2Proof.Machine
end

section
/-! SUPPORT. EDIT and GET_PARAM (R78, R79): what a write of the edit context leaves of the scene manager, what a write of each id makes
of a stage (R14, R63), what the two bodies answer, and the statement about the two requests. -/

namespace Sys2Proof.Machine

/-! ## The edit context (R77) -/

@[simp] theorem Scene.built_mapIncoming (sc : Scene) (f : Context → Context) :
    (sc.mapIncoming f).built = sc.built.map f := by
  cases sc <;> rfl

section
variable {m : SceneManager} (c : Context)

theorem SceneManager.setEdit_of_built {b : Context} (h : m.scene.built = some b) :
    m.setEdit c = { m with scene := m.scene.mapIncoming fun _ => c } := by
  simp [setEdit, h]

theorem SceneManager.setEdit_of_not_built (h : m.scene.built = none) : m.setEdit c = { m with playing := c } := by
  simp [setEdit, h]
end

@[simp] theorem SceneManager.editContext_setEdit (m : SceneManager) (c : Context) : (m.setEdit c).editContext = c := by
  cases h : m.scene.built with
  | none => simp [setEdit_of_not_built c h, editContext, h]
  | some b => simp [setEdit_of_built c h, editContext, h]

@[simp] theorem SceneManager.setEdit_built_isSome (m : SceneManager) (c : Context) :
    (m.setEdit c).scene.built.isSome = m.scene.built.isSome := by
  cases h : m.scene.built with
  | none => simp [setEdit_of_not_built c h, h]
  | some b => simp [setEdit_of_built c h, h]

@[simp] theorem SceneManager.setEdit_trails (m : SceneManager) (c : Context) : (m.setEdit c).trails = m.trails := by
  cases h : m.scene.built with
  | none => rw [setEdit_of_not_built c h]
  | some b => rw [setEdit_of_built c h]

theorem SceneManager.setEdit_playing {m : SceneManager} (h : m.scene.built.isSome = true) (c : Context) :
    (m.setEdit c).playing = m.playing := by
  obtain ⟨b, hb⟩ := Option.isSome_iff_exists.1 h
  rw [setEdit_of_built c hb]

theorem SceneManager.setEdit_scene {m : SceneManager} (h : m.scene.built = none) (c : Context) :
    (m.setEdit c).scene = m.scene := by
  rw [setEdit_of_not_built c h]

/-! ## Which ids exist (R63) -/

theorem paramExists_iff (kind : StageKind) (id : Nat) :
    paramExists kind id = true ↔ id < (paramSpecs kind).length ∨ id = 16 ∨ id = 17 ∨ id = 18 := by
  simp [paramExists, or_assoc]

/-- No kind has a parameter under the id of an engage field. -/
theorem paramSpecs_length_le (kind : StageKind) : (paramSpecs kind).length ≤ 9 := by
  cases kind <;> decide

/-! ## What an accepted EDIT stores and tells (R14, R63, R78) -/

theorem gateRule_of_not_threshold {kind : StageKind} {id : Nat} (h : kind = .gate → 2 ≤ id) (params : List Int) :
    gateRule kind id params = params :=
  if_neg fun ⟨gate, threshold, _⟩ => by
    have := h gate
    omega

/-- The close threshold of a GATE is held at or below its open threshold (R14). -/
theorem gateRule_threshold {id : Nat} (h : id = 0 ∨ id = 1) (opn cls : Int) (rest : List Int) :
    gateRule .gate id (opn :: cls :: rest) = opn :: min opn cls :: rest := by
  rcases lt_or_ge opn cls with below | above
  · simp [gateRule, h, below, min_eq_left below.le]
  · simp [gateRule, h, not_lt.2 above, min_eq_right above]

theorem Stage.write_param {st : Stage} {id : Nat} {spec : ParamSpec} (hspec : (paramSpecs st.kind)[id]? = some spec) (v : Int) :
    st.write id v = { st with params := gateRule st.kind id (st.params.set id (clampTo spec.lo spec.hi v)) } := by
  have own : id < (paramSpecs st.kind).length := (List.getElem?_eq_some_iff.1 hspec).1
  have few := paramSpecs_length_le st.kind
  rw [Stage.write, if_neg (by omega), if_neg (by omega), if_neg (by omega), hspec]

theorem closeBytes_of_not_threshold {st : Stage} {id : Nat} (h : st.kind = .gate → 2 ≤ id) : closeBytes st id = [] :=
  if_neg fun ⟨gate, threshold⟩ => by
    have := h gate
    omega

theorem closeBytes_threshold {st : Stage} (hk : st.kind = .gate) {id : Nat} (h : id = 0 ∨ id = 1) :
    closeBytes st id = bytesSignedLE 4 (st.params.getD 1 0) :=
  if_pos ⟨hk, h⟩

/-- An EDIT of `id` to `v` is accepted for the stage `st`, stores `st'`, and ends its reply with `more` (R78). -/
structure Stage.EditGives (st : Stage) (id : Nat) (v : Int) (st' : Stage) (more : List Byte) : Prop where
  idExists : paramExists st.kind id = true
  write_eq : st.write id v = st'
  close_eq : closeBytes st' id = more

/-- A parameter that is no threshold of a GATE is clamped to its range. -/
theorem Stage.editGives_param {st : Stage} {id : Nat} {spec : ParamSpec} (hspec : (paramSpecs st.kind)[id]? = some spec)
    (hg : st.kind = .gate → 2 ≤ id) (v : Int) :
    st.EditGives id v { st with params := st.params.set id (max spec.lo (min spec.hi v)) } [] where
  idExists := (paramExists_iff _ _).2 (.inl (List.getElem?_eq_some_iff.1 hspec).1)
  write_eq := by rw [write_param hspec, gateRule_of_not_threshold hg, clampTo]
  close_eq := closeBytes_of_not_threshold hg

section
variable {st : Stage} {opn cls : Int} {rest : List Int} (hk : st.kind = .gate) (hp : st.params = opn :: cls :: rest) (v : Int)
include hk hp

theorem Stage.editGives_open :
    st.EditGives 0 v { st with params := max 0 (min 8388607 v) :: min cls (max 0 (min 8388607 v)) :: rest }
      (bytesSignedLE 4 (min cls (max 0 (min 8388607 v)))) where
  idExists := by rw [hk]; rfl
  write_eq := by
    rw [write_param (spec := ⟨0, 8388607, 4, 3, false, false⟩) (by rw [hk]; rfl), hk, hp, List.set_cons_zero,
      gateRule_threshold (.inl rfl), clampTo, min_comm cls]
  close_eq := closeBytes_threshold (by exact hk) (.inl rfl)

theorem Stage.editGives_close :
    st.EditGives 1 v { st with params := opn :: min opn (max 0 (min 8388607 v)) :: rest }
      (bytesSignedLE 4 (min opn (max 0 (min 8388607 v)))) where
  idExists := by rw [hk]; rfl
  write_eq := by
    rw [write_param (spec := ⟨0, 8388607, 7, 3, false, false⟩) (by rw [hk]; rfl), hk, hp, List.set_cons_succ, List.set_cons_zero,
      gateRule_threshold (.inr rfl), clampTo]
  close_eq := closeBytes_threshold (by exact hk) (.inr rfl)
end

section
variable (st : Stage) (v : Int)

theorem Stage.editGives_engage : st.EditGives 16 v { st with engage := BitVec.ofInt 8 (max 0 (min 255 v)) } [] where
  idExists := by simp [paramExists_iff]
  write_eq := rfl
  close_eq := closeBytes_of_not_threshold fun _ => by decide

theorem Stage.editGives_latch : st.EditGives 17 v { st with latch := Fin.ofNat 8 (max 0 (min 7 v)).toNat } [] where
  idExists := by simp [paramExists_iff]
  write_eq := rfl
  close_eq := closeBytes_of_not_threshold fun _ => by decide

theorem Stage.editGives_default : st.EditGives 18 v { st with default := decide (1 ≤ v) } [] where
  idExists := by simp [paramExists_iff]
  write_eq := rfl
  close_eq := closeBytes_of_not_threshold fun _ => by decide
end

/-! ## The stage that a request names (R78, R79) -/

section
variable {s : State} {stage id : Nat}

theorem State.editStage_noStage (h : s.scenes.editContext.stages.length ≤ stage) : s.editStage stage id = .error .noStage := by
  rw [editStage, List.getElem?_eq_none h]

variable {st : Stage} (hst : s.scenes.editContext.stages[stage]? = some st)
include hst

theorem State.editStage_badField (hid : paramExists st.kind id = false) : s.editStage stage id = .error .badField := by
  simp [editStage, hst, hid]

theorem State.editStage_ok (hid : paramExists st.kind id = true) : s.editStage stage id = .ok st := by
  simp [editStage, hst, hid]
end

/-! ## The two bodies -/

/-- The scene manager once `st` stands in the place of a stage of the edit context, which is then edited (R78). -/
def SceneManager.editStageTo (m : SceneManager) (stage : Nat) (st : Stage) : SceneManager :=
  m.setEdit { m.editContext with stages := m.editContext.stages.set stage st, edited := true }

theorem editBody_refuses {s : State} {p : List Byte} {status : Status}
    (h : s.editStage (byteAt p 0) (byteAt p 1) = .error status) : editBody s p = s.refuse status := by
  simp [editBody, h]

theorem editBody_writes {s : State} {p : List Byte} {st : Stage} (h : s.editStage (byteAt p 0) (byteAt p 1) = .ok st) :
    editBody s p =
      let st' := st.write (byteAt p 1) (signedAt p 2 4)
      (s.withScenes (s.scenes.editStageTo (byteAt p 0) st')).okay
        ([byteOf (byteAt p 0), byteOf (byteAt p 1)] ++ bytesSignedLE 4 (st'.value (byteAt p 1)) ++ closeBytes st' (byteAt p 1)) := by
  simp [editBody, h, SceneManager.editStageTo]

theorem getParamBody_refuses {s : State} {p : List Byte} {status : Status}
    (h : s.editStage (byteAt p 0) (byteAt p 1) = .error status) : getParamBody s p = s.refuse status := by
  simp [getParamBody, h]

theorem getParamBody_reads {s : State} {p : List Byte} {st : Stage} (h : s.editStage (byteAt p 0) (byteAt p 1) = .ok st) :
    getParamBody s p = s.okay
      ([byteOf (byteAt p 0), byteOf (byteAt p 1)] ++ bytesSignedLE 4 (st.value (byteAt p 1)) ++ [s.scenes.roleCode]) := by
  simp [getParamBody, h]

/-! ## The two requests executed -/

/-- The value of an EDIT is read back from its four bytes (R191). -/
theorem signedAt_editPayload (stage id : Byte) {v : Int} (hl : -2147483648 ≤ v) (hh : v ≤ 2147483647) :
    signedAt ([stage, id] ++ bytesSignedLE 4 v) 2 4 = v := by
  have whole : (bytesSignedLE 4 v).take 4 = bytesSignedLE 4 v := List.take_of_length_le (by simp)
  have back := ofBytesSignedLE_bytesSignedLE (n := 4) (v := v) (by norm_num; omega) (by norm_num; omega)
  simpa [signedAt, whole] using back

section
variable {s : State} (h : s.accepting) (tag stage id : Byte)
include h

theorem exec_edit_refuses (v0 v1 v2 v3 : Byte) {status : Status} (e : s.editStage stage.toNat id.toNat = .error status) :
    exec (.edit (requestFrame tag [stage, id, v0, v1, v2, v3])) s = .next (s.replied 0x85 tag status.code []) :=
  request_refuses h (by simp) rfl (editBody_refuses e)

theorem exec_getParam_refuses {status : Status} (e : s.editStage stage.toNat id.toNat = .error status) :
    exec (.getParam (requestFrame tag [stage, id])) s = .next (s.replied 0x86 tag status.code []) :=
  request_refuses h (by simp) rfl (getParamBody_refuses e)

theorem exec_getParam_reads {st : Stage} (e : s.editStage stage.toNat id.toNat = .ok st) :
    exec (.getParam (requestFrame tag [stage, id])) s = .next (s.replied 0x86 tag 0
      ([stage, id] ++ bytesSignedLE 4 (st.value id.toNat) ++ [s.scenes.roleCode])) := by
  have body := getParamBody_reads (s := s.endRead) (p := [stage, id]) e
  simp only [byteAt_cons_zero, byteAt_cons_succ, byteOf_toNat] at body
  exact request_answers h (by simp) rfl body rfl rfl

theorem exec_edit_writes {st st' : Stage} {v : Int} {more : List Byte} (hl : -2147483648 ≤ v) (hh : v ≤ 2147483647)
    (hst : s.scenes.editContext.stages[stage.toNat]? = some st) (gives : st.EditGives id.toNat v st' more) :
    exec (.edit (requestFrame tag ([stage, id] ++ bytesSignedLE 4 v))) s = .next
      ((s.withScenes (s.scenes.editStageTo stage.toNat st')).replied 0x85 tag 0
        ([stage, id] ++ bytesSignedLE 4 (st'.value id.toNat) ++ more)) := by
  obtain ⟨idExists, rfl, rfl⟩ := gives
  have body := editBody_writes (s := s.endRead) (p := [stage, id] ++ bytesSignedLE 4 v) (State.editStage_ok hst idExists)
  rw [signedAt_editPayload stage id hl hh] at body
  simp only [List.cons_append, byteAt_cons_zero, byteAt_cons_succ, byteOf_toNat] at body
  exact request_answers h (by simp) (by simp) body rfl rfl
end

/-- Settles O33: the refusals by `State.editStage`, an EDIT's store by `Stage.EditGives` for each sort of id, and what it leaves by the
lemmas of `SceneManager.setEdit`. -/
theorem editAndGetParamActOnTheEditContext : Obligations.EditAndGetParamActOnTheEditContext := by
  intro s tag stage id h c
  refine ⟨?noStage, ?badField, ?reads, ?writes⟩
  case noStage =>
    intro v0 v1 v2 v3 beyond
    have e : s.editStage stage.toNat id.toNat = .error .noStage := State.editStage_noStage beyond
    exact ⟨exec_edit_refuses h tag stage id v0 v1 v2 v3 e, exec_getParam_refuses h tag stage id e⟩
  case badField =>
    intro v0 v1 v2 v3 st hst notOwn not16 not17 not18
    have foreign : paramExists st.kind id.toNat = false := by
      rw [← Bool.not_eq_true, paramExists_iff]
      omega
    have e : s.editStage stage.toNat id.toNat = .error .badField := State.editStage_badField hst foreign
    exact ⟨exec_edit_refuses h tag stage id v0 v1 v2 v3 e, exec_getParam_refuses h tag stage id e⟩
  case reads =>
    intro st hst hid
    exact exec_getParam_reads h tag stage id (State.editStage_ok hst ((paramExists_iff _ _).2 hid))
  case writes =>
    intro v st st' more hl hh hst stored
    have gives : st.EditGives id.toNat v st' more := by
      obtain ⟨spec, hspec, hg, rfl, -, rfl⟩ | ⟨hk, rfl, opn, cls, rest, hp, rfl, rfl⟩ |
        ⟨hk, rfl, opn, cls, rest, hp, rfl, rfl⟩ | ⟨rfl, rfl, rfl⟩ | ⟨rfl, rfl, rfl⟩ | ⟨rfl, rfl, rfl⟩ := stored
      · exact Stage.editGives_param hspec hg v
      · exact Stage.editGives_open hk hp v
      · exact Stage.editGives_close hk hp v
      · exact Stage.editGives_engage st v
      · exact Stage.editGives_latch st v
      · exact Stage.editGives_default st v
    exact ⟨_, exec_edit_writes h tag stage id hl hh hst gives, SceneManager.editContext_setEdit _ _,
      SceneManager.setEdit_built_isSome _ _, fun built => SceneManager.setEdit_playing built _,
      fun notBuilt => SceneManager.setEdit_scene notBuilt _, SceneManager.setEdit_trails _ _, rfl⟩

end Sys2Proof.Machine
end

section
/-! SUPPORT. TEMPO_SET and TEMPO_READ (R155, R156): when a tempo change is reported, what setting the beat makes of the
state, what the two bodies answer, and the statement about the two requests. -/

namespace Sys2Proof.Machine

/-! ## A tempo change (R157) -/

section
variable {s : State} {t : Tempo}

theorem State.changeTempo_quiet (same : t.source = s.tempo.source ∧ t.locked = s.tempo.locked) :
    s.changeTempo t = s.withTempo t := if_pos same

theorem State.changeTempo_reports (new : ¬(t.source = s.tempo.source ∧ t.locked = s.tempo.locked)) :
    s.changeTempo t = (s.withTempo t).reportTempo := if_neg new
end

@[simp] theorem State.changeTempo_tempo (s : State) (t : Tempo) : (s.changeTempo t).tempo = t := by
  unfold State.changeTempo
  split <;> rfl

theorem State.changeTempo_reading_none {s : State} (h : s.link.reading = none) (t : Tempo) :
    (s.changeTempo t).link.reading = none := by
  unfold State.changeTempo
  split
  · exact h
  · exact post_reading_none _ _ _ _ h

/-- The reply of a request that changed the tempo is the same whether or not a read was in progress before. -/
theorem replied_changeTempo_endRead (s : State) (t : Tempo) (kind tag status : Byte) (payload : List Byte) :
    (s.endRead.changeTempo t).replied kind tag status payload = (s.changeTempo t).replied kind tag status payload := by
  by_cases same : t.source = s.tempo.source ∧ t.locked = s.tempo.locked
  · rw [State.changeTempo_quiet same, State.changeTempo_quiet (s := s.endRead) same]
    rfl
  · rw [State.changeTempo_reports same, State.changeTempo_reports (s := s.endRead) same]
    exact replied_post_of_link (s.endRead.withTempo t) (s.withTempo t) rfl _ _ _ _ _ _ _

/-! ## A beat set while unlocked (R148, R157) -/

@[simp] theorem Tempo.setBeat_beat (t : Tempo) (v : Nat) (source : TempoSource) :
    (t.setBeat v source).beat = max 12000 (min 144000 v) := rfl
@[simp] theorem Tempo.setBeat_source (t : Tempo) (v : Nat) (source : TempoSource) : (t.setBeat v source).source = source := rfl
@[simp] theorem Tempo.setBeat_locked (t : Tempo) (v : Nat) (source : TempoSource) : (t.setBeat v source).locked = t.locked := rfl

section
variable {s : State} {source : TempoSource} (v : Nat)

theorem State.changeTempo_setBeat_same (same : s.tempo.source = source) :
    s.changeTempo (s.tempo.setBeat v source) = s.withTempo (s.tempo.setBeat v source) :=
  State.changeTempo_quiet ⟨same.symm, rfl⟩

/-- A new source is reported, with the beat as clamped and the lock flag 0 (R157). -/
theorem State.changeTempo_setBeat_reports (unlocked : s.tempo.locked = false) (new : s.tempo.source ≠ source) :
    s.changeTempo (s.tempo.setBeat v source) = (s.withTempo (s.tempo.setBeat v source)).post .tempo 0
      (bytesLE 4 (max 12000 (min 144000 v)) ++ [source.code, 0]) := by
  have payload : (s.tempo.setBeat v source).payload = bytesLE 4 (max 12000 (min 144000 v)) ++ [source.code, 0] := by
    simp [Tempo.payload, unlocked, flagByte]
  rw [← payload]
  exact State.changeTempo_reports fun same => new same.1.symm
end

/-! ## TEMPO_SET (R155) -/

theorem numAt_bytesLE {n v : Nat} (h : v < 256 ^ n) : numAt (bytesLE n v) 0 n = v := by
  have read := numAt_zero_append (bytesLE n v) []
  rw [List.append_nil, bytesLE_length] at read
  rw [read, ofBytesLE_bytesLE_of_lt h]

theorem tempoSetBody_locked {s : State} (locked : s.tempo.locked = true) (p : List Byte) :
    tempoSetBody s p = s.refuse .locked := if_pos locked

theorem tempoSetBody_sets {s : State} (unlocked : s.tempo.locked = false) (p : List Byte) :
    tempoSetBody s p = (s.changeTempo (s.tempo.setBeat (numAt p 0 4) .link)).okay
      (bytesLE 4 (max 12000 (min 144000 (numAt p 0 4)))) := by
  simp [tempoSetBody, unlocked]

section
variable {s : State} (h : s.accepting) (tag : Byte)
include h

theorem exec_tempoSet_locked (locked : s.tempo.locked = true) (v : Nat) :
    exec (.tempoSet (requestFrame tag (bytesLE 4 v))) s = .next (s.replied 0x99 tag 11 []) :=
  request_refuses h (by simp) (by simp) (tempoSetBody_locked (s := s.endRead) locked _)

theorem exec_tempoSet_sets {v : Nat} (unlocked : s.tempo.locked = false) (hv : v < 4294967296) :
    exec (.tempoSet (requestFrame tag (bytesLE 4 v))) s = .next ((s.changeTempo (s.tempo.setBeat v .link)).replied 0x99 tag 0
      (bytesLE 4 (max 12000 (min 144000 v)))) := by
  have body := tempoSetBody_sets (s := s.endRead) unlocked (bytesLE 4 v)
  rw [numAt_bytesLE (by norm_num; omega)] at body
  rw [← replied_changeTempo_endRead]
  exact request_answers h (by simp) (by simp) body (State.changeTempo_reading_none rfl _)
    (by simp [State.okay, State.changeTempo_keeps])

/-! ## TEMPO_READ (R156) -/

theorem exec_tempoRead_answers :
    exec (.tempoRead (requestFrame tag [])) s = .next (s.replied 0x9A tag 0
      (bytesLE 4 s.tempo.beat ++ bytesLE 4 s.tempo.position ++ [s.tempo.source.code, flagByte s.tempo.locked])) :=
  request_answers h (by simp) rfl (body := tempoReadBody) rfl rfl rfl
end

/-! ## The two requests -/

/-- Settles O44: a TEMPO_SET by the lock flag, then by whether the link already is the source, which decides the report. -/
theorem tempoRequests : Obligations.TempoRequests := by
  refine ⟨fun s tag v h hv => ⟨?locked, ?unlocked⟩, fun s tag h => exec_tempoRead_answers h tag⟩
  case locked =>
    intro locked
    exact exec_tempoSet_locked h tag locked v
  case unlocked =>
    intro unlocked
    rw [exec_tempoSet_sets h tag unlocked hv]
    by_cases same : s.tempo.source = .link
    · simp only [same, if_true, State.changeTempo_setBeat_same]
      rfl
    · simp only [same, if_false, State.changeTempo_setBeat_reports v unlocked same]
      rfl

end Sys2Proof.Machine
end

section
/-! SUPPORT. What every operation of the part keeps: the waiting commands and the eight invariants of Sys2Proof/Safety.lean, gathered
in one relation between a state and the state after it, with one lemma for the writing of each block. -/

namespace Sys2Proof.Machine

/-! ## The relation -/

/-- From s to t the waiting commands are the same and every invariant is kept. -/
structure State.Keeps (s t : State) : Prop where
  pending : t.pending = s.pending
  mem : Memory.wf s.delay.mem = true → Memory.wf t.delay.mem = true
  link : s.link.ok → t.link.ok
  outputs : s.outputsOk → t.outputsOk
  ramps : s.rampsOk → t.rampsOk
  tempo : s.tempo.ok → t.tempo.ok
  store : s.store.ok → t.store.ok
  lines : s.linesOk → t.linesOk
  sizes : s.sizesOk → t.sizesOk

/-- The same for what happens inside the part: it also leaves room for a reply where there was room for one (R178, R182). -/
structure State.Works (s t : State) : Prop extends State.Keeps s t where
  room : s.link.queue.length ≤ 23 → t.link.queue.length ≤ 23

theorem State.Keeps.refl (s : State) : s.Keeps s := ⟨rfl, id, id, id, id, id, id, id, id⟩

theorem State.Keeps.trans {s t u : State} (h : s.Keeps t) (h' : t.Keeps u) : s.Keeps u where
  pending := h'.pending.trans h.pending
  mem := h'.mem ∘ h.mem
  link := h'.link ∘ h.link
  outputs := h'.outputs ∘ h.outputs
  ramps := h'.ramps ∘ h.ramps
  tempo := h'.tempo ∘ h.tempo
  store := h'.store ∘ h.store
  lines := h'.lines ∘ h.lines
  sizes := h'.sizes ∘ h.sizes

theorem State.Works.refl (s : State) : s.Works s := ⟨.refl s, id⟩

theorem State.Works.trans {s t u : State} (h : s.Works t) (h' : t.Works u) : s.Works u :=
  ⟨h.toKeeps.trans h'.toKeeps, h'.room ∘ h.room⟩

/-- The same as `trans`, the later part first: it says what the state in between is. -/
theorem State.Works.after {s t u : State} (h' : t.Works u) (h : s.Works t) : s.Works u := h.trans h'

theorem State.Works.ite {s t u : State} {p : Prop} [Decidable p] (h : p → s.Works t) (h' : ¬p → s.Works u) :
    s.Works (if p then t else u) := by
  split
  · exact h ‹_›
  · exact h' ‹_›

theorem State.Works.foldl {α : Type} {f : State → α → State} (h : ∀ (s : State) (a : α), s.Works (f s a)) (as : List α)
    (s : State) : s.Works (as.foldl f s) := by
  induction as generalizing s with
  | nil => exact .refl s
  | cons a as ih => exact (h s a).trans (ih _)

/-! ## Blocks that no invariant speaks of -/

theorem State.Works.withCounter (s : State) (v : Stamp) : s.Works (s.withCounter v) := ⟨⟨rfl, id, id, id, id, id, id, id, id⟩, id⟩
theorem State.Works.withStartUp (s : State) (v : StartUp) : s.Works (s.withStartUp v) := ⟨⟨rfl, id, id, id, id, id, id, id, id⟩, id⟩
theorem State.Works.withLatches (s : State) (v : Vector Latch 8) : s.Works (s.withLatches v) :=
  ⟨⟨rfl, id, id, id, id, id, id, id, id⟩, id⟩
theorem State.Works.withTuner (s : State) (v : Tuner) : s.Works (s.withTuner v) := ⟨⟨rfl, id, id, id, id, id, id, id, id⟩, id⟩

/-! ## Blocks with an invariant of their own -/

theorem State.Works.withPins {s : State} {v : Pins}
    (h : sampleOk s.pins.outL ∧ sampleOk s.pins.outR → sampleOk v.outL ∧ sampleOk v.outR) : s.Works (s.withPins v) :=
  ⟨⟨rfl, id, id, h, id, id, id, id, id⟩, id⟩

theorem State.Works.withTempo {s u : State} {v : Tempo} (h : s.Works u) (ok : s.tempo.ok → v.ok) : s.Works (u.withTempo v) :=
  { h with tempo := ok }

theorem State.Works.withStore {s : State} {v : Store} (h : s.store.ok → v.ok) : s.Works (s.withStore v) :=
  ⟨⟨rfl, id, id, id, id, id, h, id, id⟩, id⟩

theorem State.Works.withLink {s : State} {v : Link} (h : s.link.ok → v.ok)
    (room : s.link.queue.length ≤ 23 → v.queue.length ≤ 23) : s.Works (s.withLink v) :=
  ⟨⟨rfl, id, h, id, id, id, id, id, id⟩, room⟩

theorem State.Works.withChain {s : State} {v : Chain} (h : s.chain.history.length = 48 → v.history.length = 48) :
    s.Works (s.withChain v) where
  pending := rfl
  mem := id
  link := id
  outputs := id
  ramps := id
  tempo := id
  store := id
  lines := id
  sizes := fun ⟨hl, hb, hq, hf, hd, hu, hh⟩ => ⟨hl, hb, hq, hf, hd, hu, h hh⟩
  room := id

theorem State.Works.withUpload {s : State} {v : List Byte} (h : s.upload.length ≤ 1024 → v.length ≤ 1024) :
    s.Works (s.withUpload v) where
  pending := rfl
  mem := id
  link := id
  outputs := id
  ramps := id
  tempo := id
  store := id
  lines := id
  sizes := fun ⟨hl, hb, hq, hf, hd, hu, hh⟩ => ⟨hl, hb, hq, hf, hd, h hu, hh⟩
  room := id

/-- The sizes of the cue unit's queues and of its discard count. -/
def CueUnit.sizesOk (u : CueUnit) : Prop := u.queue.length ≤ 16 ∧ u.fifo.length ≤ 32 ∧ u.discards ≤ 65535

theorem State.Works.withCues {s : State} {v : CueUnit} (h : s.cues.sizesOk → v.sizesOk) : s.Works (s.withCues v) where
  pending := rfl
  mem := id
  link := id
  outputs := id
  ramps := id
  tempo := id
  store := id
  lines := id
  sizes := fun ⟨hl, hb, hq, hf, hd, hu, hh⟩ => let ⟨hq', hf', hd'⟩ := h ⟨hq, hf, hd⟩; ⟨hl, hb, hq', hf', hd', hu, hh⟩
  room := id

/-! ## Who holds the lines: the contexts, the trail list and the line table -/

/-- The line that a stage holds, if any. -/
def Stage.line (st : Stage) : Option (Fin 4) := st.lineOffset.map (·.1)

/-- What the scene manager says of the lines: by stage of the playing and of the built incoming context, and by trail with whether it
runs. -/
structure Holdings where
  playing : List (Option (Fin 4))
  incoming : List (Option (Fin 4))
  trails : List (Fin 4 × Bool)

def Context.stageLines (c : Context) : List (Option (Fin 4)) := c.stages.map Stage.line

def Trail.mark (t : Trail) : Fin 4 × Bool := (t.line, t.state == .running)

def Scene.builtLines (sc : Scene) : List (Option (Fin 4)) := (sc.built.map Context.stageLines).getD []

def SceneManager.holdings (m : SceneManager) : Holdings where
  playing := m.playing.stageLines
  incoming := m.scene.builtLines
  trails := m.trails.map Trail.mark

def DelayMemory.holder (d : DelayMemory) (l : Fin 4) : Holder := d.lines[l].holder

/-- A line table's holders agree with what the scene manager says. -/
structure Holdings.Agree (h : Holdings) (holder : Fin 4 → Holder) : Prop where
  playing : ∀ l n, holder l = .playing n ↔ h.playing[n]? = some (some l)
  incoming : ∀ l n, holder l = .incoming n ↔ h.incoming[n]? = some (some l)
  trail : ∀ l, holder l = .trail ↔ (l, true) ∈ h.trails
  cutting : ∀ l, holder l = .cutting ↔ (l, false) ∈ h.trails
  once : (h.trails.map Prod.fst).Nodup

theorem Context.stageLines_getElem? (c : Context) (n : Nat) (l : Fin 4) :
    c.stageLines[n]? = some (some l) ↔ ∃ st o, c.stages[n]? = some st ∧ st.lineOffset = some (l, o) := by
  simp [Context.stageLines, Stage.line]

theorem Scene.builtLines_getElem? (sc : Scene) (n : Nat) (l : Fin 4) :
    sc.builtLines[n]? = some (some l) ↔
      ∃ c st o, sc.built = some c ∧ c.stages[n]? = some st ∧ st.lineOffset = some (l, o) := by
  unfold Scene.builtLines
  cases sc.built with
  | none => simp
  | some c => simp [c.stageLines_getElem? n l]

theorem State.linesOk_iff (s : State) : s.linesOk ↔ s.scenes.holdings.Agree s.delay.holder := by
  have once : (s.scenes.trails.Pairwise fun t u => t.line ≠ u.line) ↔ (s.scenes.holdings.trails.map Prod.fst).Nodup := by
    simp [SceneManager.holdings, List.Nodup, List.pairwise_map, Trail.mark]
  have running : ∀ l, (∃ t ∈ s.scenes.trails, t.line = l ∧ t.state = .running) ↔ (l, true) ∈ s.scenes.holdings.trails := by
    simp [SceneManager.holdings, Trail.mark]
  have cut : ∀ l, (∃ t ∈ s.scenes.trails, t.line = l ∧ t.state ≠ .running) ↔ (l, false) ∈ s.scenes.holdings.trails := by
    simp [SceneManager.holdings, Trail.mark]
  constructor
  · rintro ⟨hp, hi, ht, hc, ho⟩
    exact ⟨fun l n => (hp l n).trans (Context.stageLines_getElem? _ n l).symm,
      fun l n => (hi l n).trans (Scene.builtLines_getElem? _ n l).symm, fun l => (ht l).trans (running l),
      fun l => (hc l).trans (cut l), once.1 ho⟩
  · rintro ⟨hp, hi, ht, hc, ho⟩
    exact ⟨fun l n => (hp l n).trans (Context.stageLines_getElem? _ n l),
      fun l n => (hi l n).trans (Scene.builtLines_getElem? _ n l), fun l => (ht l).trans (running l).symm,
      fun l => (hc l).trans (cut l).symm, once.2 ho⟩

/-! ## Writing the delay memory and the scene manager -/

/-- Every line and the burst in flight are within their sizes. -/
def DelayMemory.sizesOk (d : DelayMemory) : Prop := (∀ l : Fin 4, d.lines[l].sizesOk) ∧ d.burstFits

/-- From d to e the canonical form and the sizes are kept. -/
structure DelayMemory.Sound (d e : DelayMemory) : Prop where
  mem : Memory.wf d.mem = true → Memory.wf e.mem = true
  sizes : d.sizesOk → e.sizesOk

/-- From d to e the holders are the same too. -/
structure DelayMemory.Serves (d e : DelayMemory) : Prop extends DelayMemory.Sound d e where
  holder : e.holder = d.holder

/-- From m to n no line changes hands, and ramp positions stay in range. -/
structure SceneManager.Follows (m n : SceneManager) : Prop where
  holdings : n.holdings = m.holdings
  ramps : (m.playing.rampsOk ∧ ∀ c, m.scene.incoming = some c → c.rampsOk) →
    n.playing.rampsOk ∧ ∀ c, n.scene.incoming = some c → c.rampsOk

theorem DelayMemory.Sound.refl (d : DelayMemory) : d.Sound d := ⟨id, id⟩

theorem DelayMemory.Sound.trans {d e f : DelayMemory} (h : d.Sound e) (h' : e.Sound f) : d.Sound f :=
  ⟨h'.mem ∘ h.mem, h'.sizes ∘ h.sizes⟩

theorem DelayMemory.Serves.refl (d : DelayMemory) : d.Serves d := ⟨.refl d, rfl⟩

theorem DelayMemory.Serves.trans {d e f : DelayMemory} (h : d.Serves e) (h' : e.Serves f) : d.Serves f :=
  ⟨h.toSound.trans h'.toSound, h'.holder.trans h.holder⟩

/-- Lines change hands: the scene manager and the delay memory are written together. -/
theorem State.Works.handOver {s : State} {m : SceneManager} {d : DelayMemory} (sound : s.delay.Sound d)
    (ramps : s.rampsOk → m.playing.rampsOk ∧ ∀ c, m.scene.incoming = some c → c.rampsOk)
    (lines : s.scenes.holdings.Agree s.delay.holder → m.holdings.Agree d.holder) :
    s.Works ((s.withScenes m).withDelay d) where
  pending := rfl
  mem := sound.mem
  link := id
  outputs := id
  ramps := ramps
  tempo := id
  store := id
  lines := fun h => (State.linesOk_iff _).2 (lines ((State.linesOk_iff s).1 h))
  sizes := fun ⟨hl, hb, hq, hf, hd, hu, hh⟩ => let ⟨hl', hb'⟩ := sound.sizes ⟨hl, hb⟩; ⟨hl', hb', hq, hf, hd, hu, hh⟩
  room := id

theorem State.Works.withDelay {s : State} {d : DelayMemory} (h : s.delay.Serves d) : s.Works (s.withDelay d) :=
  State.Works.handOver (m := s.scenes) h.toSound id (h.holder ▸ id)

theorem State.Works.withScenes {s : State} {m : SceneManager} (h : s.scenes.Follows m) : s.Works (s.withScenes m) :=
  State.Works.handOver (d := s.delay) (.refl _) h.ramps (h.holdings ▸ id)

end Sys2Proof.Machine
end

section
/-! SUPPORT. What each operation of the delay memory controller keeps (R37..R39, R50..R55): the canonical form, the sizes, and, but
for allocation and release, the holders. -/

namespace Sys2Proof.Machine

/-! ## One line at a time -/

theorem DelayMemory.lines_setLine (d : DelayMemory) (l l' : Fin 4) (v : Line) :
    (d.setLine l v).lines[l'] = if l = l' then v else d.lines[l'] := by
  simp only [DelayMemory.setLine_lines, Fin.getElem_fin, Vector.getElem_set, Fin.ext_iff]

@[simp] theorem DelayMemory.lines_setLine_self (d : DelayMemory) (l : Fin 4) (v : Line) : (d.setLine l v).lines[l] = v := by
  simp

theorem DelayMemory.lines_setLine_ne (d : DelayMemory) {l l' : Fin 4} (h : l' ≠ l) (v : Line) :
    (d.setLine l v).lines[l'] = d.lines[l'] := by
  rw [DelayMemory.lines_setLine, if_neg (Ne.symm h)]

theorem DelayMemory.holder_setLine (d : DelayMemory) (l : Fin 4) (v : Line) :
    (d.setLine l v).holder = Function.update d.holder l v.holder := by
  funext l'
  unfold DelayMemory.holder
  rw [DelayMemory.lines_setLine]
  by_cases h : l' = l
  · subst h
    simp
  · simp [Ne.symm h, h]

/-- Lines that stay within their sizes, read FIFOs that do not grow, and a burst in flight that owes no more. -/
theorem DelayMemory.Sound.of_lines {d e : DelayMemory} (mem : e.mem = d.mem)
    (lines : ∀ l : Fin 4, d.lines[l].sizesOk → e.lines[l].sizesOk)
    (fifo : ∀ l : Fin 4, e.lines[l].readFifo.length ≤ d.lines[l].readFifo.length)
    (burst : ∀ l wanted, e.burst = some (.read l wanted) →
      ∃ owed, d.burst = some (.read l owed) ∧ wanted.length ≤ owed.length) : d.Sound e where
  mem := by rw [mem]; exact id
  sizes := fun ⟨hl, hb⟩ => by
    refine ⟨fun l => lines l (hl l), fun l wanted hw => ?_⟩
    obtain ⟨owed, ho, hle⟩ := burst l wanted hw
    have held := fifo l
    have fits := hb l owed ho
    omega

theorem DelayMemory.Sound.setLine {d : DelayMemory} {l : Fin 4} {v : Line} (sizes : d.lines[l].sizesOk → v.sizesOk)
    (fifo : v.readFifo.length ≤ d.lines[l].readFifo.length) : d.Sound (d.setLine l v) := by
  refine .of_lines rfl (fun l' => ?_) (fun l' => ?_) fun l' wanted h => ⟨wanted, h, le_rfl⟩
  all_goals
    rw [DelayMemory.lines_setLine]
    split
    · subst_vars
      assumption
  · exact id
  · exact le_rfl

theorem DelayMemory.Serves.setLine {d : DelayMemory} {l : Fin 4} {v : Line} (holder : v.holder = d.lines[l].holder)
    (sizes : d.lines[l].sizesOk → v.sizesOk) (fifo : v.readFifo.length ≤ d.lines[l].readFifo.length) :
    d.Serves (d.setLine l v) := by
  refine ⟨.setLine sizes fifo, ?_⟩
  rw [DelayMemory.holder_setLine, holder]
  exact Function.update_eq_self l d.holder

/-- A burst in flight that comes to owe no more than it did. -/
theorem DelayMemory.Serves.mapBurst (d : DelayMemory) {f : Burst → Burst}
    (h : ∀ b l wanted, f b = .read l wanted → ∃ owed, b = .read l owed ∧ wanted.length ≤ owed.length) :
    d.Serves { d with burst := d.burst.map f } := by
  refine ⟨.of_lines rfl (fun _ => id) (fun _ => le_rfl) fun l wanted hw => ?_, rfl⟩
  obtain ⟨b, hb, hf⟩ := Option.map_eq_some_iff.1 hw
  obtain ⟨owed, rfl, hle⟩ := h b l wanted hf
  exact ⟨owed, hb, hle⟩

theorem Burst.pass_owes (line : Fin 4) (pos : Nat) (b : Burst) (l : Fin 4) (wanted : List Nat)
    (h : b.pass line pos = .read l wanted) : ∃ owed, b = .read l owed ∧ wanted.length ≤ owed.length := by
  cases b with
  | read l' owed =>
    simp only [Burst.pass] at h
    split at h <;> cases h
    · exact ⟨owed, rfl, List.length_filter_le _ _⟩
    · exact ⟨_, rfl, le_rfl⟩
  | write => cases h

theorem Burst.orphan_owes (line : Fin 4) (b : Burst) (l : Fin 4) (wanted : List Nat) (h : b.orphan line = .read l wanted) :
    ∃ owed, b = .read l owed ∧ wanted.length ≤ owed.length := by
  cases b with
  | read l' owed =>
    simp only [Burst.orphan] at h
    split at h <;> cases h
    · exact ⟨_, rfl, Nat.zero_le _⟩
    · exact ⟨_, rfl, le_rfl⟩
  | write => cases h

/-! ## The arbiter (R51..R54) -/

theorem Line.fetchable_length (ln : Line) (r : Reader) : (ln.fetchable r).length ≤ 16 := by
  unfold Line.fetchable
  split
  · simp
  · split
    · simp
    · refine (List.takeWhile_sublist _).length_le.trans ?_
      simp [Config.burstLength]

/-- A FIFO that the arbiter serves has asked. -/
theorem DelayMemory.ringRequest_of_nextServed {d : DelayMemory} {readers : Vector Reader 4} {i : Fin 8}
    (h : d.nextServed readers = some i) : (d.ringRequest readers i).isSome = true := by
  unfold DelayMemory.nextServed at h
  rcases Option.or_eq_some_iff.1 h with h | ⟨-, h⟩
  · have urgent := List.find?_some (p := fun i => d.ringRequest readers i == some true) h
    rw [beq_iff_eq.1 urgent]
    rfl
  · exact List.find?_some (p := fun i => (d.ringRequest readers i).isSome) h

/-- A read burst is issued only to a FIFO with 16 samples or fewer, and fetches 16 at most (R51, R53). -/
theorem DelayMemory.Serves.arbitrate (d : DelayMemory) (readers : Vector Reader 4) : d.Serves (d.arbitrate readers) := by
  obtain h | ⟨i, hb, hn, h⟩ := d.arbitrate_cases readers
  · rw [h]
    exact .refl d
  · refine ⟨⟨by simp, fun ⟨hl, _⟩ => ⟨by simpa using hl, ?_⟩⟩, by rw [h]; rfl⟩
    rw [h]
    intro l wanted hw
    have asked := DelayMemory.ringRequest_of_nextServed hn
    simp only [Option.some.injEq, DelayMemory.issue] at hw
    unfold DelayMemory.ringRequest at asked
    split at hw
    · cases hw
    · rename_i isRead
      cases hw
      simp only [isRead, Bool.false_eq_true, if_false, Line.readRequest] at asked
      split at asked
      · rename_i room
        have := Line.fetchable_length d.lines[ringLine i] readers[ringLine i]
        have := room.1
        dsimp only
        omega
      · cases asked

/-! ## Reading and writing a line (R43, R44) -/

theorem countUp_le (n : Nat) : countUp n ≤ 65535 := Nat.min_le_left _ _

theorem Line.afterRead_sizesOk (ln : Line) (age prev : Int) (h : ln.sizesOk) : (ln.afterRead age prev).sizesOk := by
  obtain ⟨h1, h2, h3, h4, h5, h6, h7⟩ := h
  refine ⟨h1, h2, ?_, h4, (List.length_filter_le _ _).trans h5, h6, h7⟩
  simp only [Line.afterRead]
  split
  · exact countUp_le _
  · exact h3

theorem DelayMemory.Serves.readLine (d : DelayMemory) (l : Fin 4) (age prev : Int) : d.Serves (d.readLine l age prev).2 :=
  .trans (.setLine (v := d.lines[l].afterRead age prev) rfl (Line.afterRead_sizesOk _ age prev) (List.length_filter_le _ _))
    (.mapBurst _ (Burst.pass_owes l _))

theorem DelayMemory.Serves.writeLine (d : DelayMemory) (l : Fin 4) (v : Int) : d.Serves (d.writeLine l v) :=
  .setLine rfl (Line.input_sizesOk _ v) le_rfl

theorem Port.read_serves (p : Port) (l : Fin 4) (age prev : Int) (next : Reader) :
    p.delay.Serves (p.read l age prev next).2.delay := (DelayMemory.Serves.readLine p.delay l age prev).trans (.arbitrate _ _)

theorem Port.write_serves (p : Port) (l : Fin 4) (v : Int) (next : Reader) : p.delay.Serves (p.write l v next).delay :=
  (DelayMemory.Serves.writeLine p.delay l v).trans (.arbitrate _ _)

theorem DelayMemory.Serves.refetch (d : DelayMemory) (l : Fin 4) : d.Serves (d.refetch l) := by
  refine .trans (.setLine (v := { d.lines[l] with readFifo := [] }) rfl ?_ (Nat.zero_le _)) (.mapBurst _ ?_)
  · rintro ⟨h1, h2, h3, h4, -, h6, h7⟩
    exact ⟨h1, h2, h3, h4, Nat.zero_le _, h6, h7⟩
  · intro b l' wanted h
    cases b with
    | read l'' owed =>
      dsimp only at h
      split at h <;> cases h
      · exact ⟨_, rfl, Nat.zero_le _⟩
      · exact ⟨_, rfl, le_rfl⟩
    | write => cases h

theorem refetchChanged_serves (olds news : List Stage) (d : DelayMemory) : d.Serves (refetchChanged d olds news) := by
  induction olds generalizing news d with
  | nil => exact .refl d
  | cons old olds ih =>
    cases news with
    | nil => exact .refl d
    | cons new news =>
      unfold refetchChanged
      refine DelayMemory.Serves.trans ?_ (ih _ _)
      split
      · split
        · exact .refl d
        · exact .refetch d _
      · exact .refl d

theorem DelayMemory.Serves.clearCounts (d : DelayMemory) : d.Serves d.clearCounts := by
  refine ⟨.of_lines rfl (fun l => ?_) (fun l => ?_) fun l wanted h => ⟨wanted, h, le_rfl⟩, ?_⟩
  · rintro ⟨h1, h2, -, -, h5, h6, h7⟩
    simpa [DelayMemory.clearCounts, Line.sizesOk] using ⟨h1, h2, h5, h6, h7⟩
  · simp [DelayMemory.clearCounts]
  · funext l
    simp [DelayMemory.clearCounts, DelayMemory.holder]

/-! ## The completions of bursts (R55) -/

/-- A read burst's samples fit into their FIFO. -/
theorem DelayMemory.Serves.completeRead (d : DelayMemory) : d.Serves d.completeRead := by
  unfold DelayMemory.completeRead
  split
  next l wanted hb =>
    have same : ∀ l' : Fin 4, ({ d.setLine l { d.lines[l] with
        readFifo := d.lines[l].readFifo ++ wanted.map fun p => (p, Memory.sample d.mem l p) } with burst := none } :
          DelayMemory).lines[l'] = if l = l' then { d.lines[l] with
        readFifo := d.lines[l].readFifo ++ wanted.map fun p => (p, Memory.sample d.mem l p) } else d.lines[l'] :=
      fun l' => DelayMemory.lines_setLine d l l' _
    refine ⟨⟨id, fun ⟨hl, hf⟩ => ⟨fun l' => ?_, nofun⟩⟩, ?_⟩
    · rw [same]
      split
      · obtain ⟨h1, h2, h3, h4, -, h6, h7⟩ := hl l
        exact ⟨h1, h2, h3, h4, by simpa using hf l wanted hb, h6, h7⟩
      · exact hl l'
    · funext l'
      unfold DelayMemory.holder
      rw [same]
      split
      · subst_vars
        rfl
      · rfl
  next => exact .refl d

theorem DelayMemory.Serves.completeWrite (d : DelayMemory) : d.Serves d.completeWrite := by
  unfold DelayMemory.completeWrite
  split
  next l entries stale hb =>
    have served : d.Serves (d.setLine l { d.lines[l] with
        writeFifo := if stale then d.lines[l].writeFifo else d.lines[l].writeFifo.drop entries.length }) := by
      refine .setLine rfl (fun h => ?_) le_rfl
      obtain ⟨h1, h2, h3, h4, h5, h6, h7⟩ := h
      refine ⟨h1, h2, h3, h4, h5, ?_, h7⟩
      dsimp only
      split
      · exact h6
      · exact (List.drop_sublist _ _).length_le.trans h6
    exact ⟨⟨fun h => Memory.writeEntries_wf l entries h, fun h => ⟨(served.sizes h).1, nofun⟩⟩, served.holder⟩
  next => exact .refl d

/-! ## Allocation, holding and release (R38, R39, R99) -/

theorem DelayMemory.Sound.hold (d : DelayMemory) (l : Fin 4) (h : Holder) : d.Sound (d.hold l h) := .setLine id le_rfl

@[simp] theorem DelayMemory.holder_hold (d : DelayMemory) (l : Fin 4) (h : Holder) :
    (d.hold l h).holder = Function.update d.holder l h := d.holder_setLine l _

theorem DelayMemory.Sound.release (d : DelayMemory) (l : Fin 4) : d.Sound (d.release l) := by
  refine .trans (.setLine (l := l) (v := { d.lines[l] with holder := .free, readFifo := [], writeFifo := [], window := [] })
    (fun ⟨h1, h2, h3, h4, _, _, _⟩ => ?_) (Nat.zero_le _)) (DelayMemory.Serves.mapBurst _ (Burst.orphan_owes l)).toSound
  exact ⟨h1, h2, h3, h4, Nat.zero_le _, Nat.zero_le _, Nat.zero_le _⟩

@[simp] theorem DelayMemory.holder_release (d : DelayMemory) (l : Fin 4) :
    (d.release l).holder = Function.update d.holder l .free := d.holder_setLine l _

theorem DelayMemory.Sound.promote (d : DelayMemory) : d.Sound d.promote := by
  have line : ∀ l : Fin 4, ∃ h, d.promote.lines[l] = { d.lines[l] with holder := h } := by
    intro l
    simp only [DelayMemory.promote, Fin.getElem_fin, Vector.getElem_ofFn]
    split
    · exact ⟨_, rfl⟩
    · exact ⟨_, rfl⟩
  refine .of_lines rfl (fun l => ?_) (fun l => ?_) fun l wanted h => ⟨wanted, h, le_rfl⟩
  · obtain ⟨h, e⟩ := line l
    rw [e]
    exact id
  · obtain ⟨h, e⟩ := line l
    rw [e]

@[simp] theorem DelayMemory.holder_promote (d : DelayMemory) (l : Fin 4) :
    d.promote.holder l = match d.holder l with
      | .incoming n => .playing n
      | h => h := by
  simp only [DelayMemory.holder, DelayMemory.promote, Fin.getElem_fin, Vector.getElem_ofFn]
  cases h : d.lines[l.val].holder <;> simp [h]

/-- An allocation gives the lowest-numbered FREE line to the stage, or nothing where no line is FREE. -/
theorem DelayMemory.allocate_cases (d : DelayMemory) (n : Nat) :
    (∃ l, d.lowestFree = some l ∧ d.holder l = .free ∧ (d.allocate n).1 = some l ∧ d.Sound (d.allocate n).2 ∧
      (d.allocate n).2.holder = Function.update d.holder l (.incoming n)) ∨
    ((∀ l, d.holder l ≠ .free) ∧ d.allocate n = (none, d)) := by
  unfold DelayMemory.allocate
  split
  next l hl =>
    refine .inl ⟨l, hl, by simpa [DelayMemory.holder] using List.find?_some hl, rfl, .setLine ?_ (Nat.zero_le _), d.holder_setLine l _⟩
    rintro ⟨-, -, h3, h4, -, -, -⟩
    exact ⟨Nat.zero_lt_succ _, Nat.zero_le _, h3, h4, Nat.zero_le _, Nat.zero_le _, Nat.zero_le _⟩
  next hn =>
    refine .inr ⟨fun l hl => ?_, rfl⟩
    exact List.find?_eq_none.1 hn l (List.mem_finRange l) (by simpa [DelayMemory.holder] using hl)

end Sys2Proof.Machine
end

section
/-! SUPPORT. What each operation of a stage, a context and a trail keeps: the line a stage holds, and its ramp position in 0..256
(R33); and the port while a sample is rendered. -/

namespace Sys2Proof.Machine

/-! ## Stages -/

/-- From st to st' the line held is the same, and the ramp position stays in its range. -/
structure Stage.Follows (st st' : Stage) : Prop where
  line : st'.line = st.line
  ramp : st.m ≤ 256 → st'.m ≤ 256

theorem Stage.Follows.refl (st : Stage) : st.Follows st := ⟨rfl, id⟩

theorem Stage.Follows.trans {a b c : Stage} (h : a.Follows b) (h' : b.Follows c) : a.Follows c :=
  ⟨h'.line.trans h.line, h'.ramp ∘ h.ramp⟩

theorem Stage.line_of_run {st : Stage} {dr : DelayRun} (h : st.run = .delay dr) : st.line = dr.line := by
  cases hl : dr.line <;> simp [Stage.line, Stage.lineOffset, h, hl]

theorem Stage.line_of_no_delay {st : Stage} (h : ∀ dr, st.run ≠ .delay dr) : st.line = none := by
  unfold Stage.line Stage.lineOffset
  split
  next dr hr => exact absurd hr (h dr)
  next => rfl

theorem Stage.line_congr {st st' : Stage} (h : st'.run = st.run) : st'.line = st.line := by
  unfold Stage.line Stage.lineOffset
  rw [h]

/-- A change that leaves the running state and the ramp position alone. -/
theorem Stage.Follows.of_run {st st' : Stage} (run : st'.run = st.run) (m : st'.m = st.m) : st.Follows st' :=
  ⟨Stage.line_congr run, fun h => m ▸ h⟩

theorem Stage.closeBlock_follows (st : Stage) : st.Follows st.closeBlock := by
  unfold Stage.closeBlock
  split
  next g h => exact ⟨by rw [Stage.line_of_no_delay (by simp), Stage.line_of_no_delay (by simp [h])], id⟩
  next => exact .refl st

theorem Stage.holdEnd_follows (st : Stage) : st.Follows st.holdEnd := by
  unfold Stage.holdEnd
  split
  next g h => exact ⟨by rw [Stage.line_of_no_delay (by simp), Stage.line_of_no_delay (by simp [h])], id⟩
  next => exact .refl st

theorem Stage.openBlock_follows (st : Stage) (rendered : Bool) (latches : Vector Latch 8) (muting : Bool) (beat : Nat) :
    st.Follows (st.openBlock rendered latches muting beat) := by
  unfold Stage.openBlock
  dsimp only
  split
  · exact .of_run rfl rfl
  · split
    next g h => exact ⟨by rw [Stage.line_of_no_delay (by simp), Stage.line_of_no_delay (fun dr hd => by cases hd.symm.trans h)], id⟩
    next dr h => exact ⟨by rw [Stage.line_of_run rfl, Stage.line_of_run (st := st) h], id⟩
    next => exact .of_run rfl rfl

theorem Stage.setRamp_follows (latches : Vector Latch 8) (muting : Bool) (st : Stage) : st.Follows (st.setRamp latches muting) := by
  refine ⟨Stage.line_congr rfl, fun _ => ?_⟩
  simp only [Stage.setRamp]
  split <;> omega

theorem Stage.write_follows (st : Stage) (id : Nat) (v : Int) : st.Follows (st.write id v) := by
  unfold Stage.write
  split_ifs
  · exact .of_run rfl rfl
  · exact .of_run rfl rfl
  · exact .of_run rfl rfl
  · split <;> exact .of_run rfl rfl

theorem Stage.fresh_follows (st : Stage) : st.Follows st.fresh := by
  unfold Stage.fresh
  split
  next b h => exact ⟨by rw [Stage.line_of_no_delay (by simp), Stage.line_of_no_delay (by simp [h])], id⟩
  next g h => exact ⟨by rw [Stage.line_of_no_delay (by simp), Stage.line_of_no_delay (by simp [h])], id⟩
  next => exact .refl st

theorem Stage.stepRamp_follows (st : Stage) : st.Follows st.stepRamp := by
  have moved : st.Follows { st with m := if st.target then min 256 (st.m + 1) else st.m - 1 } := by
    refine ⟨Stage.line_congr rfl, fun h => ?_⟩
    dsimp only
    split <;> omega
  unfold Stage.stepRamp
  dsimp only
  split
  · exact moved.trans (Stage.fresh_follows _)
  · exact moved

/-- A stage that is computed keeps the line of its running state. -/
theorem Stage.compute_follows (st : Stage) (banks : Vector Table 8) (k : Nat) (x : Int) :
    st.Follows { st with run := (st.compute banks k x).2 } := by
  unfold Stage.compute
  split
  next => exact .of_run rfl rfl
  next b _ h => exact ⟨by rw [Stage.line_of_no_delay (by simp), Stage.line_of_no_delay (by simp [h])], id⟩
  next => exact .of_run rfl rfl
  next g _ h => exact ⟨by rw [Stage.line_of_no_delay (by simp), Stage.line_of_no_delay (by simp [h])], id⟩
  next => exact .of_run rfl rfl

theorem Stage.render_follows (st : Stage) (banks : Vector Table 8) (k : Nat) (p : Port) (x : Int) :
    st.Follows (st.render banks k p x).stage := by
  refine (Stage.stepRamp_follows st).trans ?_
  unfold Stage.render
  generalize st.stepRamp = st
  dsimp only
  split
  next dr _ hr =>
    split
    next l hl => exact ⟨by rw [Stage.line_of_run hr, delayOut, Stage.line_of_run rfl], id⟩
    next => exact .refl st
  next => split <;> exact .refl st
  next =>
    split
    · exact .refl st
    · exact Stage.compute_follows st banks k x

theorem Stage.render_serves (st : Stage) (banks : Vector Table 8) (k : Nat) (p : Port) (x : Int) :
    p.delay.Serves (st.render banks k p x).port.delay := by
  unfold Stage.render
  dsimp only
  split
  next =>
    split
    · exact (Port.read_serves p _ _ _ _).trans (Port.write_serves _ _ _ _)
    · exact .refl _
  next => split <;> exact .refl _
  next => split <;> exact .refl _

theorem renderStages_serves (banks : Vector Table 8) (k : Nat) (sts : List Stage) (p : Port) (x : Int) :
    p.delay.Serves (renderStages banks k sts p x).port.delay := by
  induction sts generalizing p x with
  | nil => exact .refl _
  | cons st rest ih => exact (st.render_serves banks k p x).trans (ih _ _)

/-! ## Contexts -/

/-- From c to c' no stage's line changes, and ramp positions stay in range. -/
structure Context.Follows (c c' : Context) : Prop where
  lines : c'.stageLines = c.stageLines
  ramps : c.rampsOk → c'.rampsOk

theorem Context.Follows.refl (c : Context) : c.Follows c := ⟨rfl, id⟩

theorem Context.Follows.trans {a b c : Context} (h : a.Follows b) (h' : b.Follows c) : a.Follows c :=
  ⟨h'.lines.trans h.lines, h'.ramps ∘ h.ramps⟩

/-- Only the stages matter. -/
theorem Context.Follows.of_stages {c c' : Context} (h : c'.stages = c.stages) : c.Follows c' := by
  refine ⟨by rw [Context.stageLines, h]; rfl, ?_⟩
  unfold Context.rampsOk
  rw [h]
  exact id

theorem Context.mapStages_follows (c : Context) {f : Stage → Stage} (h : ∀ st : Stage, st.Follows (f st)) : c.Follows (c.mapStages f) where
  lines := by
    simp only [Context.stageLines, Context.mapStages, List.map_map]
    exact List.map_congr_left fun st _ => (h st).line
  ramps := fun ok st hst => by
    obtain ⟨st', hst', rfl⟩ := List.mem_map.1 hst
    exact (h st').ramp (ok st' hst')

theorem Context.setStage_follows (c : Context) {n : Nat} {st st' : Stage} (hn : c.stages[n]? = some st) (h : st.Follows st') :
    c.Follows { c with stages := c.stages.set n st' } where
  lines := by
    obtain ⟨_, rfl⟩ := List.getElem?_eq_some_iff.1 hn
    simp only [Context.stageLines]
    rw [List.map_set, h.line, ← List.map_set, List.set_getElem_self]
  ramps := fun ok x hx => by
    rcases List.mem_or_eq_of_mem_set hx with hx | rfl
    · exact ok x hx
    · exact h.ramp (ok st (List.mem_of_getElem? hn))

theorem renderStages_follows (banks : Vector Table 8) (k : Nat) (sts : List Stage) (p : Port) (x : Int) :
    List.Forall₂ Stage.Follows sts (renderStages banks k sts p x).stages := by
  induction sts generalizing p x with
  | nil => exact .nil
  | cons st rest ih => exact .cons (st.render_follows banks k p x) (ih _ _)

/-- Stages that follow one by one. -/
theorem Stage.follows_forall₂ {sts sts' : List Stage} (h : List.Forall₂ Stage.Follows sts sts') :
    sts'.map Stage.line = sts.map Stage.line ∧ ((∀ st ∈ sts, st.m ≤ 256) → ∀ st ∈ sts', st.m ≤ 256) := by
  induction h with
  | nil => exact ⟨rfl, id⟩
  | cons h _ ih =>
    obtain ⟨lines, ramps⟩ := ih
    refine ⟨by rw [List.map_cons, List.map_cons, lines, h.line], ?_⟩
    simp only [List.forall_mem_cons]
    exact fun ⟨ok, oks⟩ => ⟨h.ramp ok, ramps oks⟩

theorem Context.render_follows (c : Context) (banks : Vector Table 8) (k : Nat) (p : Port) (ab : Pair) :
    c.Follows (c.render banks k p ab).context :=
  have each := Stage.follows_forall₂ (renderStages_follows banks k c.stages p _)
  ⟨each.1, each.2⟩

theorem Context.render_serves (c : Context) (banks : Vector Table 8) (k : Nat) (p : Port) (ab : Pair) :
    p.delay.Serves (c.render banks k p ab).port.delay := renderStages_serves banks k c.stages p _

/-! ## Trails -/

theorem Trail.render_mark (t : Trail) (p : Port) : (t.render p).trail.mark = t.mark := by
  unfold Trail.render
  split
  next j h =>
    split
    · simp [Trail.renderCutting, Trail.mark, h]
    · rfl
  next => rfl

theorem renderTrails_marks (ts : List Trail) (p : Port) : (renderTrails ts p).1.map Trail.mark = ts.map Trail.mark := by
  induction ts generalizing p with
  | nil => rfl
  | cons t rest ih => exact List.cons_eq_cons.2 ⟨t.render_mark p, ih _⟩

theorem Trail.render_serves (t : Trail) (p : Port) : p.delay.Serves (t.render p).port.delay := by
  unfold Trail.render
  split
  · split
    · exact Port.read_serves p _ _ _ _
    · exact .refl _
  · exact (Port.read_serves p _ _ _ _).trans (Port.write_serves _ _ _ _)

theorem renderTrails_serves (ts : List Trail) (p : Port) : p.delay.Serves (renderTrails ts p).2.1.delay := by
  induction ts generalizing p with
  | nil => exact .refl _
  | cons t rest ih => exact (t.render_serves p).trans (ih _)

theorem Trail.closeBlock_mark (t : Trail) : t.closeBlock.mark = t.mark := by
  unfold Trail.closeBlock
  split <;> rfl

theorem Trail.openBlock_mark (t : Trail) : t.openBlock.mark = t.mark := by
  unfold Trail.openBlock
  split
  next h => simp [Trail.mark, h]
  next => rfl

/-! ## The scene manager -/

theorem SceneManager.Follows.refl (m : SceneManager) : m.Follows m := ⟨rfl, id⟩

theorem SceneManager.Follows.trans {a b c : SceneManager} (h : a.Follows b) (h' : b.Follows c) : a.Follows c :=
  ⟨h'.holdings.trans h.holdings, h'.ramps ∘ h.ramps⟩

/-- From sc to sc' the built context holds the same lines, and the incoming one's ramp positions stay in range. -/
structure Scene.Follows (sc sc' : Scene) : Prop where
  lines : sc'.builtLines = sc.builtLines
  ramps : (∀ c, sc.incoming = some c → c.rampsOk) → ∀ c, sc'.incoming = some c → c.rampsOk

theorem Scene.Follows.refl (sc : Scene) : sc.Follows sc := ⟨rfl, id⟩

theorem Scene.incoming_mapIncoming (sc : Scene) (f : Context → Context) : (sc.mapIncoming f).incoming = sc.incoming.map f := by
  cases sc <;> rfl

theorem Scene.incoming_of_built {sc : Scene} {c : Context} (h : sc.built = some c) : sc.incoming = some c := by
  cases sc <;> first | exact h | cases h

theorem Scene.mapIncoming_follows (sc : Scene) {f : Context → Context} (h : ∀ c, sc.incoming = some c → c.Follows (f c)) :
    sc.Follows (sc.mapIncoming f) where
  lines := by
    rw [Scene.builtLines, Scene.builtLines, Scene.built_mapIncoming]
    cases hb : sc.built with
    | none => rfl
    | some c => exact (h c (Scene.incoming_of_built hb)).lines
  ramps := fun ok c hc => by
    rw [Scene.incoming_mapIncoming] at hc
    obtain ⟨c', hc', rfl⟩ := Option.map_eq_some_iff.1 hc
    exact (h c' hc').ramps (ok c' hc')

theorem SceneManager.Follows.of_parts {m n : SceneManager} (playing : m.playing.Follows n.playing) (scene : m.scene.Follows n.scene)
    (trails : n.trails.map Trail.mark = m.trails.map Trail.mark) : m.Follows n where
  holdings := by rw [SceneManager.holdings, playing.lines, scene.lines, trails]; rfl
  ramps := fun ⟨hp, hi⟩ => ⟨playing.ramps hp, scene.ramps hi⟩

theorem SceneManager.setEdit_follows (m : SceneManager) {c : Context} (h : m.editContext.Follows c) : m.Follows (m.setEdit c) := by
  unfold SceneManager.setEdit
  unfold SceneManager.editContext at h
  split
  next b hb =>
    rw [hb] at h
    refine .of_parts (.refl _) (Scene.mapIncoming_follows _ fun c' hc' => ?_) rfl
    obtain rfl : b = c' := Option.some.inj ((Scene.incoming_of_built hb).symm.trans hc')
    exact h
  next hb =>
    rw [hb] at h
    exact .of_parts h (.refl _) rfl

theorem SceneManager.writeParam_follows (m : SceneManager) (stage id : Nat) (v : Int) : m.Follows (m.writeParam stage id v) := by
  unfold SceneManager.writeParam
  dsimp only
  split
  next st hst => exact m.setEdit_follows (Context.setStage_follows _ hst (st.write_follows id v))
  next => exact .refl m

end Sys2Proof.Machine
end

section
/-! SUPPORT. What posting reports, the cue unit, the tempo unit and the tuner keep (R133, R142, R146, R182). -/

namespace Sys2Proof.Machine

/-! ## Reports (R182, R183) -/

theorem Link.post_ok {l : Link} (h : l.ok) (k : ReportKind) (sub : Byte) (payload : List Byte) : (l.post k sub payload).ok := by
  obtain ⟨total, reports, mask⟩ := h
  rcases post_cases l k sub payload with e | ⟨-, room, e⟩ | ⟨-, e⟩ | ⟨slot, -, e⟩ <;> rw [e]
  · exact ⟨total, reports, mask⟩
  · have grown : ∀ r : OutRecord, (l.queue ++ [r]).length ≤ 22 := fun r => by
      rw [List.length_append, List.length_singleton]
      omega
    exact ⟨(grown _).trans (by omega), (List.length_filter_le _ _).trans (grown _), mask⟩
  · exact ⟨total, reports, mask⟩
  · unfold Link.ok
    rw [place_queue, place_mask]
    exact ⟨total, reports, mask⟩

theorem Link.post_room {l : Link} (h : l.queue.length ≤ 23) (k : ReportKind) (sub : Byte) (payload : List Byte) :
    (l.post k sub payload).queue.length ≤ 23 := by
  rcases post_cases l k sub payload with e | ⟨-, room, e⟩ | ⟨-, e⟩ | ⟨slot, -, e⟩ <;> rw [e]
  · exact h
  · rw [List.length_append, List.length_singleton]
    omega
  · exact h
  · rwa [place_queue]

theorem State.Works.post (s : State) (k : ReportKind) (sub : Byte) (payload : List Byte) : s.Works (s.post k sub payload) :=
  .withLink (fun h => Link.post_ok h k sub payload) fun h => Link.post_room h k sub payload

/-- What leaves the queue and the mask of the link alone. -/
theorem State.Works.withLink_same {s : State} {v : Link} (queue : v.queue = s.link.queue) (mask : v.mask = s.link.mask) :
    s.Works (s.withLink v) := by
  refine .withLink ?_ (by rw [queue]; exact id)
  unfold Link.ok
  rw [queue, mask]
  exact id

theorem State.endRead_works (s : State) : s.Works s.endRead :=
  .trans (.withPins (v := { s.pins with sent := [] }) id) (.withLink_same rfl rfl)

theorem State.dropFrame_works (s : State) : s.Works s.dropFrame := s.endRead_works.trans (.withLink_same rfl rfl)

/-- A record read whole leaves the queue (R180). -/
theorem Link.remove_queue (l : Link) (h : ReadHead) : (l.remove h).queue.Sublist l.queue ∧ (l.remove h).mask = l.mask := by
  unfold Link.remove
  split
  · exact ⟨List.drop_sublist _ _, rfl⟩
  · split
    · exact ⟨.refl _, rfl⟩
    · rename_i slot _ _ _
      cases slot <;> exact ⟨.refl _, rfl⟩
  · exact ⟨.refl _, rfl⟩

theorem State.Works.withLink_fewer {s : State} {v : Link} (queue : v.queue.Sublist s.link.queue) (mask : v.mask = s.link.mask) :
    s.Works (s.withLink v) := by
  refine .withLink (fun ⟨total, reports, bits⟩ => ⟨queue.length_le.trans total, ?_, mask ▸ bits⟩) queue.length_le.trans
  exact (queue.filter _).length_le.trans reports

theorem State.startRead_works (s : State) : s.Works s.startRead :=
  .trans (.withPins (v := { s.pins with sent := [0, s.link.statusByte] }) id) (.withLink_same rfl rfl)

theorem State.releaseRead_works (s : State) (clocked : Nat) : s.Works (s.releaseRead clocked) := by
  unfold State.releaseRead
  split
  · exact .refl s
  · refine .trans (.withPins ?_) (.withLink_fewer ?_ ?_)
    · exact id
    · dsimp only
      split
      · exact (s.link.remove_queue _).1
      · exact .refl _
    · dsimp only
      split
      · exact (s.link.remove_queue _).2
      · rfl

theorem State.readRecord_works (s : State) (e : ReadEvent) : s.Works (s.readRecord e) := by
  unfold State.readRecord
  split
  · exact s.endRead_works
  · exact (s.endRead_works.trans (State.startRead_works _)).trans (State.releaseRead_works _ _)
  · exact s.endRead_works.trans (State.startRead_works _)
  · exact s.releaseRead_works _

/-! ## Requests (R177..R179) -/

/-- A reply is no report (R179, R194). -/
theorem replyRecord_isReport (kind tag : Byte) (status : Status) (payload : List Byte) :
    (replyRecord kind tag status payload).isReport = false := by
  have top : (0x80 : Byte).msb = true := by decide
  simp only [replyRecord, OutRecord.isReport, BitVec.msb_or, top, Bool.or_true, Bool.not_true]

theorem Answer.post_keeps {s : State} {a : Answer} (room : s.link.queue.length ≤ 23) (h : s.Works a.state) (kind tag : Byte) :
    s.Keeps (a.post kind tag) where
  pending := h.pending
  mem := h.mem
  link := fun ok => by
    obtain ⟨-, reports, mask⟩ := h.link ok
    have := h.room room
    refine ⟨?_, ?_, mask⟩
    · simp only [Answer.post, State.withLink_link, List.length_append, List.length_singleton]
      omega
    · simpa [Answer.post, List.filter_append, replyRecord_isReport] using reports
  outputs := h.outputs
  ramps := h.ramps
  tempo := h.tempo
  store := h.store
  lines := h.lines
  sizes := h.sizes

/-- A request keeps the invariants if its body works; a request that is dropped or refused by a common check does (R177, R178). -/
theorem State.request_keeps {body : State → List Byte → Answer} (h : ∀ (s : State) (p : List Byte), s.Works (body s p).state) (s : State) (kind : Byte)
    (f : Frame) (known early : Bool) (fits : Nat → Bool) : s.Keeps (s.request kind f known early fits body) := by
  refine s.endRead_works.toKeeps.trans ?_
  unfold State.request
  generalize s.endRead = s
  dsimp only
  split
  · exact (State.Works.withLink_same (v := { s.link with dropped := true }) rfl rfl).toKeeps
  · rename_i notFull
    have room : s.link.queue.length < 24 := by
      by_contra full
      exact notFull (by simp [Config.queueLength, not_lt.1 full])
    refine Answer.post_keeps (by omega) ?_ kind f.tag
    split
    · exact .refl s
    · split
      · exact .refl s
      · split
        · exact .refl s
        · split
          · exact .refl s
          · exact h s f.payload

/-! ## The cue unit's queues (R133, R142) -/

theorem CueUnit.enqueue_sizesOk (u : CueUnit) (c : Cue) (h : u.sizesOk) : (u.enqueue c).sizesOk := by
  obtain ⟨hq, hf, hd⟩ := h
  rcases u.enqueue_cases c with ⟨room, e⟩ | ⟨-, -, q, hlen, e⟩ | ⟨-, e⟩ <;> rw [e]
  · exact ⟨by rw [List.length_append, List.length_singleton]; omega, hf, hd⟩
  · exact ⟨hlen ▸ hq, hf, hd⟩
  · exact ⟨hq, hf, hd⟩

theorem State.makeCue_works (s : State) (src : BitVec 4) (k : CueKind) (i : BitVec 8) (v : BitVec 10) :
    s.Works (s.makeCue src k i v) := .withCues (CueUnit.enqueue_sizesOk _ _)

theorem CueUnit.discard_sizesOk (u : CueUnit) (frame : List Byte) (h : u.sizesOk) : ({ u.discard with frame := frame } : CueUnit).sizesOk :=
  ⟨h.1, h.2.1, countUp_le _⟩

/-! ## The scanners (R120..R127) -/

theorem State.debounce_works (s : State) (i : Fin 8) : s.Works (s.debounce i) := by
  unfold State.debounce
  dsimp only
  split
  · split
    · exact (State.makeCue_works _ _ _ _ _).after (.withCues id)
    · exact .withCues id
  · exact .refl s

theorem State.holdCue_works (s : State) (i : Fin 8) : s.Works (s.holdCue i) := by
  unfold State.holdCue
  dsimp only
  split
  · exact (State.makeCue_works _ _ _ _ _).after (.withCues id)
  · exact .refl s

theorem State.settleSwitches_works (s : State) (n : Nat) : s.Works (s.settleSwitches n) :=
  .foldl (fun s i => (s.debounce_works i).trans (State.holdCue_works _ i)) _ s

theorem State.setPedal_works (s : State) (i : Fin 4) (p : Pedal) : s.Works (s.setPedal i p) := .withCues id

theorem State.pedalCue_works (s : State) (i : Fin 4) (v : Nat) : s.Works (s.pedalCue i v) := State.makeCue_works _ _ _ _ _

theorem State.scanPedals_works (s : State) (l : List (Fin 4)) : s.Works (s.scanPedals l) := by
  induction l generalizing s with
  | nil => exact .withCues id
  | cons i l ih =>
    unfold State.scanPedals
    dsimp only
    split
    · exact ih s
    · split
      · exact .after (.withCues id) (s.setPedal_works i _)
      · split
        · exact ((ih _).after (State.pedalCue_works _ i _)).after (s.setPedal_works i _)
        · exact (ih _).after (s.setPedal_works i _)

theorem State.reportPedal_works (s : State) (i : Fin 4) (p : Pedal) : s.Works (s.reportPedal i p) := .post _ _ _ _

theorem State.takeUnplug_works (s : State) (i : Fin 4) : s.Works (s.takeUnplug i) :=
  .ite (fun _ => ((s.setPedal_works i _).trans (State.reportPedal_works _ i _)).trans (State.scanPedals_works _ _))
    fun _ => .refl s

theorem State.takePlug_works (s : State) (i : Fin 4) : s.Works (s.takePlug i) := by
  refine .ite (fun _ => .ite (fun _ => ?_) fun _ => ?_) fun _ => .refl s
  · exact ((s.setPedal_works i _).trans (State.reportPedal_works _ i _)).trans (State.scanPedals_works _ _)
  · exact (((s.setPedal_works i _).trans (State.reportPedal_works _ i _)).trans (State.pedalCue_works _ i _)).trans
      (State.scanPedals_works _ _)

theorem State.settlePlugs_works (s : State) (n : Nat) : s.Works (s.settlePlugs n) := by
  induction n generalizing s with
  | zero => exact .refl s
  | succ n ih =>
    unfold State.settlePlugs
    split
    · exact ((s.takeUnplug_works _).trans (State.takePlug_works _ _)).trans (ih _)
    · exact .refl s

theorem State.takePedalScan_works (s : State) : s.Works s.takePedalScan := by
  unfold State.takePedalScan
  dsimp only
  split
  · refine ((State.scanPedals_works _ _).after (.withCues ?_)).after (s.settlePlugs_works 4)
    exact id
  · exact .refl s

/-! ## The control port (R130..R132) -/

theorem State.receiveByte_works (s : State) (b : Byte) (framingError : Bool) : s.Works (s.receiveByte b framingError) := by
  unfold State.receiveByte
  dsimp only
  split
  · exact .refl s
  split
  · split
    · exact .withCues id
    · exact .withCues (CueUnit.discard_sizesOk _ _)
  split
  · split
    · exact .withCues id
    · exact .withCues (CueUnit.discard_sizesOk _ _)
  split
  · exact .withCues (CueUnit.discard_sizesOk s.cues s.cues.frame)
  · split
    · exact .withCues fun h => CueUnit.enqueue_sizesOk { s.cues with frame := [] } _ h
    · exact .withCues fun h => CueUnit.discard_sizesOk { s.cues with frame := [] } [] h
  · exact .withCues id

/-! ## The tempo unit (R146..R155) -/

theorem beatOk_clamp (v : Nat) : beatOk (clampNat Config.beatMin Config.beatMax v) := by
  simp only [clampNat, Config.beatMin, Config.beatMax, beatOk]
  omega

theorem beatInRange_iff (n : Nat) : beatInRange n = true ↔ beatOk n := by
  rw [beatInRange, Bool.and_eq_true, decide_eq_true_iff, decide_eq_true_iff]
  rfl

/-- The mean of intervals in range is in range. -/
theorem beatOk_mean {run : List Nat} (ne : run ≠ []) (h : ∀ i ∈ run, beatOk i) : beatOk (run.sum / run.length) := by
  have pos : 0 < run.length := List.length_pos_iff.2 ne
  have low : run.length * 12000 ≤ run.sum := by
    simpa using List.card_nsmul_le_sum run 12000 fun i hi => (h i hi).1
  have high : run.sum ≤ run.length * 144000 := by
    simpa using List.sum_le_card_nsmul run 144000 fun i hi => (h i hi).2
  refine ⟨(Nat.le_div_iff_mul_le pos).2 (by omega), ?_⟩
  exact Nat.div_le_of_le_mul high

theorem Tempo.advance_ok {t : Tempo} (h : t.ok) : t.advance.ok := h

/-- The oldest entry gives way once `n` stand. -/
theorem length_dropOldest_append {α : Type} {n : Nat} {l : List α} (h : l.length ≤ n) (hn : 0 < n) (a : α) :
    ((if n ≤ l.length then l.drop 1 else l) ++ [a]).length ≤ n := by
  split <;> simp <;> omega

theorem mem_dropOldest_append {α : Type} {n : Nat} {l : List α} {a b : α}
    (h : b ∈ (if n ≤ l.length then l.drop 1 else l) ++ [a]) : b ∈ l ∨ b = a := by
  rw [List.mem_append, List.mem_singleton] at h
  refine h.imp_left fun h => ?_
  split at h
  · exact List.mem_of_mem_drop h
  · exact h

theorem Tempo.tap_ok {t : Tempo} (h : t.ok) (stamp : Stamp) : (t.tap stamp).ok := by
  obtain ⟨beat, locked, taps, tapCount, clocks, count, eight⟩ := h
  unfold Tempo.tap
  split
  · exact ⟨beat, locked, taps, tapCount, clocks, count, eight⟩
  · rename_i unlocked
    split
    · exact ⟨beat, locked, by simp, Nat.zero_le _, clocks, count, eight⟩
    · rename_i last _
      dsimp only
      split
      · exact ⟨beat, locked, taps, tapCount, clocks, count, eight⟩
      rename_i short
      split
      · exact ⟨beat, locked, by simp, Nat.zero_le _, clocks, count, eight⟩
      rename_i long
      have inRange : ∀ i ∈ (if 4 ≤ t.tapRun.length then t.tapRun.drop 1 else t.tapRun) ++ [interval stamp last], beatOk i := by
        intro i hi
        rcases mem_dropOldest_append hi with hi | rfl
        · exact taps i hi
        · exact ⟨not_lt.1 short, not_lt.1 long⟩
      exact ⟨beatOk_mean (by simp) inRange, fun on => absurd on unlocked, inRange,
        length_dropOldest_append tapCount (by decide) _, clocks, count, eight⟩

theorem Tempo.lock_ok {t : Tempo} (h : t.ok) (due : t.lockDue = true) : t.lock.ok := by
  obtain ⟨beat, locked, taps, tapCount, clocks, count, eight⟩ := h
  simp only [Tempo.lockDue, Bool.and_eq_true, beatInRange_iff] at due
  exact ⟨due.2, fun _ => rfl, by simp [Tempo.lock, Tempo.emptyTaps], Nat.zero_le _, clocks, Nat.zero_le _, nofun⟩

theorem Tempo.update_ok {t : Tempo} (h : t.ok) : t.update.ok := by
  obtain ⟨beat, locked, taps, tapCount, clocks, count, eight⟩ := h
  exact ⟨beatOk_clamp _, locked, by simp [Tempo.update, Tempo.emptyTaps], Nat.zero_le _, clocks, Nat.zero_le _, nofun⟩

theorem Tempo.expire_ok {t : Tempo} (h : t.ok) : t.expire.ok := by
  obtain ⟨beat, locked, taps, tapCount, clocks, count, eight⟩ := h
  unfold Tempo.expire
  dsimp only
  split
  · exact ⟨beat, nofun, taps, tapCount, Nat.zero_le _, Nat.zero_le _, nofun⟩
  · exact ⟨beat, locked, taps, tapCount, Nat.zero_le _, Nat.zero_le _, nofun⟩

theorem Tempo.setBeat_ok {t : Tempo} (h : t.ok) (unlocked : t.locked = false) (v : Nat) (source : TempoSource) :
    (t.setBeat v source).ok := by
  obtain ⟨beat, locked, taps, tapCount, clocks, count, eight⟩ := h
  refine ⟨beatOk_clamp v, fun on => ?_, by simp [Tempo.setBeat, Tempo.emptyTaps], Nat.zero_le _, clocks, count, eight⟩
  exact absurd (unlocked.symm.trans on) (by decide)

theorem Tempo.preset_ok {t : Tempo} (h : t.ok) (v : Nat) : (t.preset v).ok := by
  unfold Tempo.preset
  split
  · exact h
  · exact Tempo.setBeat_ok h (Bool.eq_false_iff.2 ‹_›) v .preset

/-- An interval that joins a clock run of fewer than eight. -/
theorem Tempo.joinClock_sizes {t : Tempo} (run : t.clockRun.length ≤ 8) (count : t.clockCount < 8) (i : Nat) :
    (t.joinClock i).clockRun.length ≤ 8 ∧ (t.joinClock i).clockCount ≤ 8 ∧
      ∃ first run count, t.joinClock i = { t with clockFirst := first, clockRun := run, clockCount := count } := by
  unfold Tempo.joinClock
  split
  · exact ⟨by simp, by simp, _, _, _, rfl⟩
  · split
    · exact ⟨length_dropOldest_append run (by decide) i, count, _, _, _, rfl⟩
    · exact ⟨by simp, by simp, _, _, _, rfl⟩

/-- A clock that comes while no lock and no update waits (R151). -/
theorem Tempo.clock_ok {t : Tempo} (h : t.ok) (notDue : t.clockCount ≠ 8) (stamp : Stamp) : (t.clock stamp).ok := by
  obtain ⟨beat, locked, taps, tapCount, clocks, count, -⟩ := h
  unfold Tempo.clock
  dsimp only
  split
  · exact ⟨beat, locked, taps, tapCount, Nat.zero_le _, Nat.zero_le _, nofun⟩
  · rename_i last _
    obtain ⟨run, joined, first', run', count', e⟩ := Tempo.joinClock_sizes (t := { t with loss := some Config.clockLoss }) clocks
      (by dsimp only; omega) (interval stamp last)
    rw [e] at run joined ⊢
    dsimp only at run joined ⊢
    split
    · exact ⟨beat, locked, taps, tapCount, Nat.zero_le _, Nat.zero_le _, nofun⟩
    · rename_i keep
      refine ⟨beat, locked, taps, tapCount, run, joined, fun eight => ?_⟩
      simp only [not_and, Bool.not_eq_true, Bool.not_eq_false'] at keep
      by_cases on : t.locked = true
      · exact .inl on
      · exact .inr (by simpa [on] using keep eight)

theorem State.Works.changeTempo {s u : State} {t : Tempo} (h : s.Works u) (ok : s.tempo.ok → t.ok) : s.Works (u.changeTempo t) :=
  .ite (fun _ => h.withTempo ok) fun _ => (State.Works.post _ _ _ _).after (h.withTempo ok)

theorem State.takeClockLock_works (s : State) : s.Works s.takeClockLock :=
  .ite (fun due => (State.Works.refl s).changeTempo fun h => Tempo.lock_ok h due) fun _ => .refl s

theorem State.takeClockUpdate_works (s : State) : s.Works s.takeClockUpdate :=
  .ite (fun _ => (State.Works.refl s).changeTempo Tempo.update_ok) fun _ => .refl s

theorem State.takeClockLoss_works (s : State) : s.Works s.takeClockLoss :=
  .ite (fun _ => (State.Works.refl s).changeTempo Tempo.expire_ok) fun _ => .refl s

theorem State.takeTap_works (s : State) (stamp : Stamp) : s.Works (s.takeTap stamp) :=
  (State.Works.refl s).changeTempo fun h => Tempo.tap_ok h stamp

/-- After a lock and an update are taken none waits. -/
theorem State.clockCount_after_lock_update {s : State} (h : s.tempo.ok) :
    s.takeClockLock.takeClockUpdate.tempo.clockCount ≠ 8 := by
  unfold State.takeClockUpdate
  split
  · simp [Tempo.update]
  · rename_i noUpdate
    unfold State.takeClockLock at noUpdate ⊢
    split
    · simp [Tempo.lock]
    · rename_i noLock
      rw [if_neg noLock] at noUpdate
      simp only [Tempo.updateDue, Tempo.lockDue] at noUpdate noLock
      intro eight
      obtain ⟨-, -, -, -, -, -, waits⟩ := h
      rcases waits eight with on | sum
      · exact noUpdate (by simp [on, eight])
      · refine noUpdate ?_
        have : s.tempo.locked = true := by
          by_contra off
          exact noLock (by simp [Bool.eq_false_iff.2 off, eight, sum])
        simp [this, eight]

theorem State.takeClock_works (s : State) (stamp : Stamp) : s.Works (s.takeClock stamp) := by
  have before : s.Works s.takeClockLock.takeClockUpdate := (State.takeClockUpdate_works _).after s.takeClockLock_works
  exact before.changeTempo fun ok => Tempo.clock_ok (before.tempo ok) (State.clockCount_after_lock_update ok) stamp

/-! ## The tuner (R164..R174) -/

theorem State.reportTunerIf_works (s : State) (b : Bool) : s.Works (s.reportTunerIf b) :=
  .ite (fun _ => .ite (fun _ => (State.Works.withTuner _ _).after (.post _ _ _ _)) fun _ => .refl s) fun _ => .refl s

theorem State.takeTunerRun_works (s : State) : s.Works s.takeTunerRun :=
  .ite (fun _ => (State.reportTunerIf_works _ _).after (.withTuner _ _)) fun _ => .refl s

theorem State.takeTunerLoss_works (s : State) : s.Works s.takeTunerLoss :=
  .ite (fun _ => (State.reportTunerIf_works _ _).after (.withTuner _ _)) fun _ => .refl s

theorem State.setTuner_works (s : State) (v : TunerSettings) (m : TunerMode) : s.Works (s.setTuner v m) :=
  ((State.reportTunerIf_works _ _).after (.withTuner _ _)).trans (.withTuner _ _)

/-! ## The cue FIFO (R142..R144) -/

theorem State.reportCuesIf_works (s : State) (b : Bool) : s.Works (s.reportCuesIf b) :=
  .ite (fun _ => .post _ _ _ _) fun _ => .refl s

theorem State.copyCue_works (s : State) (c : Cue) (n : Fin 24) : s.Works (s.copyCue c n) := by
  unfold State.copyCue
  split
  · rename_i room
    refine (State.reportCuesIf_works _ _).after (.withCues ?_)
    rintro ⟨hq, -, hd⟩
    refine ⟨hq, ?_, hd⟩
    rw [List.length_append, List.length_singleton]
    exact room
  · exact .withCues id

end Sys2Proof.Machine
end

section
/-! SUPPORT. How lines change hands (R38, R39, R46, R89, R98..R100): each operation of the scene manager that moves a line, with the line
table that goes with it. -/

namespace Sys2Proof.Machine

/-! ## Moves of the holders -/

section
variable {h : Holdings} {holder : Fin 4 → Holder} (agree : h.Agree holder)
include agree

/-- A stage that gives up its built context's lines: none is incoming any more. -/
theorem Holdings.Agree.drop_incoming {holder' : Fin 4 → Holder}
    (freed : ∀ l, some l ∈ h.incoming → holder' l = .free) (others : ∀ l, some l ∉ h.incoming → holder' l = holder l) :
    Holdings.Agree { h with incoming := [] } holder' := by
  have notIncoming : ∀ l k, holder l = k → (∀ n, k ≠ .incoming n) → holder' l = k := by
    intro l k hk hne
    by_cases hi : some l ∈ h.incoming
    · obtain ⟨n, hn⟩ := List.mem_iff_getElem?.1 hi
      exact absurd (hk.symm.trans ((agree.incoming l n).2 hn)) (hne n)
    · rw [others l hi, hk]
  have back : ∀ l k, holder' l = k → k ≠ .free → holder l = k ∧ some l ∉ h.incoming := by
    intro l k hk hne
    by_cases hi : some l ∈ h.incoming
    · exact absurd (hk.symm.trans (freed l hi)) hne
    · exact ⟨(others l hi).symm.trans hk, hi⟩
  have same : ∀ l k, k ≠ .free → (∀ n, k ≠ .incoming n) → (holder' l = k ↔ holder l = k) := fun l k hf hi =>
    ⟨fun e => (back l k e hf).1, fun e => notIncoming l k e hi⟩
  refine ⟨fun l n => ?_, fun l n => ?_, fun l => ?_, fun l => ?_, agree.once⟩
  · rw [same l (.playing n) nofun nofun, agree.playing]
  · refine ⟨fun e => ?_, fun e => by simp at e⟩
    obtain ⟨e, out⟩ := back l _ e nofun
    exact absurd (List.mem_of_getElem? ((agree.incoming l n).1 e)) out
  · rw [same l .trail nofun nofun, agree.trail]
  · rw [same l .cutting nofun nofun, agree.cutting]

/-- A running trail's entry becomes a cut one. -/
theorem Holdings.Agree.cut {l : Fin 4} {trails : List (Fin 4 × Bool)} (was : (l, true) ∈ h.trails)
    (lines : trails.map Prod.fst = h.trails.map Prod.fst)
    (entries : ∀ l' b, (l', b) ∈ trails ↔ if l' = l then b = false else (l', b) ∈ h.trails) :
    Holdings.Agree { h with trails := trails } (Function.update holder l .cutting) := by
  have wasTrail : holder l = .trail := (agree.trail l).2 was
  refine ⟨fun l' n => ?_, fun l' n => ?_, fun l' => ?_, fun l' => ?_, lines ▸ agree.once⟩
  all_goals
    by_cases e : l' = l
    · subst e
      simp [entries, ← agree.playing, ← agree.incoming, wasTrail]
    · simp [entries, e, agree.playing, agree.incoming, agree.trail, agree.cutting]

/-- A cut trail's entry leaves the list and its line is FREE. -/
theorem Holdings.Agree.leave {l : Fin 4} {trails : List (Fin 4 × Bool)} (was : (l, false) ∈ h.trails)
    (sub : trails.Sublist h.trails) (entries : ∀ l' b, (l', b) ∈ trails ↔ l' ≠ l ∧ (l', b) ∈ h.trails) :
    Holdings.Agree { h with trails := trails } (Function.update holder l .free) := by
  have wasCut : holder l = .cutting := (agree.cutting l).2 was
  refine ⟨fun l' n => ?_, fun l' n => ?_, fun l' => ?_, fun l' => ?_, agree.once.sublist (sub.map _)⟩
  all_goals
    by_cases e : l' = l
    · subst e
      simp [entries, ← agree.playing, ← agree.incoming, wasCut]
    · simp [entries, e, agree.playing, agree.incoming, agree.trail, agree.cutting]
end

/-! ## Cutting trails (R89, R95, R100) -/

theorem cutFirst_eq_some {as : TrailState} {ts ts' : List Trail} {l : Fin 4}
    (h : cutFirst as ts = some (l, ts')) : ∃ pre t post, ts = pre ++ t :: post ∧ ts' = pre ++ { t with state := as } :: post ∧
      t.line = l ∧ t.state = .running := by
  induction ts generalizing ts' with
  | nil => cases h
  | cons t rest ih =>
    unfold cutFirst at h
    split at h
    · cases h
      exact ⟨[], t, rest, rfl, rfl, rfl, ‹_›⟩
    · obtain ⟨⟨l', rest'⟩, hrest, e⟩ := Option.map_eq_some_iff.1 h
      cases e
      obtain ⟨pre, u, post, rfl, rfl, hl, hu⟩ := ih hrest
      exact ⟨t :: pre, u, post, rfl, rfl, hl, hu⟩

theorem State.cutOldest_works {as : TrailState} (has : as ≠ .running) (s : State) : s.Works (s.cutOldest as) := by
  unfold State.cutOldest
  split
  next l trails h =>
    obtain ⟨pre, t, post, hts, rfl, rfl, running⟩ := cutFirst_eq_some h
    refine .handOver (.hold _ _ _) id fun agree => ?_
    rw [DelayMemory.holder_hold]
    have marks : s.scenes.holdings.trails = pre.map Trail.mark ++ (t.line, true) :: post.map Trail.mark := by
      simp [SceneManager.holdings, hts, Trail.mark, running]
    have marks' : (pre ++ { t with state := as } :: post).map Trail.mark =
        pre.map Trail.mark ++ (t.line, false) :: post.map Trail.mark := by
      simp [Trail.mark, has]
    have once := agree.once
    rw [marks] at once
    simp only [List.map_append, List.map_cons, List.nodup_append, List.nodup_cons, List.mem_cons] at once
    refine agree.cut (l := t.line) (trails := (pre ++ { t with state := as } :: post).map Trail.mark) ?_ ?_ fun l' b => ?_
    · rw [marks]
      simp
    · rw [marks, marks']
      simp
    · rw [marks, marks']
      obtain ⟨-, ⟨out, -⟩, apart⟩ := once
      have notPre : ∀ b, (t.line, b) ∉ pre.map Trail.mark := fun b hb => apart _ (List.mem_map_of_mem hb) _ (.inl rfl) rfl
      have notPost : ∀ b, (t.line, b) ∉ post.map Trail.mark := fun b hb => out (List.mem_map_of_mem hb)
      by_cases e : l' = t.line
      · subst e
        simp only [List.mem_append, List.mem_cons, notPre, notPost, Prod.mk.injEq, true_and, or_false, false_or, if_true]
      · simp only [List.mem_append, List.mem_cons, Prod.mk.injEq, e, false_and, false_or, if_false]
  next => exact .refl s

theorem State.cutForLines_works (s : State) (need n : Nat) : s.Works (s.cutForLines need n) := by
  induction n generalizing s with
  | zero => exact .refl s
  | succ n ih => exact .ite (fun _ => (ih _).after (s.cutOldest_works (as := .cutWait) nofun)) fun _ => .refl s

theorem State.cutForBudget_works (s : State) (cost n : Nat) : s.Works (s.cutForBudget cost n) := by
  induction n generalizing s with
  | zero => exact .refl s
  | succ n ih => exact .ite (fun _ => (ih _).after (s.cutOldest_works (as := .cutting 0) nofun)) fun _ => .refl s

/-- The trail list names a line once. -/
theorem SceneManager.trail_of_line {m : SceneManager} {holder : Fin 4 → Holder} (agree : m.holdings.Agree holder) {t u : Trail}
    (hu : u ∈ m.trails) (ht : t ∈ m.trails) (e : u.line = t.line) : u = t := by
  have once : (m.trails.map Trail.line).Nodup := by
    simpa [SceneManager.holdings, Trail.mark, Function.comp_def] using agree.once
  exact List.inj_on_of_nodup_map once hu ht e

/-! ## The ends of trails (R48, R49) -/

theorem State.takeTrailOwnEnd_works (s : State) (l : Fin 4) : s.Works (s.takeTrailOwnEnd l) := by
  refine .ite (fun ended => ?_) fun _ => .refl s
  obtain ⟨t, ht, hend⟩ := List.any_eq_true.1 ended
  simp only [Bool.and_eq_true, beq_iff_eq] at hend
  obtain ⟨rfl, hend⟩ := hend
  have running : ∀ u : Trail, u.ownEnd = true → u.state = .running := by
    intro u hu
    simp only [Trail.ownEnd, Bool.and_eq_true, beq_iff_eq] at hu
    exact hu.1
  refine .handOver (.hold _ _ _) id fun agree => ?_
  rw [DelayMemory.holder_hold]
  have was : (t.line, true) ∈ s.scenes.holdings.trails :=
    List.mem_map.2 ⟨t, ht, by simp [Trail.mark, running t hend]⟩
  refine agree.cut (l := t.line) was ?_ fun l' b => ?_
  · simp only [SceneManager.holdings, List.map_map]
    refine List.map_congr_left fun u _ => ?_
    simp only [Function.comp_apply, Trail.mark]
    split <;> rfl
  · simp only [SceneManager.holdings, List.map_map, List.mem_map, Function.comp_apply]
    by_cases e : l' = t.line
    · subst e
      simp only [if_true]
      constructor
      · rintro ⟨u, hu, e⟩
        have hline : u.line = t.line := by
          have := congrArg Prod.fst e
          revert this
          simp only [Trail.mark]
          split <;> exact id
        rw [SceneManager.trail_of_line agree hu ht hline, if_pos (by simp [hend])] at e
        exact (congrArg Prod.snd e).symm
      · rintro rfl
        exact ⟨t, ht, by simp [hend, Trail.mark]⟩
    · simp only [e, if_false]
      constructor
      · rintro ⟨u, hu, eq⟩
        refine ⟨u, hu, ?_⟩
        split at eq
        next h =>
          simp only [Bool.and_eq_true, beq_iff_eq] at h
          exact absurd ((congrArg Prod.fst eq).symm.trans h.1) e
        next => exact eq
      · rintro ⟨u, hu, eq⟩
        refine ⟨u, hu, ?_⟩
        have : u.line ≠ t.line := by
          have := congrArg Prod.fst eq
          simp only [Trail.mark] at this
          rwa [this]
        simpa [this] using eq

theorem State.takeTrailFadeEnd_works (s : State) (l : Fin 4) : s.Works (s.takeTrailFadeEnd l) := by
  refine .ite (fun ended => ?_) fun _ => .refl s
  obtain ⟨t, ht, hend⟩ := List.any_eq_true.1 ended
  simp only [Bool.and_eq_true, beq_iff_eq] at hend
  obtain ⟨rfl, hend⟩ := hend
  have cut : t.state ≠ .running := by
    intro h
    simp [Trail.faded, h] at hend
  refine .handOver (.release _ _) id fun agree => ?_
  rw [DelayMemory.holder_release]
  refine agree.leave (l := t.line) ?_ (List.filter_sublist.map _) fun l' b => ?_
  · exact List.mem_map.2 ⟨t, ht, by simp [Trail.mark, cut]⟩
  · simp only [SceneManager.holdings, List.mem_map, List.mem_filter]
    constructor
    · rintro ⟨u, ⟨hu, stays⟩, e⟩
      refine ⟨?_, u, hu, e⟩
      rintro rfl
      have : u.line = t.line := congrArg Prod.fst e
      rw [SceneManager.trail_of_line agree hu ht this] at stays
      simp [hend] at stays
    · rintro ⟨ne, u, hu, e⟩
      have : u.line ≠ t.line := by
        have := congrArg Prod.fst e
        simp only [Trail.mark] at this
        rwa [this]
      exact ⟨u, ⟨hu, by simp [this]⟩, e⟩

/-! ## Recall and cancel (R82..R86, R91) -/

theorem Context.mem_lines (c : Context) (l : Fin 4) : l ∈ c.lines ↔ some l ∈ c.stageLines := by
  simp [Context.lines, Context.stageLines, Stage.line]

theorem DelayMemory.release_foldl (ls : List (Fin 4)) (d : DelayMemory) :
    d.Sound (ls.foldl DelayMemory.release d) ∧
      ∀ l, (ls.foldl DelayMemory.release d).holder l = if l ∈ ls then .free else d.holder l := by
  induction ls generalizing d with
  | nil => exact ⟨.refl d, by simp⟩
  | cons a ls ih =>
    obtain ⟨sound, holders⟩ := ih (d.release a)
    refine ⟨(DelayMemory.Sound.release d a).trans sound, fun l => ?_⟩
    rw [List.foldl_cons, holders, DelayMemory.holder_release, Function.update_apply]
    by_cases e : l = a <;> simp [e]

/-- An armed context is dropped: its lines are FREE, and the scene holds no built context (R39). -/
theorem State.dropArmed_works {s : State} {c : Context} {b : Bool} (armed : s.scenes.scene = .armed c b) {sc : Scene}
    (notBuilt : sc.built = none) (ramps : ∀ c, sc.incoming = some c → c.rampsOk) :
    s.Works ((s.withScenes { s.scenes with scene := sc }).withDelay (c.lines.foldl DelayMemory.release s.delay)) := by
  obtain ⟨sound, holders⟩ := DelayMemory.release_foldl c.lines s.delay
  refine .handOver sound (fun ok => ⟨ok.1, ramps⟩) fun agree => ?_
  have incoming : s.scenes.holdings.incoming = c.stageLines := by
    simp [SceneManager.holdings, armed, Scene.builtLines, Scene.built]
  have none : sc.builtLines = [] := by simp [Scene.builtLines, notBuilt]
  have dropped := agree.drop_incoming (holder' := (c.lines.foldl DelayMemory.release s.delay).holder)
    (fun l hl => by rw [holders, if_pos (by rwa [c.mem_lines, ← incoming])])
    (fun l hl => by rw [holders, if_neg (by rwa [c.mem_lines, ← incoming])])
  rw [SceneManager.holdings, none]
  exact dropped

theorem newIncoming_rampsOk (source : Source) (origin : Origin) (timing : Option Timing) (fade : Option (BitVec 8))
    (number : BitVec 8) : (newIncoming source origin timing fade number).rampsOk := nofun

/-- The scene changes between two that have no built context, or the same one. -/
theorem State.Works.setScene {s : State} {sc : Scene} (h : s.scenes.scene.Follows sc) : s.Works (s.setScene sc) :=
  .withScenes (.of_parts (.refl _) h rfl)

theorem Scene.Follows.not_built {sc sc' : Scene} (h : sc.built = none) (h' : sc'.built = none)
    (ramps : (∀ c, sc.incoming = some c → c.rampsOk) → ∀ c, sc'.incoming = some c → c.rampsOk) : sc.Follows sc' :=
  ⟨by simp [Scene.builtLines, h, h'], ramps⟩

theorem steady_rampsOk : ∀ c, Scene.steady.incoming = some c → c.rampsOk := fun _ h => nomatch h

theorem loading_rampsOk {c : Context} (h : c.rampsOk) (p : LoadPhase) : ∀ x, (Scene.loading c p).incoming = some x → x.rampsOk := by
  rintro x ⟨⟩
  exact h

/-- A recall that waits behind a switch leaves the incoming context alone. -/
theorem State.queueRecall_works {s : State} {sc : Scene} (h : s.scenes.scene.Follows sc) (report : Option QueuedRecall)
    (n : BitVec 8) : s.Works ((match report with
      | some q => s.reportSuperseded q.number q.origin q.source n
      | none => s).setScene sc) := by
  cases report with
  | none => exact .setScene h
  | some q => exact (State.Works.post _ _ _ _).after (.setScene h)

theorem State.acceptRecall_works (s : State) (source : Source) (origin : Origin) (timing : Option Timing)
    (fade : Option (BitVec 8)) (phase : LoadPhase) : s.Works (s.acceptRecall source origin timing fade phase) := by
  have numbered : s.Works (s.withScenes { s.scenes with lastRecall := s.scenes.lastRecall + 1 }) :=
    .withScenes (.of_parts (.refl _) (.refl _) rfl)
  refine .after ?_ numbered
  unfold State.acceptRecall
  dsimp only
  have ready := loading_rampsOk (newIncoming_rampsOk source origin timing fade (s.scenes.lastRecall + 1)) phase
  generalize newIncoming source origin timing fade (s.scenes.lastRecall + 1) = inc at ready ⊢
  generalize s.withScenes { s.scenes with lastRecall := s.scenes.lastRecall + 1 } = s
  split
  next h => exact .setScene (.not_built (by rw [h]; rfl) rfl fun _ => ready)
  next c p h => exact (State.Works.post _ _ _ _).after (.setScene (.not_built (by rw [h]; rfl) rfl fun _ => ready))
  next c b h => exact (State.Works.post _ _ _ _).after (State.dropArmed_works h rfl ready)
  next c q h => exact State.queueRecall_works (by rw [h]; exact ⟨rfl, id⟩) q _
  next c q h => exact State.queueRecall_works (by rw [h]; exact ⟨rfl, id⟩) q _

theorem State.cancelRecall_works (s : State) : s.Works s.cancelRecall.2 := by
  unfold State.cancelRecall
  split
  next => exact .refl s
  next c p h => exact (State.Works.post _ _ _ _).after (.setScene (.not_built (by rw [h]; rfl) rfl fun _ => steady_rampsOk))
  next c b h => exact (State.Works.post _ _ _ _).after (State.dropArmed_works h rfl steady_rampsOk)
  next c q h => exact (State.Works.post _ _ _ _).after (.setScene (by rw [h]; exact ⟨rfl, id⟩))
  next c q h => exact (State.Works.post _ _ _ _).after (.setScene (by rw [h]; exact ⟨rfl, id⟩))
  next => exact .refl s
  next => exact .refl s

theorem State.cueRecall_works (s : State) (n : Fin 128) (c : Cue) : s.Works (s.cueRecall n c) :=
  .ite (fun _ => s.acceptRecall_works _ _ _ _ _) fun _ => .post _ _ _ _

/-! ## Loading (R87..R90, R113) -/

theorem State.failLoad_works {s : State} (h : s.scenes.scene.built = none) (c : Context) (r : Reason) (o : Nat) :
    s.Works (s.failLoad c r o) :=
  (State.Works.post _ _ _ _).after (.setScene (.not_built h rfl fun _ => steady_rampsOk))

/-- A load that goes on keeps its context's stages, which it has not built yet. -/
theorem State.loading_works {s : State} {c c' : Context} {p p' : LoadPhase} (h : s.scenes.scene = .loading c p)
    (stages : c'.stages = c.stages) : s.Works (s.setScene (.loading c' p')) := by
  refine .setScene (.not_built (by rw [h]; rfl) rfl fun ok => ?_)
  rw [h] at ok
  exact loading_rampsOk ((Context.Follows.of_stages stages).ramps (ok c rfl)) p'

theorem State.takeLoadRead_works (s : State) : s.Works s.takeLoadRead := by
  unfold State.takeLoadRead
  split
  rotate_right
  · exact .refl s
  all_goals
    rename_i c h
    have notBuilt : s.scenes.scene.built = none := by rw [h]; rfl
    split
    · exact State.failLoad_works notBuilt _ _ _
    · exact State.loading_works h rfl
    · split
      · exact State.failLoad_works notBuilt _ _ _
      · have taken := fun r cost delays => State.loading_works (c' := c.takeRecord r cost delays) (p' := .lines r) h rfl
        exact .ite (fun _ => taken _ _ _) fun _ => (State.cutForLines_works _ _ _).after (taken _ _ _)

theorem State.resumeLoad_works (s : State) : s.Works s.resumeLoad := by
  unfold State.resumeLoad
  split
  · exact s.takeLoadRead_works
  · exact .refl s

/-- A built DELAY stage holds the line it was given; another kind is given none. -/
theorem StageEntry.build_line (e : StageEntry) {line : Option (Fin 4)} (h : e.kind = .delay ∨ line = none) (beat : Nat) :
    (e.build line beat).line = line := by
  rcases h with h | rfl
  · exact Stage.line_of_run (dr := { offset := targetOffset e.params beat, w := 0, line := line, r := 0 })
      (by simp [StageEntry.build, builtRun, h])
  · cases hk : e.kind
    case delay =>
      exact Stage.line_of_run (dr := { offset := targetOffset e.params beat, w := 0, line := none, r := 0 })
        (by simp [StageEntry.build, builtRun, hk])
    all_goals exact Stage.line_of_no_delay fun dr => by simp [StageEntry.build, builtRun, hk]

/-- Building stages from position n hands FREE lines to them, each line to one stage, and touches no other line. -/
theorem buildStages_lines (beat : Nat) (es : List StageEntry) (n : Nat) (d : DelayMemory) :
    d.Sound (buildStages beat es n d).2 ∧ (∀ st ∈ (buildStages beat es n d).1, st.m = 0) ∧
    (∀ l i, ((buildStages beat es n d).1.map Stage.line)[i]? = some (some l) →
      d.holder l = .free ∧ (buildStages beat es n d).2.holder l = .incoming (n + i)) ∧
    (∀ l, some l ∉ (buildStages beat es n d).1.map Stage.line → (buildStages beat es n d).2.holder l = d.holder l) := by
  induction es generalizing n d with
  | nil => exact ⟨.refl d, nofun, nofun, fun _ _ => rfl⟩
  | cons e rest ih =>
    unfold buildStages
    dsimp only
    have first : d.Sound (if e.kind = .delay ∧ d.present then d.allocate n else (none, d)).2 ∧
        (e.kind = .delay ∨ (if e.kind = .delay ∧ d.present then d.allocate n else (none, d)).1 = none) ∧
        ((∃ l, d.holder l = .free ∧ (if e.kind = .delay ∧ d.present then d.allocate n else (none, d)).1 = some l ∧
          (if e.kind = .delay ∧ d.present then d.allocate n else (none, d)).2.holder =
            Function.update d.holder l (.incoming n)) ∨
        (if e.kind = .delay ∧ d.present then d.allocate n else (none, d)) = (none, d)) := by
      split
      next h =>
        rcases d.allocate_cases n with ⟨l, -, free, got, sound, holder⟩ | ⟨-, none⟩
        · exact ⟨sound, .inl h.1, .inl ⟨l, free, got, holder⟩⟩
        · exact ⟨by rw [none]; exact .refl d, .inl h.1, .inr none⟩
      next => exact ⟨.refl d, .inr rfl, .inr rfl⟩
    generalize (if e.kind = .delay ∧ d.present then d.allocate n else (none, d)) = got at first ⊢
    obtain ⟨line, d'⟩ := got
    obtain ⟨sound, given, handed⟩ := first
    obtain ⟨sound', zero, held, others⟩ := ih (n + 1) d'
    dsimp only at sound given handed ⊢
    refine ⟨sound.trans sound', by simpa using ⟨rfl, zero⟩, fun l i hi => ?_, fun l hl => ?_⟩
    · rw [List.map_cons, e.build_line given] at hi
      rcases handed with ⟨l₀, free, rfl, holder⟩ | e
      · cases i with
        | zero =>
          obtain rfl : l₀ = l := by simpa using hi
          refine ⟨free, ?_⟩
          have out : some l₀ ∉ (buildStages beat rest (n + 1) d').1.map Stage.line := fun again => by
            obtain ⟨i, hi⟩ := List.mem_iff_getElem?.1 again
            simpa [holder] using (held l₀ i hi).1
          rw [others l₀ out, holder, Function.update_self]
          rfl
        | succ i =>
          obtain ⟨free', inc⟩ := held l i (by simpa using hi)
          have ne : l ≠ l₀ := by
            rintro rfl
            simp [holder] at free'
          rw [holder, Function.update_of_ne ne] at free'
          exact ⟨free', by rw [inc]; congr 1; omega⟩
      · cases e
        cases i with
        | zero => simp at hi
        | succ i =>
          obtain ⟨free', inc⟩ := held l i (by simpa using hi)
          exact ⟨free', by rw [inc]; congr 1; omega⟩
    · rw [List.map_cons, e.build_line given, List.mem_cons, not_or] at hl
      rw [others l hl.2]
      rcases handed with ⟨l₀, free, rfl, holder⟩ | e
      · rw [holder, Function.update_of_ne fun e => hl.1 (congrArg some e)]
      · cases e
        rfl

/-- The stages just built hold FREE lines, and no line was incoming before. -/
theorem Holdings.Agree.build {h : Holdings} {holder holder' : Fin 4 → Holder} {built : List (Option (Fin 4))}
    (agree : h.Agree holder) (none : h.incoming = [])
    (held : ∀ l i, built[i]? = some (some l) → holder l = .free ∧ holder' l = .incoming i)
    (others : ∀ l, some l ∉ built → holder' l = holder l) : Holdings.Agree { h with incoming := built } holder' := by
  have same : ∀ l k, k ≠ .free → (∀ n, k ≠ .incoming n) → (holder' l = k ↔ holder l = k) := by
    intro l k hf hi
    by_cases hl : some l ∈ built
    · obtain ⟨i, hl⟩ := List.mem_iff_getElem?.1 hl
      obtain ⟨free, inc⟩ := held l i hl
      rw [free, inc]
      exact ⟨fun e => absurd e.symm (hi i), fun e => absurd e.symm hf⟩
    · rw [others l hl]
  refine ⟨fun l n => ?_, fun l n => ?_, fun l => ?_, fun l => ?_, agree.once⟩
  · rw [same l (.playing n) nofun nofun, agree.playing]
  · refine ⟨fun e => ?_, fun e => (held l n e).2⟩
    by_cases hl : some l ∈ built
    · obtain ⟨i, hl⟩ := List.mem_iff_getElem?.1 hl
      have := (held l i hl).2.symm.trans e
      cases this
      exact hl
    · rw [others l hl, agree.incoming, none] at e
      simp at e
  · rw [same l .trail nofun nofun, agree.trail]
  · rw [same l .cutting nofun nofun, agree.cutting]

theorem State.takeLoadComplete_works (s : State) : s.Works s.takeLoadComplete := by
  unfold State.takeLoadComplete
  split
  next c r h =>
    refine .ite (fun _ => ?_) fun _ => .refl s
    obtain ⟨sound, zero, held, others⟩ := buildStages_lines s.tempo.beat r.stages 0 s.delay
    refine (State.Works.post _ _ _ _).after (.handOver (m := { s.scenes with scene := .armed { c with
      stages := (buildStages s.tempo.beat r.stages 0 s.delay).1, bindings := r.bindings, edited := false } false })
      (d := (buildStages s.tempo.beat r.stages 0 s.delay).2) sound (fun ok => ⟨ok.1, ?_⟩) fun agree => ?_)
    · rintro x ⟨⟩ st hst
      rw [zero st hst]
      omega
    · refine agree.build ?_ (fun l i hi => ?_) others
      · simp [SceneManager.holdings, Scene.builtLines, h, Scene.built]
      · simpa using held l i hi
  next => exact .refl s

theorem State.completeLoadIfDue_works (s : State) : s.Works s.completeLoadIfDue :=
  .ite (fun _ => s.takeLoadComplete_works) fun _ => .refl s

/-! ## The end of a switch (R98, R99) -/

/-- The trails made from the old context's stages. -/
def newMarks (sts : List Stage) : List (Fin 4 × Bool) :=
  sts.filterMap fun st => if st.value 8 = 1 then st.line.map (·, true) else none

theorem mem_newMarks {sts : List Stage} {l : Fin 4} {b : Bool} :
    (l, b) ∈ newMarks sts ↔ b = true ∧ ∃ st ∈ sts, st.value 8 = 1 ∧ st.line = some l := by
  simp only [newMarks, List.mem_filterMap, Option.ite_none_right_eq_some, Option.map_eq_some_iff, Prod.mk.injEq]
  constructor
  · rintro ⟨st, hst, v, l', hl, rfl, rfl⟩
    exact ⟨rfl, st, hst, v, hl⟩
  · rintro ⟨rfl, st, hst, v, hl⟩
    exact ⟨st, hst, v, l, hl, rfl, rfl⟩

theorem retireStages_none {gains : Int × Int} {st : Stage} (h : st.line = none) (rest : List Stage) (d : DelayMemory) :
    retireStages gains (st :: rest) d = retireStages gains rest d := by
  rw [retireStages]
  split
  next dr hr =>
    rw [Stage.line_of_run hr] at h
    rw [h]
  next => rfl

theorem retireStages_trail {gains : Int × Int} {st : Stage} {l : Fin 4} (h : st.line = some l) (v : st.value 8 = 1)
    (rest : List Stage) (d : DelayMemory) : ∃ t : Trail, t.mark = (l, true) ∧ retireStages gains (st :: rest) d =
      (t :: (retireStages gains rest (d.hold l .trail)).1, (retireStages gains rest (d.hold l .trail)).2) := by
  rw [retireStages]
  split
  next dr hr =>
    rw [Stage.line_of_run hr] at h
    simp only [h, v, if_true]
    exact ⟨_, rfl, rfl⟩
  next hr => exact absurd (h.symm.trans (Stage.line_of_no_delay hr)) nofun

theorem retireStages_release {gains : Int × Int} {st : Stage} {l : Fin 4} (h : st.line = some l) (v : st.value 8 ≠ 1)
    (rest : List Stage) (d : DelayMemory) :
    retireStages gains (st :: rest) d = retireStages gains rest (d.release l) := by
  rw [retireStages]
  split
  next dr hr =>
    rw [Stage.line_of_run hr] at h
    simp only [h, v, if_false]
  next hr => exact absurd (h.symm.trans (Stage.line_of_no_delay hr)) nofun

theorem retireStages_sound (gains : Int × Int) (sts : List Stage) (d : DelayMemory) : d.Sound (retireStages gains sts d).2 := by
  induction sts generalizing d with
  | nil => exact .refl d
  | cons st rest ih =>
    cases hl : st.line with
    | none => rw [retireStages_none hl]; exact ih d
    | some l =>
      by_cases v : st.value 8 = 1
      · obtain ⟨t, -, e⟩ := retireStages_trail (gains := gains) hl v rest d
        rw [e]
        exact (DelayMemory.Sound.hold d l .trail).trans (ih _)
      · rw [retireStages_release hl v]
        exact (DelayMemory.Sound.release d l).trans (ih _)

/-- Every line that the old stages hold goes to a new trail or is FREE; no other line is touched. -/
theorem retireStages_lines (gains : Int × Int) (sts : List Stage) (d : DelayMemory) (once : (sts.filterMap Stage.line).Nodup) :
    (retireStages gains sts d).1.map Trail.mark = newMarks sts ∧
    ∀ l, (retireStages gains sts d).2.holder l =
      if (l, true) ∈ newMarks sts then .trail else if l ∈ sts.filterMap Stage.line then .free else d.holder l := by
  induction sts generalizing d with
  | nil => exact ⟨rfl, fun l => by simp [retireStages, newMarks]⟩
  | cons st rest ih =>
    cases hl : st.line with
    | none =>
      rw [retireStages_none hl]
      simpa [newMarks, hl] using ih d (by simpa [hl] using once)
    | some l₀ =>
      simp only [List.filterMap_cons, hl, List.nodup_cons] at once ⊢
      have out : (l₀, true) ∉ newMarks rest := fun again => by
        obtain ⟨-, st', hst', -, hl'⟩ := mem_newMarks.1 again
        exact once.1 (List.mem_filterMap.2 ⟨st', hst', hl'⟩)
      by_cases v : st.value 8 = 1
      · obtain ⟨t, mark, e⟩ := retireStages_trail (gains := gains) hl v rest d
        obtain ⟨marks, holders⟩ := ih (d.hold l₀ .trail) once.2
        have new : newMarks (st :: rest) = (l₀, true) :: newMarks rest := by simp [newMarks, v, hl]
        rw [e, new]
        refine ⟨by simp [mark, marks], fun l => ?_⟩
        rw [holders l, DelayMemory.holder_hold, Function.update_apply]
        by_cases e : l = l₀
        · subst e
          simp [out, once.1]
        · simp [e]
      · obtain ⟨marks, holders⟩ := ih (d.release l₀) once.2
        have new : newMarks (st :: rest) = newMarks rest := by simp [newMarks, v]
        rw [retireStages_release hl v, new]
        refine ⟨marks, fun l => ?_⟩
        rw [holders l, DelayMemory.holder_release, Function.update_apply]
        by_cases e : l = l₀
        · subst e
          simp [out, once.1]
        · simp [e]

/-- The old context's lines become trails or FREE, and the incoming lines become the playing ones. -/
theorem Holdings.Agree.hand_over {h : Holdings} {holder holder' : Fin 4 → Holder} {new : List (Fin 4 × Bool)}
    (agree : h.Agree holder) (once : (new.map Prod.fst).Nodup) (old : ∀ l b, (l, b) ∈ new → b = true ∧ some l ∈ h.playing)
    (holders : ∀ l, holder' l = if (l, true) ∈ new then .trail else if some l ∈ h.playing then .free else
      match holder l with
      | .incoming n => .playing n
      | k => k) :
    Holdings.Agree { playing := h.incoming, incoming := [], trails := h.trails ++ new } holder' := by
  have wasPlaying : ∀ l, some l ∈ h.playing → ∃ n, holder l = .playing n := fun l hl => by
    obtain ⟨n, hn⟩ := List.mem_iff_getElem?.1 hl
    exact ⟨n, (agree.playing l n).2 hn⟩
  have noTrail : ∀ l b, some l ∈ h.playing → (l, b) ∉ h.trails := fun l b hl hb => by
    obtain ⟨n, hn⟩ := wasPlaying l hl
    cases b with
    | true => exact absurd (hn.symm.trans ((agree.trail l).2 hb)) nofun
    | false => exact absurd (hn.symm.trans ((agree.cutting l).2 hb)) nofun
  have noIncoming : ∀ l n, some l ∈ h.playing → h.incoming[n]? ≠ some (some l) := fun l n hl hn => by
    obtain ⟨m, hm⟩ := wasPlaying l hl
    exact absurd (hm.symm.trans ((agree.incoming l n).2 hn)) nofun
  have playing : ∀ l, some l ∉ h.playing → ∀ n, holder l ≠ .playing n := fun l hl n hn =>
    hl (List.mem_of_getElem? ((agree.playing l n).1 hn))
  constructor
  case once =>
    rw [List.map_append, List.nodup_append]
    refine ⟨agree.once, once, ?_⟩
    rintro l hl _ hl' rfl
    obtain ⟨⟨l, b⟩, hb, rfl⟩ := List.mem_map.1 hl
    obtain ⟨⟨l', b'⟩, hb', e⟩ := List.mem_map.1 hl'
    cases e
    exact noTrail _ _ (old _ _ hb').2 hb
  all_goals
    intro l
    rw [holders l]
    by_cases hn : (l, true) ∈ new
    · have hp := (old l true hn).2
      simp [hn, noIncoming l _ hp, noTrail l _ hp]
      try exact fun h => absurd (old l false h).1 nofun
    · have hf : (l, false) ∉ new := fun h => absurd (old l false h).1 nofun
      by_cases hp : some l ∈ h.playing
      · simp [hn, hf, hp, noIncoming l _ hp, noTrail l _ hp]
      · simp only [hn, hp, if_false, List.mem_append, hf, or_false, ← agree.incoming, ← agree.trail, ← agree.cutting]
        have := playing l hp
        cases hk : holder l <;> simp_all

theorem newMarks_once {sts : List Stage} (once : (sts.filterMap Stage.line).Nodup) : ((newMarks sts).map Prod.fst).Nodup := by
  refine once.sublist ?_
  rw [newMarks, List.map_filterMap]
  induction sts with
  | nil => exact .refl _
  | cons st rest ih =>
    have ih := ih (once.sublist (List.Sublist.filterMap _ (List.sublist_cons_self _ _)))
    cases hl : st.line with
    | none => simpa [List.filterMap_cons, hl] using ih
    | some l =>
      by_cases v : st.value 8 = 1
      · simpa [List.filterMap_cons, hl, v] using ih
      · simpa [List.filterMap_cons, hl, v] using ih.cons l

/-- No line is held by two stages of the playing context. -/
theorem Holdings.Agree.playing_once {h : Holdings} {holder : Fin 4 → Holder} (agree : h.Agree holder) :
    (h.playing.filterMap id).Nodup := by
  rw [List.Nodup, List.pairwise_filterMap, List.pairwise_iff_getElem]
  rintro i j hi hj lt l hl l' hl' rfl
  have at_ : ∀ (k : Nat) (hk : k < h.playing.length), id h.playing[k] = some l → holder l = .playing k := fun k hk e =>
    (agree.playing l k).2 (by rw [List.getElem?_eq_getElem hk]; exact congrArg some e)
  have := (at_ i hi hl).symm.trans (at_ j hj hl')
  cases this
  omega

/-- The scene manager and the delay memory at the end of a switch (R98, R99). -/
theorem State.retire_works {s : State} {c : Context} (lines : s.scenes.scene.builtLines = c.stageLines)
    (ramps : s.rampsOk → c.rampsOk) {sc : Scene} (notBuilt : sc.built = none)
    (ok : ∀ c, sc.incoming = some c → c.rampsOk) :
    s.Works ((s.withScenes { s.scenes with playing := c, scene := sc, trails := s.scenes.trails ++
      (retireStages s.scenes.playing.outputGains s.scenes.playing.stages s.delay).1 }).withDelay
        (retireStages s.scenes.playing.outputGains s.scenes.playing.stages s.delay).2.promote) := by
  refine .handOver ((retireStages_sound _ _ _).trans (.promote _)) (fun h => ⟨ramps h, ok⟩) fun agree => ?_
  have once : (s.scenes.playing.stages.filterMap Stage.line).Nodup := by
    simpa [SceneManager.holdings, Context.stageLines, List.filterMap_map] using agree.playing_once
  obtain ⟨marks, holders⟩ := retireStages_lines s.scenes.playing.outputGains s.scenes.playing.stages s.delay once
  have handed := agree.hand_over (new := newMarks s.scenes.playing.stages) (holder' := DelayMemory.holder
    (retireStages s.scenes.playing.outputGains s.scenes.playing.stages s.delay).2.promote)
    (newMarks_once once) (fun l b hb => ?_) fun l => ?_
  · have incoming : s.scenes.holdings.incoming = c.stageLines := lines
    have none : sc.builtLines = [] := by simp [Scene.builtLines, notBuilt]
    rw [incoming] at handed
    rw [SceneManager.holdings, List.map_append, marks, none]
    exact handed
  · obtain ⟨rfl, st, hst, -, hl⟩ := mem_newMarks.1 hb
    exact ⟨rfl, List.mem_map.2 ⟨st, hst, hl⟩⟩
  · have mem : some l ∈ s.scenes.holdings.playing ↔ l ∈ s.scenes.playing.stages.filterMap Stage.line := by
      simp [SceneManager.holdings, Context.stageLines]
    rw [DelayMemory.holder_promote, holders]
    simp only [mem]
    by_cases new : (l, true) ∈ newMarks s.scenes.playing.stages
    · simp only [new, if_true]
    · by_cases old : l ∈ s.scenes.playing.stages.filterMap Stage.line
      · simp only [new, old, if_true, if_false]
      · simp only [new, old, if_false] <;> rfl

theorem State.endSwitch_works {s : State} {c : Context} (lines : s.scenes.scene.builtLines = c.stageLines)
    (ramps : s.rampsOk → c.rampsOk) (q : Option QueuedRecall) : s.Works (s.endSwitch c q) := by
  cases q with
  | none =>
    have retired := State.retire_works lines ramps (sc := .steady) rfl steady_rampsOk
    exact (retired.trans (.withChain (v := { s.chain with
      stageClip := 0, mixer := { phase := .single, k := 0, length := 0 } }) id)).trans (.post _ _ _ _)
  | some q =>
    have retired := State.retire_works lines ramps
      (sc := .loading (newIncoming q.source q.origin q.timingOverride q.fadeOverride q.number) .toRead) rfl
      (loading_rampsOk (newIncoming_rampsOk _ _ _ _ _) _)
    exact (retired.trans (.withChain (v := { s.chain with
      stageClip := 0, mixer := { phase := .single, k := 0, length := 0 } }) id)).trans (.post _ _ _ _)

theorem State.rampsOk_incoming {s : State} {c : Context} (h : s.scenes.scene.incoming = some c) (ok : s.rampsOk) : c.rampsOk :=
  ok.2 c h

theorem Scene.builtLines_of_built {sc : Scene} {c : Context} (h : sc.built = some c) : sc.builtLines = c.stageLines := by
  simp [Scene.builtLines, h]

theorem State.finishSwitch_works (s : State) : s.Works s.finishSwitch := by
  refine .ite (fun _ => ?_) fun _ => .refl s
  split
  next c q h =>
    exact State.endSwitch_works (Scene.builtLines_of_built (by rw [h]; rfl)) (State.rampsOk_incoming (by rw [h]; rfl)) q
  next c q h =>
    exact State.endSwitch_works (Scene.builtLines_of_built (by rw [h]; rfl)) (State.rampsOk_incoming (by rw [h]; rfl)) q
  next => exact .refl s

/-! ## The switch point (R92..R95) -/

theorem State.inherit_works (s : State) (c : Context) : s.Works (s.inherit c).1 := by
  have tempo : s.Works (match c.parts.tempo with
      | some v => s.changeTempo (s.tempo.preset v)
      | none => s) := by
    cases c.parts.tempo with
    | none => exact .refl s
    | some v => exact (State.Works.refl s).changeTempo fun h => Tempo.preset_ok h v
  unfold State.inherit
  dsimp only
  refine .after ?_ tempo
  cases c.parts.latches with
  | none => exact .refl _
  | some f => exact .withLatches _ _

theorem State.cutForBudget_scene (s : State) (cost n : Nat) : (s.cutForBudget cost n).scenes.scene = s.scenes.scene := by
  induction n generalizing s with
  | zero => rfl
  | succ n ih =>
    unfold State.cutForBudget
    split
    · rw [ih]
      unfold State.cutOldest
      split <;> rfl
    · rfl

/-- The armed context, or what follows it, becomes the incoming context of a switch. -/
theorem Context.Follows.armed_taken {c c' : Context} (h : c.Follows c') {b : Bool} {sc : Scene} (built : sc.built = some c')
    (incoming : sc.incoming = some c') : (Scene.armed c b).Follows sc where
  lines := by rw [Scene.builtLines_of_built built, Scene.builtLines_of_built (c := c) rfl, h.lines]
  ramps := fun ok x hx => Option.some.inj (incoming.symm.trans hx) ▸ h.ramps (ok c rfl)

/-- The switch of the armed context, in each of the three modes. -/
theorem State.switchTo_works {s : State} {c : Context} {b : Bool} (armed : s.scenes.scene = .armed c b) :
    s.Works (s.switchTo c) := by
  have inherited := s.inherit_works c
  have armed' : (s.inherit c).1.scenes.scene = .armed c b := by simp [State.inherit_keeps, armed]
  have follows : c.Follows ((s.inherit c).2.mapStages (Stage.setRamp (s.inherit c).1.latches (s.inherit c).1.tuner.muting)) :=
    (Context.Follows.of_stages (c := c) (c' := (s.inherit c).2) rfl).trans
      (Context.mapStages_follows _ (Stage.setRamp_follows (s.inherit c).1.latches (s.inherit c).1.tuner.muting))
  unfold State.switchTo
  dsimp only
  generalize Context.mapStages _ _ = c' at follows ⊢
  generalize (s.inherit c).1 = u at inherited armed' ⊢
  generalize switchMode _ _ _ = mode
  refine .after ?_ inherited
  have built : (Scene.armed c b).builtLines = c.stageLines := Scene.builtLines_of_built rfl
  cases mode with
  | cut =>
    refine .after (State.endSwitch_works ?_ ?_ none) (.after (.withChain id) (.post u _ _ _))
    · simpa [State.reportScene, armed', follows.lines] using built
    · exact fun ok => follows.ramps (State.rampsOk_incoming (by simp [State.reportScene, armed', Scene.incoming]) ok)
  | crossfade =>
    have scene : (u.cutForBudget (u.scenes.playing.cost + c'.cost) 4).scenes.scene = .armed c b :=
      (State.cutForBudget_scene _ _ _).trans armed'
    refine .after (.setScene ?_) (.after (.withChain id) (.after (.post _ _ _ _) (u.cutForBudget_works _ 4)))
    exact scene ▸ follows.armed_taken rfl rfl
  | dip =>
    refine .after (.setScene ?_) (.after (.withChain id) (.post u _ _ _))
    exact armed' ▸ follows.armed_taken rfl rfl

end Sys2Proof.Machine
end

section
/-! SUPPORT. What the block boundary, the audio frame and the cue unit's head keep. -/

namespace Sys2Proof.Machine

/-! ## Boundaries (R3, R15, R23, R92) -/

theorem State.performSwitch_works (s : State) : s.Works s.performSwitch := by
  unfold State.performSwitch
  split
  next c b h => exact .ite (fun _ => State.switchTo_works h) fun _ => .refl s
  next => exact .refl s

theorem State.takeBeat_works (s : State) : s.Works s.takeBeat := by
  refine .ite (fun _ => ?_) fun _ => .refl s
  have handed : s.Works (s.withTempo { s.tempo with beatDue := false }) := (State.Works.refl s).withTempo id
  dsimp only
  split
  next c b h => exact .after (.setScene (by rw [h]; exact ⟨rfl, id⟩)) handed
  next => exact handed

theorem State.levels_works (s : State) : s.Works s.levels :=
  .ite (fun _ => (State.Works.post _ _ _ _).after (.withChain id)) fun _ => .withChain id

theorem State.closeBlock_works (s : State) : s.Works s.closeBlock := by
  refine .ite (fun _ => .refl s) fun _ => ?_
  refine .after (.withChain ?_) ((State.levels_works _).after (.withScenes (.of_parts ?_ ?_ ?_)))
  · exact id
  · exact Context.mapStages_follows _ Stage.closeBlock_follows
  · exact Scene.mapIncoming_follows _ fun c _ => Context.mapStages_follows c Stage.closeBlock_follows
  · rw [List.map_map]
    exact List.map_congr_left fun t _ => t.closeBlock_mark

theorem State.takeSwitchEnd_works (s : State) : s.Works s.takeSwitchEnd :=
  .ite (fun _ => s.closeBlock_works.trans (State.finishSwitch_works _)) fun _ => .refl s

theorem State.takeSwitchPoint_works (s : State) : s.Works s.takeSwitchPoint :=
  .ite (fun _ => (s.takeBeat_works.trans (State.closeBlock_works _)).trans (State.performSwitch_works _)) fun _ => .refl s

theorem State.takeDipIn_works (s : State) : s.Works s.takeDipIn := .ite (fun _ => .withChain id) fun _ => .refl s

theorem State.arbitrate_works (s : State) : s.Works s.arbitrate := .withDelay (.arbitrate _ _)

theorem State.openBlock_works (s : State) : s.Works s.openBlock := by
  have chain : s.Works (s.withChain { s.chain with
    hasContext := s.chain.hasContext || s.chain.handover, handover := false, boundaryTaken := true }) := .withChain id
  refine .after ?_ chain
  unfold State.openBlock
  dsimp only
  generalize s.withChain _ = s
  refine (State.arbitrate_works _).after (.after (.withDelay ?_) (.withScenes (.of_parts ?_ ?_ ?_)))
  · split
    · exact (refetchChanged_serves _ _ _).trans (refetchChanged_serves _ _ _)
    · exact refetchChanged_serves _ _ _
  · exact Context.mapStages_follows _ fun st => st.openBlock_follows _ _ _ _
  · exact Scene.mapIncoming_follows _ fun c _ => Context.mapStages_follows c fun st => st.openBlock_follows _ _ _ _
  · rw [List.map_map]
    exact List.map_congr_left fun t _ => t.openBlock_mark

theorem State.takeBoundary_works (s : State) : s.Works s.takeBoundary :=
  .ite (fun _ => ((((s.takeBeat_works.trans (State.closeBlock_works _)).trans (State.takeSwitchEnd_works _)).trans
    (State.takeSwitchPoint_works _)).trans (State.takeDipIn_works _)).trans (State.openBlock_works _)) fun _ => .refl s

theorem State.takeGateHoldEnd_works (s : State) (incoming : Bool) (stage : Nat) : s.Works (s.takeGateHoldEnd incoming stage) := by
  have ended : ∀ c : Context, c.Follows { c with stages := match c.stages[stage]? with
      | some st => c.stages.set stage st.holdEnd
      | none => c.stages } := by
    intro c
    split
    next st hst => exact c.setStage_follows hst st.holdEnd_follows
    next => exact .refl c
  refine .ite (fun _ => .withScenes (.of_parts (.refl _) ?_ rfl)) fun _ => .withScenes (.of_parts (ended _) (.refl _) rfl)
  exact Scene.mapIncoming_follows _ fun c _ => ended c

theorem State.takeGateHoldEnds_works (s : State) : s.Works s.takeGateHoldEnds :=
  .withScenes (.of_parts (Context.mapStages_follows _ Stage.holdEnd_follows)
    (Scene.mapIncoming_follows _ fun c _ => Context.mapStages_follows c Stage.holdEnd_follows) rfl)

theorem State.settle_works (s : State) : s.Works s.settle := by
  have scanned : s.Works ((((s.settleSwitches 8).settlePlugs 4).takePedalScan).settlePlugs 4) :=
    (State.settlePlugs_works _ 4).after
      ((State.takePedalScan_works _).after ((State.settlePlugs_works _ 4).after (s.settleSwitches_works 8)))
  have tuned := (State.takeTunerLoss_works _).after ((State.takeTunerRun_works _).after scanned)
  have clocked := (State.takeClockLoss_works _).after ((State.takeClockUpdate_works _).after
    ((State.takeClockLock_works _).after ((State.takeBeat_works _).after tuned)))
  have loaded := (State.takeSwitchEnd_works _).after ((State.completeLoadIfDue_works _).after
    ((State.Works.foldl State.takeTrailFadeEnd_works (List.finRange 4) _).after ((State.takeDipIn_works _).after clocked)))
  have opened := (State.takeGateHoldEnds_works _).after ((State.takeBoundary_works _).after loaded)
  exact (State.arbitrate_works _).after ((State.Works.foldl State.takeTrailOwnEnd_works (List.finRange 4) _).after opened)

/-! ## One rendered sample (R4, R18..R21) -/

theorem sampleOk_sat (x : Int) : sampleOk (sat x) := by
  simp only [sampleOk, sat, sampleMin, sampleMax]
  omega

theorem sampleOk_zero : sampleOk 0 := sampleOk_sat 0

/-- From s a context is rendered: the state but for the delay memory, and the port's memory. -/
structure SampleOut.From (o : SampleOut) (s : State) (p : Port) : Prop where
  works : s.Works o.state
  delay : o.state.delay = s.delay
  serves : p.delay.Serves o.port.delay

theorem State.renderPlaying_from (s : State) (k : Nat) (p : Port) (ab : Pair) : (s.renderPlaying k p ab).From s p := by
  unfold State.renderPlaying
  split
  · refine ⟨.after (.withChain id) (.withScenes (.of_parts ?_ (.refl _) rfl)), rfl, ?_⟩
    · exact Context.render_follows _ _ _ _ _
    · exact Context.render_serves _ _ _ _ _
  · exact ⟨.refl s, rfl, .refl _⟩

theorem State.renderIncoming_from (s : State) (k : Nat) (p : Port) (ab : Pair) : (s.renderIncoming k p ab).From s p := by
  unfold State.renderIncoming
  split
  next c hr hb =>
    refine ⟨.withScenes (.of_parts (.refl _) (Scene.mapIncoming_follows _ fun c' hc' => ?_) rfl), rfl,
      Context.render_serves _ _ _ _ _⟩
    obtain rfl : c = c' := Option.some.inj ((Scene.incoming_of_built hb).symm.trans hc')
    exact Context.render_follows _ _ _ _ _
  next => exact ⟨.refl s, rfl, .refl _⟩

theorem State.renderSample_works (s : State) (k : Nat) (ab : Pair) : s.Works (s.renderSample k ab).1 := by
  unfold State.renderSample
  split
  · exact .refl s
  · obtain ⟨works, delay, serves⟩ := s.renderPlaying_from k { delay := s.delay, readers := s.readers } ab
    obtain ⟨works', delay', serves'⟩ :=
      (s.renderPlaying k { delay := s.delay, readers := s.readers } ab).state.renderIncoming_from k
        (s.renderPlaying k { delay := s.delay, readers := s.readers } ab).port ab
    refine .after (.withChain id) (.after (.withDelay ?_) (.after (.withScenes ?_) (works.trans works')))
    · rw [State.withScenes_delay, delay', delay]
      exact (serves.trans serves').trans (renderTrails_serves _ _)
    · exact .of_parts (.refl _) (.refl _) (renderTrails_marks _ _)

theorem State.renderSample_ok (s : State) (k : Nat) (ab : Pair) :
    sampleOk (s.renderSample k ab).2.1 ∧ sampleOk (s.renderSample k ab).2.2 := by
  unfold State.renderSample
  split
  · exact ⟨sampleOk_zero, sampleOk_zero⟩
  · exact ⟨sampleOk_sat _, sampleOk_sat _⟩

/-! ## The frame (R196) -/

theorem State.frameRender_works (s : State) (f : FrameInputs) : s.Works (s.frameRender f) := by
  refine .after (.withChain ?_) (.after (.withPins fun _ => s.renderSample_ok _ _) (s.renderSample_works _ _))
  intro h
  rw [State.withPins_chain] at h
  simp [h]

theorem State.frameCount_works (s : State) (f : FrameInputs) : s.Works (s.frameCount f) :=
  .after (.withTuner _ _) ((State.Works.withCounter s _).withTempo Tempo.advance_ok)

theorem State.frameScan_works (s : State) (f : FrameInputs) : s.Works (s.frameScan f) :=
  .ite (fun _ => .withCues id) fun _ => .refl s

theorem State.takeFrame_works (s : State) (f : FrameInputs) : s.Works (s.takeFrame f) :=
  (State.arbitrate_works _).after ((State.frameScan_works _ f).after ((State.frameCount_works _ f).after
    ((State.frameRender_works _ f).after s.settle_works)))

/-! ## The head of the cue queue (R135, R139..R141) -/

theorem State.runBinding_works (s : State) (c : Cue) (t : Target) : s.Works (s.runBinding c t) := by
  unfold State.runBinding
  split
  · exact .withLatches s _
  · split
    · exact .withScenes (SceneManager.writeParam_follows _ _ _ _)
    · exact .refl s

theorem State.act_works (s : State) (a : Action) (c : Cue) : s.Works (s.act a c) := by
  unfold State.act
  split
  · exact .refl s
  · exact .foldl (fun s (b : Binding) => s.runBinding_works c b.target) _ s
  · split
    · exact s.cueRecall_works _ c
    · exact .refl s
  · exact s.takeTap_works _
  · exact s.takeClock_works _
  · exact .withTuner s _

theorem State.handleCue_works (s : State) (c : Cue) : s.Works (s.handleCue c) := by
  refine .after ?_ (State.Works.withLatches s (releaseHolds s.latches c))
  unfold State.handleCue
  dsimp only
  generalize s.withLatches (releaseHolds s.latches c) = s
  split
  · exact .refl s
  · exact .ite (fun _ => (State.copyCue_works _ c _).after (s.act_works _ c)) fun _ => s.act_works _ c

theorem State.takeCue_works (s : State) : s.Works s.takeCue := by
  unfold State.takeCue
  split
  next => exact .refl s
  next c rest h =>
    refine (State.handleCue_works _ c).after (.withCues ?_)
    rintro ⟨hq, hf, hd⟩
    rw [h] at hq
    exact ⟨(Nat.le_succ _).trans hq, hf, hd⟩

end Sys2Proof.Machine
end

section
/-! SUPPORT. What the preset store's operations, the resets and the start-up sequence keep (R105, R112, R116, R197, R198). -/

namespace Sys2Proof.Machine

/-! ## The directory and what backs it (R105, R112) -/

/-- A slot that is backed stays backed when its record stays in the flash or in the write image. -/
theorem Store.backed.mono {st st' : Store} {n : Fin 128} {e : DirEntry} (h : st.backed n e)
    (flash : ∀ bs, st.flashHolds n bs → st'.flashHolds n bs)
    (image : ∀ bs, st.imageHolds n bs → st'.flashHolds n bs ∨ st'.imageHolds n bs) : st'.backed n e := by
  obtain ⟨bs, held | held, valid, rfl⟩ := h
  · exact ⟨bs, .inl (flash bs held), valid, rfl⟩
  · exact ⟨bs, image bs held, valid, rfl⟩

theorem Store.no_image {st : Store} {n : Fin 128} {bs : List Byte} (h : ∀ phase, st.engine ≠ .writing (.store n) phase (.preset bs)) :
    ¬st.imageHolds n bs := fun ⟨_, held⟩ => h _ held

theorem Store.no_image_of_idle {st : Store} (h : st.engine = .idle) (n : Fin 128) (bs : List Byte) : ¬st.imageHolds n bs :=
  Store.no_image fun _ e => nomatch h.symm.trans e

/-- Writing one preset slot leaves the records of the others. -/
theorem Store.flashHolds_of_presets {st st' : Store} {n i : Fin 128} {f : FlashSlot} (h : st'.presets = st.presets.set n f)
    (hi : i ≠ n) {bs : List Byte} (held : st.flashHolds i bs) : st'.flashHolds i bs := by
  have : n.val ≠ i.val := fun e => hi (Fin.ext e.symm)
  simp only [Store.flashHolds, h, Fin.getElem_fin] at held ⊢
  rwa [Vector.getElem_set_ne _ _ this]

theorem Store.directory_setEntry (st : Store) (n i : Fin 128) (e : Option DirEntry) :
    (st.setEntry n e).directory[i] = if i = n then e else st.directory[i] := by
  simp only [Store.setEntry, Fin.getElem_fin, Vector.getElem_set, Fin.ext_iff, eq_comm]

theorem Store.ok_of_idle {st : Store} (idle : st.engine = .idle)
    (h : ∀ (n : Fin 128) (e : DirEntry), st.directory[n] = some e → st.backed n e) : st.ok :=
  ⟨h, by simp [Store.engineOk, idle]⟩

/-- STORE starts: the target's entry is backed by the image (R108, R112). -/
theorem Store.startStore_ok {st : Store} (h : st.ok) (idle : st.engine = .idle) (n : Fin 128) {bs : List Byte}
    (valid : (validate bs).isOk = true) :
    ((st.setEntry n (some { length := bs.length, name := readName bs })).startWrite (.store n) (.preset bs)).ok := by
  refine ⟨fun i e he => ?_, ?_, bs, rfl, valid⟩
  · rw [Store.startWrite, Store.destroyMarker] at he
    dsimp only at he
    rw [Store.directory_setEntry] at he
    split at he
    next same => exact same ▸ Option.some.inj he ▸ ⟨bs, .inr ⟨.erasing, rfl⟩, valid, rfl⟩
    next other =>
      exact (h.1 i e he).mono (fun bs => Store.flashHolds_of_presets rfl other)
        fun bs held => absurd held (Store.no_image_of_idle idle i bs)
  · simp [Store.startWrite, Store.destroyMarker]

/-- ERASE starts: the target is EMPTY in the directory (R110, R112). -/
theorem Store.startErase_ok {st : Store} (h : st.ok) (idle : st.engine = .idle) (n : Fin 128) (image : WriteImage) :
    ((st.setEntry n none).startWrite (.erase n) image).ok := by
  refine ⟨fun i e he => ?_, ?_, ?_⟩
  · rw [Store.startWrite, Store.destroyMarker] at he
    dsimp only at he
    rw [Store.directory_setEntry] at he
    split at he
    next => cases he
    next other =>
      exact (h.1 i e he).mono (fun bs => Store.flashHolds_of_presets rfl other)
        fun bs held => absurd held (Store.no_image_of_idle idle i bs)
  · simp [Store.startWrite, Store.destroyMarker]
  · simp [Store.startWrite, Store.destroyMarker, Store.setEntry]

/-- What changes neither the preset slots nor the directory, with an engine that holds no preset image. -/
theorem Store.ok_of_same {st st' : Store} (h : st.ok) (presets : st'.presets = st.presets) (directory : st'.directory = st.directory)
    (image : ∀ n bs, ¬st.imageHolds n bs) (engine : st'.engineOk) : st'.ok := by
  refine ⟨fun i e he => ?_, engine⟩
  rw [directory] at he
  exact (h.1 i e he).mono (fun bs held => by simpa [Store.flashHolds, presets] using held) fun bs held => absurd held (image i bs)

/-- TABLE_SAVE and SETUP_SAVE start (R111). -/
theorem Store.startTable_ok {st : Store} (h : st.ok) (idle : st.engine = .idle) (n : Fin 8) (image : WriteImage) :
    (st.startWrite (.tableSave n) image).ok :=
  Store.ok_of_same h rfl rfl (Store.no_image_of_idle idle) trivial

theorem Store.startSetup_ok {st : Store} (h : st.ok) (idle : st.engine = .idle) (image : WriteImage) :
    (st.startWrite .setupSave image).ok :=
  Store.ok_of_same h rfl rfl (Store.no_image_of_idle idle) trivial

/-- While a slot's write is in flight, its entry is backed by the write image alone. -/
theorem Store.image_of_destroyed {st : Store} {n : Fin 128} {e : DirEntry} (destroyed : st.presets[n].valid = false)
    (h : st.backed n e) : ∃ bs, st.imageHolds n bs ∧ (validate bs).isOk = true ∧ e = { length := bs.length, name := readName bs } := by
  obtain ⟨bs, ⟨good, -⟩ | held, valid, rfl⟩ := h
  · exact absurd (good.symm.trans destroyed) nofun
  · exact ⟨bs, held, valid, rfl⟩

/-! ## The completions of a write (R112, R113) -/

theorem State.completeWrite_works {s : State} {st : Store} (h : s.store.ok → ({ st with engine := .idle } : Store).ok) (op : StoreOp)
    (verified : Bool) : s.Works (s.completeWrite st op verified) :=
  (State.resumeLoad_works _).after ((State.Works.post _ _ _ _).after (.withStore h))

theorem Store.erased_store_ok {st : Store} {n : Fin 128} {image : WriteImage} (h : st.ok)
    (engine : st.engine = .writing (.store n) .erasing image) :
    ({ st.eraseSector (.store n) with engine := .writing (.store n) .programming image } : Store).ok := by
  obtain ⟨directory, writing⟩ := h
  rw [Store.engineOk, engine] at writing
  obtain ⟨destroyed, bs, rfl, valid⟩ := writing
  refine ⟨fun i e he => ?_, by simp [Store.eraseSector], bs, rfl, valid⟩
  by_cases hi : i = n
  · subst hi
    obtain ⟨bs', ⟨phase, held⟩, valid', rfl⟩ := Store.image_of_destroyed destroyed (directory i e he)
    obtain ⟨-, -, ⟨⟩⟩ := WriteEngine.writing.inj (engine.symm.trans held)
    exact ⟨bs, .inr ⟨.programming, rfl⟩, valid', rfl⟩
  · refine (directory i e he).mono (fun bs => Store.flashHolds_of_presets rfl hi) fun bs' ⟨phase, held⟩ => ?_
    obtain ⟨⟨⟩, -, -⟩ := WriteEngine.writing.inj (engine.symm.trans held)
    exact absurd rfl hi

theorem Store.erased_erase_ok {st : Store} {n : Fin 128} {phase : WritePhase} {image : WriteImage} (h : st.ok)
    (engine : st.engine = .writing (.erase n) phase image) : ({ st.eraseSector (.erase n) with engine := .idle } : Store).ok := by
  obtain ⟨directory, writing⟩ := h
  rw [Store.engineOk, engine] at writing
  obtain ⟨destroyed, empty⟩ := writing
  refine Store.ok_of_idle rfl fun i e he => ?_
  have hi : i ≠ n := by
    rintro rfl
    exact nomatch empty.symm.trans he
  refine (directory i e he).mono (fun bs => Store.flashHolds_of_presets rfl hi) fun bs' ⟨phase, held⟩ => ?_
  exact nomatch engine.symm.trans held

theorem State.takeEraseComplete_works (s : State) : s.Works s.takeEraseComplete := by
  unfold State.takeEraseComplete
  split
  next op image engine =>
    cases op with
    | store n => exact .withStore fun h => Store.erased_store_ok h engine
    | erase n => exact State.completeWrite_works (fun h => Store.erased_erase_ok h engine) _ _
    | tableSave n =>
      exact .withStore fun h => Store.ok_of_same h rfl rfl (fun n bs => Store.no_image (by simp [engine])) trivial
    | setupSave =>
      exact .withStore fun h => Store.ok_of_same h rfl rfl (fun n bs => Store.no_image (by simp [engine])) trivial
  next => exact .refl s

section
variable {st : Store} {n : Fin 128} {image : WriteImage} (h : st.ok)
  (engine : st.engine = .writing (.store n) .programming image)
include h engine

/-- The entries of the other slots are not touched by the programming of a STORE. -/
theorem Store.backed_of_programmed {st' : Store} {verified : Bool} (presets : st'.presets = (st.program (.store n) image verified).presets)
    {i : Fin 128} (hi : i ≠ n) {e : DirEntry} (he : st.directory[i] = some e) : st'.backed i e := by
  obtain ⟨directory, writing⟩ := h
  rw [Store.engineOk, engine] at writing
  obtain ⟨-, bs, rfl, -⟩ := writing
  refine (directory i e he).mono (fun bs => Store.flashHolds_of_presets presets hi) fun bs' ⟨phase, held⟩ => ?_
  obtain ⟨⟨⟩, -, -⟩ := WriteEngine.writing.inj (engine.symm.trans held)
  exact absurd rfl hi

/-- A STORE that failed its verify: its entry is EMPTY. -/
theorem Store.failed_store_ok : ({ (st.program (.store n) image false).setEntry n none with engine := .idle } : Store).ok := by
  have directory : (st.program (.store n) image false).directory = st.directory := by cases image <;> rfl
  refine Store.ok_of_idle rfl fun i e he => ?_
  dsimp only at he
  rw [Store.directory_setEntry, directory] at he
  split at he
  next => cases he
  next hi =>
    refine Store.backed_of_programmed (verified := false) h engine ?_ hi he
    rfl

/-- A STORE that verified: its entry is backed by the flash. -/
theorem Store.verified_store_ok : ({ st.program (.store n) image true with engine := .idle } : Store).ok := by
  have same : (st.program (.store n) image true).directory = st.directory := by cases image <;> rfl
  refine Store.ok_of_idle rfl fun i e he => ?_
  dsimp only at he
  rw [same] at he
  by_cases hi : i = n
  · subst hi
    obtain ⟨directory, writing⟩ := h
    rw [Store.engineOk, engine] at writing
    obtain ⟨destroyed, bs, rfl, valid⟩ := writing
    obtain ⟨bs', ⟨phase, held⟩, valid', rfl⟩ := Store.image_of_destroyed destroyed (directory i e he)
    obtain ⟨-, -, ⟨⟩⟩ := WriteEngine.writing.inj (engine.symm.trans held)
    exact ⟨bs, .inl ⟨by simp [Store.program], by simp [Store.program, FlashSlot.record]⟩, valid', rfl⟩
  · refine Store.backed_of_programmed (verified := true) h engine ?_ hi he
    rfl

end

theorem State.takeWriteComplete_works (s : State) (verified : Bool) : s.Works (s.takeWriteComplete verified) := by
  unfold State.takeWriteComplete
  split
  next op image engine =>
    refine State.completeWrite_works (fun h => ?_) _ _
    cases op with
    | store n =>
      cases verified with
      | false => exact Store.failed_store_ok h engine
      | true => exact Store.verified_store_ok h engine
    | erase n => exact Store.ok_of_same h rfl rfl (fun n bs => Store.no_image (by simp [engine])) trivial
    | tableSave n =>
      exact Store.ok_of_same h (by cases image <;> rfl) (by cases image <;> rfl) (fun n bs => Store.no_image (by simp [engine]))
        trivial
    | setupSave =>
      exact Store.ok_of_same h (by cases image <;> rfl) (by cases image <;> rfl) (fun n bs => Store.no_image (by simp [engine]))
        trivial
  next => exact .refl s

/-! ## The directory scan (R105) -/

theorem FlashSlot.judge_eq_some {f : FlashSlot} {e : DirEntry} (h : f.judge = some e) :
    f.valid = true ∧ (validate f.record).isOk = true ∧ e = { length := f.record.length, name := readName f.record } := by
  unfold FlashSlot.judge at h
  split at h
  next good =>
    simp only [Bool.and_eq_true, decide_eq_true_eq] at good
    obtain ⟨⟨⟨⟨valid, -⟩, -⟩, fits⟩, passed⟩ := good
    have length : f.record.length = f.length := by simp [FlashSlot.record, fits]
    exact ⟨valid, passed, by rw [length]; exact (Option.some.inj h).symm⟩
  next => cases h

theorem FlashSlot.judge_of_destroyed {f : FlashSlot} (h : f.valid = false) : f.judge = none := by
  simp [FlashSlot.judge, h]

theorem Store.directory_scan (st : Store) (n : Fin 128) : st.scan.directory[n] = st.presets[n].judge := by
  simp [Store.scan]

theorem Store.scan_engine (st : Store) : st.scan.engine = st.engine := by rw [Store.scan]

theorem Store.scan_presets (st : Store) : st.scan.presets = st.presets := by rw [Store.scan]

theorem Store.scan_ok {st : Store} (h : st.ok) : st.scan.ok := by
  refine ⟨fun i e he => ?_, ?_⟩
  · rw [Store.directory_scan] at he
    obtain ⟨valid, passed, rfl⟩ := FlashSlot.judge_eq_some he
    refine ⟨st.presets[i].record, .inl ?_, passed, rfl⟩
    rw [Store.flashHolds, Store.scan_presets]
    exact ⟨valid, rfl⟩
  · obtain ⟨-, writing⟩ := h
    have judged := st.directory_scan
    unfold Store.engineOk at writing ⊢
    rw [Store.scan_engine, Store.scan_presets]
    generalize st.scan.directory = directory at judged
    split at writing
    next => trivial
    next => exact writing
    next => exact ⟨writing.1, (judged _).trans (FlashSlot.judge_of_destroyed writing.1)⟩
    next => trivial

end Sys2Proof.Machine
end

section
/-! SUPPORT. What the resets, the start-up sequence and the 32 requests keep, and with them every command. -/

namespace Sys2Proof.Machine

/-! ## Resets (R197) -/

theorem Store.ok_of_empty {st : Store} (directory : st.directory = directoryReset) (engine : st.engine = .idle) : st.ok :=
  Store.ok_of_idle engine fun n e he => by simp [directory, directoryReset] at he

theorem passthrough_rampsOk : passthroughContext.rampsOk := by unfold Context.rampsOk; decide

theorem passthrough_stageLines : ∀ o ∈ passthroughContext.stageLines, o = none := by decide

theorem sceneReset_agrees {holder : Fin 4 → Holder} (free : ∀ l, holder l = .free) : sceneReset.holdings.Agree holder := by
  have none : ∀ (l : Fin 4) (n : Nat), passthroughContext.stageLines[n]? ≠ some (some l) := fun l n h =>
    nomatch passthrough_stageLines _ (List.mem_of_getElem? h)
  constructor <;> intros <;> simp [SceneManager.holdings, sceneReset, Scene.builtLines, Scene.built, free, none]

theorem tempoReset_ok : tempoReset.ok := by
  refine ⟨by unfold beatOk; decide, nofun, ?_, Nat.zero_le _, Nat.zero_le _, Nat.zero_le _, nofun⟩
  exact fun _ h => nomatch h

theorem State.resetBlocks_keeps {s : State} (powerOn present : Bool) {mask : BitVec 16} {history : List Pair}
    (hmask : s.link.ok → mask.toNat < 512) (hhistory : s.chain.history.length = 48 → history.length = 48) :
    s.Works (s.resetBlocks powerOn present mask history) where
  pending := rfl
  mem := id
  link := fun h => ⟨Nat.zero_le _, Nat.zero_le _, hmask h⟩
  outputs := fun _ => ⟨sampleOk_zero, sampleOk_zero⟩
  ramps := fun _ => ⟨passthrough_rampsOk, steady_rampsOk⟩
  tempo := fun _ => tempoReset_ok
  store := fun _ => Store.ok_of_empty rfl rfl
  lines := fun _ => (State.linesOk_iff _).2 (sceneReset_agrees fun l => by
    simp [State.resetBlocks, delayReset, DelayMemory.holder, lineReset])
  sizes := fun ⟨_, _, _, _, _, _, hh⟩ => by
    refine ⟨fun l => ?_, nofun, Nat.zero_le _, Nat.zero_le _, Nat.zero_le _, Nat.zero_le _, hhistory hh⟩
    simp [State.resetBlocks, delayReset, Line.sizesOk, lineReset]
  room := fun _ => Nat.zero_le _

theorem State.requestReset_works (s : State) : s.Works s.requestReset :=
  State.resetBlocks_keeps _ _ (fun ⟨_, _, mask⟩ => mask) id

theorem State.releaseReset_works (s : State) : s.Works s.releaseReset :=
  .ite (fun _ => State.resetBlocks_keeps _ _ (fun _ => by decide) fun _ => rfl) fun _ => .refl s

theorem State.assertReset_works (s : State) : s.Works s.assertReset where
  pending := rfl
  mem := id
  link := id
  outputs := fun _ => ⟨sampleOk_zero, sampleOk_zero⟩
  ramps := id
  tempo := id
  store := fun _ => Store.ok_of_empty rfl rfl
  lines := id
  sizes := fun ⟨hl, _, hq, hf, hd, hu, hh⟩ => ⟨hl, nofun, hq, hf, hd, hu, hh⟩
  room := id

/-! ## Start-up (R198) -/

theorem State.inPhase_works (s : State) (p : StartPhase) {work : State → State} (h : s.Works (work s)) : s.Works (s.inPhase p work) :=
  .ite (fun _ => h) fun _ => .refl s

theorem State.setPhase_works (s : State) (p : StartPhase) : s.Works (s.setPhase p) := .withStartUp s _

theorem State.scanDirectory_works (s : State) : s.Works s.scanDirectory :=
  (State.setPhase_works _ _).after (.withStore Store.scan_ok)

theorem State.loadSettings_works (s : State) (v : Settings) : s.Works (s.loadSettings v) :=
  .after (.withCues id) (.withTuner s _)

theorem State.loadSetup_works (s : State) : s.Works s.loadSetup := (State.Works.withStartUp _ _).after (s.loadSettings_works _)

theorem State.handOver_works (s : State) : s.Works s.handOver :=
  .after (.withChain id) (.withScenes (.of_parts (Context.mapStages_follows _ (Stage.setRamp_follows _ _)) (.refl _) rfl))

theorem State.recallPreset_works (s : State) : s.Works s.recallPreset := by
  unfold State.recallPreset
  split
  · exact .ite (fun _ => s.acceptRecall_works _ _ _ _ _) fun _ => .refl s
  · exact .refl s

theorem Scene.beginLoad_follows (sc : Scene) : sc.Follows sc.beginLoad := by
  unfold Scene.beginLoad
  split
  · exact ⟨rfl, id⟩
  · exact .refl _

theorem State.acceptRequests_works (s : State) : s.Works s.acceptRequests :=
  (State.setPhase_works _ _).after (.setScene (Scene.beginLoad_follows _))

theorem State.finishStartUp_works (s : State) : s.Works s.finishStartUp :=
  (State.acceptRequests_works _).after ((State.Works.post _ _ _ _).after
    ((State.recallPreset_works _).after s.handOver_works))

theorem State.finishWithoutMemory_works (s : State) : s.Works s.finishWithoutMemory :=
  (State.finishStartUp_works _).after (.post s _ _ _)

theorem State.loadBanks_works (s : State) : s.Works s.loadBanks := by
  have loaded : s.Works ((s.withChain { s.chain with banks := Vector.ofFn s.store.bank }).withStartUp
      { s.startUp with tablesLoaded := s.store.loadedMask }) := .after (.withStartUp _ _) (.withChain id)
  refine .after (.ite (fun _ => ?_) fun _ => .ite (fun _ => ?_) fun _ => ?_) loaded
  · exact State.setPhase_works _ _
  · exact State.setPhase_works _ _
  · exact State.finishWithoutMemory_works _

/-- The contents of the memory change, its lines and its port do not. -/
theorem DelayMemory.Serves.withMem {d : DelayMemory} {present : Bool} {mem : List Host.Cell}
    (h : Memory.wf d.mem = true → Memory.wf mem = true) : d.Serves { d with present := present, mem := mem } := ⟨⟨h, id⟩, rfl⟩

theorem State.probed_works (s : State) (readBack : BitVec 8) : s.Works (s.probed readBack) := by
  have written : s.Works (s.withDelay { s.delay with
    present := readBack == BitVec.allOnes 8, mem := Memory.probe s.delay.mem readBack }) :=
    .withDelay (.withMem (Memory.probe_wf readBack))
  exact .after (.ite (fun _ => State.setPhase_works _ _) fun _ => State.finishWithoutMemory_works _) written

theorem State.memoryCleared_works (s : State) : s.Works s.memoryCleared :=
  (State.finishStartUp_works _).after (.withDelay (.withMem fun _ => rfl))

/-! ## The bodies of the requests (R190) -/

theorem State.Works.answer {s : State} {p : Prop} [Decidable p] {a b : Answer} (h : s.Works a.state) (h' : s.Works b.state) :
    s.Works (if p then a else b).state := by
  split
  · exact h
  · exact h'

theorem statusBody_works (s : State) (p : List Byte) : s.Works (statusBody s p).state :=
  .ite (fun _ => .refl s) fun _ => .after (.withCues fun ⟨hq, hf, _⟩ => ⟨hq, hf, Nat.zero_le _⟩) (.withDelay (.clearCounts _))

theorem recallBody_works (s : State) (p : List Byte) : s.Works (recallBody s p).state := by
  unfold recallBody
  split
  · exact .answer (.refl s) (s.acceptRecall_works _ _ _ _ _)
  · exact .refl s

theorem cancelBody_works (s : State) (p : List Byte) : s.Works (cancelBody s p).state := by
  have h := s.cancelRecall_works
  unfold cancelBody
  split
  next e => rw [e] at h; exact h
  next => exact .refl s

theorem editStage_eq_ok {s : State} {stage id : Nat} {st : Stage} (h : s.editStage stage id = .ok st) :
    s.scenes.editContext.stages[stage]? = some st := by
  unfold State.editStage at h
  split at h
  next => cases h
  next st' hst =>
    split at h
    · cases h
      exact hst
    · cases h

theorem editBody_works (s : State) (p : List Byte) : s.Works (editBody s p).state := by
  unfold editBody
  dsimp only
  split
  next => exact .refl s
  next st hst =>
    refine .withScenes (SceneManager.setEdit_follows _ (.trans (Context.setStage_follows _ (editStage_eq_ok hst)
      (st.write_follows (byteAt p 1) (signedAt p 2 4))) (.of_stages rfl)))

theorem getParamBody_works (s : State) (p : List Byte) : s.Works (getParamBody s p).state := by
  unfold getParamBody
  dsimp only
  split <;> exact .refl s

theorem setLatchBody_works (s : State) (p : List Byte) : s.Works (setLatchBody s p).state := by
  unfold setLatchBody
  split
  · exact .withLatches s _
  · exact .refl s

theorem sendCueBody_works (s : State) (p : List Byte) : s.Works (sendCueBody s p).state := by
  unfold sendCueBody
  split
  · split_ifs
    · exact .refl s
    · exact .refl s
    · exact s.makeCue_works _ _ _ _
  · exact .refl s

theorem setFilterBody_works (s : State) (p : List Byte) : s.Works (setFilterBody s p).state := by
  unfold setFilterBody
  split
  · split
    · exact .withCues id
    · exact .refl s
  · exact .refl s

theorem setMaskBody_works (s : State) (p : List Byte) : s.Works (setMaskBody s p).state := by
  unfold setMaskBody
  split
  · exact .withCues id
  · exact .refl s

theorem readCuesBody_works (s : State) (p : List Byte) : s.Works (readCuesBody s p).state := by
  unfold readCuesBody
  dsimp only
  split
  · exact .refl s
  · refine (State.reportCuesIf_works _ _).after (.withCues ?_)
    rintro ⟨hq, hf, hd⟩
    exact ⟨hq, (List.drop_sublist _ _).length_le.trans hf, hd⟩

theorem uploadOpenBody_works (s : State) (p : List Byte) : s.Works (uploadOpenBody s p).state := .withUpload fun _ => Nat.zero_le _

theorem uploadDataBody_works (s : State) (p : List Byte) : s.Works (uploadDataBody s p).state := by
  unfold uploadDataBody
  split
  next fits => exact .withUpload fun _ => by rw [List.length_append]; exact fits
  next => exact .refl s

theorem uploadCheckBody_works (s : State) (p : List Byte) : s.Works (uploadCheckBody s p).state := by
  unfold uploadCheckBody
  split <;> exact .refl s

theorem Store.engine_of_idle {st : Store} (h : ¬(!st.idle) = true) : st.engine = .idle := by
  simpa [Store.idle] using h

theorem SceneManager.storedFrom_follows (m : SceneManager) (slot : Fin 128) : m.Follows (m.storedFrom slot) :=
  m.setEdit_follows (.of_stages rfl)

theorem storeBody_works (s : State) (p : List Byte) : s.Works (storeBody s p).state := by
  unfold storeBody
  split
  next codes =>
    split
    next => exact .refl s
    next idle =>
      dsimp only
      split
      next => exact .refl s
      next cost delays hv =>
        have stored : s.Works (s.withStore ((s.store.setEntry ⟨byteAt p 0, codes.1⟩ (some
            { length := (s.storeRecord (byteAt p 1 == 0)).length, name := readName (s.storeRecord (byteAt p 1 == 0)) })).startWrite
            (.store ⟨byteAt p 0, codes.1⟩) (.preset (s.storeRecord (byteAt p 1 == 0))))) :=
          .withStore fun h => Store.startStore_ok h (Store.engine_of_idle idle) _ (by rw [hv]; rfl)
        exact .after (.ite (fun _ => .withScenes (SceneManager.storedFrom_follows _ _)) fun _ => .refl _) stored
  next => exact .refl s

theorem eraseBody_works (s : State) (p : List Byte) : s.Works (eraseBody s p).state := by
  unfold eraseBody
  split
  · split
    next => exact .refl s
    next idle => exact .withStore fun h => Store.startErase_ok h (Store.engine_of_idle idle) _ _
  · exact .refl s

theorem tableSaveBody_works (s : State) (p : List Byte) : s.Works (tableSaveBody s p).state := by
  unfold tableSaveBody
  split
  · split
    next => exact .refl s
    next idle => exact .withStore fun h => Store.startTable_ok h (Store.engine_of_idle idle) _ _
  · exact .refl s

theorem setupSaveBody_works (s : State) (p : List Byte) : s.Works (setupSaveBody s p).state := by
  unfold setupSaveBody
  split
  · exact .refl s
  · split
    next => exact .refl s
    next idle => exact .withStore fun h => Store.startSetup_ok h (Store.engine_of_idle idle) _

theorem readSlotBody_works (s : State) (p : List Byte) : s.Works (readSlotBody s p).state := by
  unfold readSlotBody
  dsimp only
  split
  · split
    · exact .refl s
    · split
      · exact .refl s
      · split <;> exact .refl s
  · exact .refl s

theorem listBody_works (s : State) (p : List Byte) : s.Works (listBody s p).state := by
  unfold listBody
  dsimp only
  split <;> exact .refl s

theorem tableWriteBody_works (s : State) (p : List Byte) : s.Works (tableWriteBody s p).state := by
  unfold tableWriteBody
  dsimp only
  split
  · split
    · exact .refl s
    · exact .withChain id
  · exact .refl s

theorem tableReadBody_works (s : State) (p : List Byte) : s.Works (tableReadBody s p).state := by
  unfold tableReadBody
  dsimp only
  split <;> exact .refl s

theorem tunerSetBody_works (s : State) (p : List Byte) : s.Works (tunerSetBody s p).state := by
  unfold tunerSetBody
  split
  · exact s.setTuner_works _ _
  · exact .refl s

theorem tempoSetBody_works (s : State) (p : List Byte) : s.Works (tempoSetBody s p).state := by
  unfold tempoSetBody
  split
  next => exact .refl s
  next unlocked =>
    exact (State.Works.refl s).changeTempo fun h => Tempo.setBeat_ok h (Bool.eq_false_iff.2 unlocked) _ _

theorem pedalSetBody_works (s : State) (p : List Byte) : s.Works (pedalSetBody s p).state := by
  unfold pedalSetBody
  dsimp only
  split
  · split
    · refine .after (.withCues ?_) ((State.setPedal_works _ _ _).after (s.settlePlugs_works 4))
      exact id
    · exact .refl s
  · exact .refl s

theorem switchSetBody_works (s : State) (p : List Byte) : s.Works (switchSetBody s p).state := by
  unfold switchSetBody
  dsimp only
  split
  · exact .withCues id
  · exact .refl s

theorem State.setReports_works (s : State) {mask : BitVec 16} (h : mask.toNat < 512) : s.Works (s.setReports mask) := by
  refine (State.reportCuesIf_works _ _).after (.after (.withChain ?_) ((State.reportTunerIf_works _ _).after (.withLink ?_ ?_)))
  · exact id
  · exact fun ⟨total, reports, _⟩ => ⟨total, reports, h⟩
  · exact id

theorem reportsBody_works (s : State) (p : List Byte) : s.Works (reportsBody s p).state := by
  unfold reportsBody
  split
  next => exact .refl s
  next bits => exact s.setReports_works (by rw [BitVec.toNat_ofNat]; omega)

theorem resetBody_works (s : State) (p : List Byte) : s.Works (resetBody s p).state := by
  unfold resetBody
  split
  · exact .refl s
  · exact s.requestReset_works

end Sys2Proof.Machine
end

section
/-! SUPPORT. Every command answers a next state and keeps the waiting commands and the invariants. -/

namespace Sys2Proof.Machine

/-- The command has a next state, and from s to it everything is kept. -/
def Advances (s : State) (o : Outcome) : Prop := ∃ t, o = .next t ∧ s.Keeps t

theorem Advances.of_works {s t : State} (h : s.Works t) : Advances s (.next t) := ⟨t, rfl, h.toKeeps⟩

theorem Advances.whilePowered {s : State} {act : State → State} (h : s.Keeps (act s)) :
    Advances s (Sys2Proof.Machine.whilePowered s act) := by
  refine ⟨_, rfl, ?_⟩
  split
  · exact .refl s
  · exact h

/-- An event's meaning while RESETn is high (R197). -/
theorem Advances.event {s t : State} (h : s.Works t) : Advances s (.next (if s.inReset then s else t)) :=
  .whilePowered (act := fun _ => t) h.toKeeps

theorem Advances.request {body : State → List Byte → Answer} (h : ∀ (s : State) (p : List Byte), s.Works (body s p).state) (s : State)
    (kind : Byte) (f : Frame) (known early : Bool) (fits : Nat → Bool) :
    Advances s (Sys2Proof.Machine.whilePowered s fun s => s.request kind f known early fits body) :=
  .whilePowered (State.request_keeps h s kind f known early fits)

theorem refl_works {body : State → List Byte → Answer} (h : ∀ s p, (body s p).state = s) (s : State) (p : List Byte) :
    s.Works (body s p).state := (h s p).symm ▸ .refl s

/-! ## The events -/

theorem readBurst_works (s : State) : s.Works (match s.delay.burst with
    | some (.read _ _) => (s.withDelay s.delay.completeRead).arbitrate
    | _ => s) := by
  split
  · exact (State.arbitrate_works _).after (.withDelay (.completeRead _))
  · exact .refl s

theorem writeBurst_works (s : State) : s.Works (match s.delay.burst with
    | some (.write _ _ _) => (s.withDelay s.delay.completeWrite).arbitrate
    | _ => s) := by
  split
  · exact (State.arbitrate_works _).after (.withDelay (.completeWrite _))
  · exact .refl s

/-- An event that is followed by a look of the arbiter. -/
theorem State.Works.arbitrated {s t : State} (h : s.Works t) : s.Works t.arbitrate := h.trans t.arbitrate_works

/-! ## The requests, also those spelled as UNKNOWN_REQUEST (R178) -/

theorem execUnknownRequest_advances (kind : Byte) (f : Frame) (s : State) : Advances s (execUnknownRequest kind f s) := by
  unfold execUnknownRequest
  split
  · exact .request (refl_works fun _ _ => rfl) _ _ _ _ _ _
  · exact .request statusBody_works _ _ _ _ _ _
  · exact .request recallBody_works _ _ _ _ _ _
  · exact .request cancelBody_works _ _ _ _ _ _
  · exact .request editBody_works _ _ _ _ _ _
  · exact .request getParamBody_works _ _ _ _ _ _
  · exact .request setLatchBody_works _ _ _ _ _ _
  · exact .request (refl_works fun _ _ => rfl) _ _ _ _ _ _
  · exact .request sendCueBody_works _ _ _ _ _ _
  · exact .request setFilterBody_works _ _ _ _ _ _
  · exact .request setMaskBody_works _ _ _ _ _ _
  · exact .request readCuesBody_works _ _ _ _ _ _
  · exact .request uploadOpenBody_works _ _ _ _ _ _
  · exact .request uploadDataBody_works _ _ _ _ _ _
  · exact .request uploadCheckBody_works _ _ _ _ _ _
  · exact .request storeBody_works _ _ _ _ _ _
  · exact .request eraseBody_works _ _ _ _ _ _
  · exact .request readSlotBody_works _ _ _ _ _ _
  · exact .request listBody_works _ _ _ _ _ _
  · exact .request tableWriteBody_works _ _ _ _ _ _
  · exact .request tableReadBody_works _ _ _ _ _ _
  · exact .request tableSaveBody_works _ _ _ _ _ _
  · exact .request tunerSetBody_works _ _ _ _ _ _
  · exact .request (refl_works fun _ _ => rfl) _ _ _ _ _ _
  · exact .request tempoSetBody_works _ _ _ _ _ _
  · exact .request (refl_works fun _ _ => rfl) _ _ _ _ _ _
  · exact .request pedalSetBody_works _ _ _ _ _ _
  · exact .request (refl_works fun _ _ => rfl) _ _ _ _ _ _
  · exact .request switchSetBody_works _ _ _ _ _ _
  · exact .request setupSaveBody_works _ _ _ _ _ _
  · exact .request reportsBody_works _ _ _ _ _ _
  · exact .request resetBody_works _ _ _ _ _ _
  · exact .request (refl_works fun _ _ => rfl) _ _ _ _ _ _

theorem execIgnoredTransaction_advances (bytes : List Byte) (s : State) : Advances s (execIgnoredTransaction bytes s) := by
  unfold execIgnoredTransaction
  split
  · exact execUnknownRequest_advances _ _ s
  · exact .event s.dropFrame_works
  · exact .event (s.readRecord_works _)
  · exact .event s.endRead_works

/-- Every command of the catalogue. -/
theorem exec_advances (c : Instr) (s : State) : Advances s (exec c s) := by
  cases c with
  | resetnAssert => exact .event s.assertReset_works
  | resetnRelease => exact .of_works s.releaseReset_works
  | directoryScan => exact .of_works (s.inPhase_works _ s.scanDirectory_works)
  | setupLoad => exact .of_works (s.inPhase_works _ s.loadSetup_works)
  | bankLoad => exact .of_works (s.inPhase_works _ s.loadBanks_works)
  | memoryProbe readBack => exact .of_works (s.inPhase_works _ (s.probed_works readBack))
  | memoryClear => exact .of_works (s.inPhase_works _ s.memoryCleared_works)
  | audioFrame inputs => exact .event (s.takeFrame_works inputs)
  | readBurstComplete => exact .event (readBurst_works s)
  | writeBurstComplete => exact .event (writeBurst_works s)
  | tunerRunComplete => exact .event s.takeTunerRun_works
  | tunerLossExpiry => exact .event s.takeTunerLoss_works
  | beatEvent => exact .event s.takeBeat_works
  | clockLossExpiry => exact .event s.takeClockLoss_works
  | blockBoundary => exact .event s.takeBoundary_works
  | gateHoldEnd incoming stage => exact .event (s.takeGateHoldEnd_works incoming stage.val)
  | trailOwnEnd line => exact .event (s.takeTrailOwnEnd_works line).arbitrated
  | trailFadeEnd line => exact .event (s.takeTrailFadeEnd_works line).arbitrated
  | loadRead => exact .event s.takeLoadRead_works
  | loadComplete => exact .event s.takeLoadComplete_works
  | switchPoint => exact .event (.ite (fun _ => s.takeSwitchPoint_works.arbitrated) fun _ => .refl s)
  | dipIn => exact .event (.ite (fun _ => s.takeDipIn_works.arbitrated) fun _ => .refl s)
  | switchEnd => exact .event (.ite (fun _ => s.takeSwitchEnd_works.arbitrated) fun _ => .refl s)
  | eraseComplete => exact .event s.takeEraseComplete_works
  | writeComplete verified => exact .event (s.takeWriteComplete_works verified)
  | switchDebounce switch =>
    exact .event (.ite (fun _ => (State.debounce_works _ switch).after (s.settleSwitches_works _)) fun _ => .refl s)
  | switchHold switch =>
    exact .event (.ite (fun _ => (State.holdCue_works _ switch).after (s.settleSwitches_works _)) fun _ => .refl s)
  | pedalScan => exact .event s.takePedalScan_works
  | pedalUnplug pedal => exact .event (s.takeUnplug_works pedal)
  | pedalPlug pedal => exact .event (s.takePlug_works pedal)
  | controlFrame byte => exact .event (s.receiveByte_works byte false)
  | controlDiscard byte framingError => exact .event (s.receiveByte_works byte framingError)
  | controlFrameByte byte => exact .event (s.receiveByte_works byte false)
  | cueTaken => exact .event s.takeCue_works
  | clockLock => exact .event s.takeClockLock_works
  | clockUpdate => exact .event s.takeClockUpdate_works
  | readRecord event => exact .event (s.readRecord_works event)
  | ignoredTransaction bytes => exact execIgnoredTransaction_advances bytes s
  | incompleteFrame headerBytes => exact .event s.dropFrame_works
  | unknownRequest kind f => exact execUnknownRequest_advances kind f s
  | ident f => exact execUnknownRequest_advances 0x01 f s
  | status f => exact execUnknownRequest_advances 0x02 f s
  | recallScene f => exact execUnknownRequest_advances 0x03 f s
  | cancel f => exact execUnknownRequest_advances 0x04 f s
  | edit f => exact execUnknownRequest_advances 0x05 f s
  | getParam f => exact execUnknownRequest_advances 0x06 f s
  | setLatch f => exact execUnknownRequest_advances 0x07 f s
  | getLatches f => exact execUnknownRequest_advances 0x08 f s
  | sendCue f => exact execUnknownRequest_advances 0x09 f s
  | setFilter f => exact execUnknownRequest_advances 0x0A f s
  | setMask f => exact execUnknownRequest_advances 0x0B f s
  | readCues f => exact execUnknownRequest_advances 0x0C f s
  | uploadOpen f => exact execUnknownRequest_advances 0x0D f s
  | uploadData f => exact execUnknownRequest_advances 0x0E f s
  | uploadCheck f => exact execUnknownRequest_advances 0x0F f s
  | store f => exact execUnknownRequest_advances 0x10 f s
  | erase f => exact execUnknownRequest_advances 0x11 f s
  | readSlot f => exact execUnknownRequest_advances 0x12 f s
  | list f => exact execUnknownRequest_advances 0x13 f s
  | tableWrite f => exact execUnknownRequest_advances 0x14 f s
  | tableRead f => exact execUnknownRequest_advances 0x15 f s
  | tableSave f => exact execUnknownRequest_advances 0x16 f s
  | tunerSet f => exact execUnknownRequest_advances 0x17 f s
  | tunerRead f => exact execUnknownRequest_advances 0x18 f s
  | tempoSet f => exact execUnknownRequest_advances 0x19 f s
  | tempoRead f => exact execUnknownRequest_advances 0x1A f s
  | pedalSet f => exact execUnknownRequest_advances 0x1B f s
  | pedalRead f => exact execUnknownRequest_advances 0x1C f s
  | switchSet f => exact execUnknownRequest_advances 0x1D f s
  | setupSave f => exact execUnknownRequest_advances 0x1E f s
  | reports f => exact execUnknownRequest_advances 0x1F f s
  | reset f => exact execUnknownRequest_advances 0x20 f s

/-- A step keeps the invariants: the part that runs is the same but for the waiting command. -/
theorem step_keeps {s t : State} (h : step s = .next t) : ∃ rest, State.Keeps { s with pending := rest } t := by
  unfold step at h
  split at h
  next =>
    cases h
    exact ⟨s.pending, .refl s⟩
  next c rest _ =>
    obtain ⟨u, e, keeps⟩ := exec_advances c { s with pending := rest }
    cases e.symm.trans h
    exact ⟨rest, keeps⟩

end Sys2Proof.Machine
end
section
/-! CORRECTNESS. The invariants that every step keeps, and that every command completes. -/

namespace Sys2Proof.Machine

/-- Settles O56: `State.Keeps.store`, which every operation of the part is shown to keep. -/
theorem directoryHoldsOnlyValidRecords : Obligations.DirectoryHoldsOnlyValidRecords := fun _ _ ok h =>
  let ⟨_, keeps⟩ := step_keeps h
  keeps.store ok

/-- Settles O57: the line table is written together with the stages and trails that hold the lines. -/
theorem lineTableAgreesWithItsHolders : Obligations.LineTableAgreesWithItsHolders := fun _ _ ok h =>
  let ⟨_, keeps⟩ := step_keeps h
  keeps.lines ok

/-- Settles O58. -/
theorem buffersStayWithinTheirSizes : Obligations.BuffersStayWithinTheirSizes := fun _ _ ok h =>
  let ⟨_, keeps⟩ := step_keeps h
  keeps.sizes ok

/-- Settles O2. -/
theorem everyCommandCompletesAndKeepsTheQueue : Obligations.EveryCommandCompletesAndKeepsTheQueue := fun c s =>
  let ⟨t, h, keeps⟩ := exec_advances c s
  ⟨t, h, keeps.pending⟩

/-- Settles O51. -/
theorem delayMemoryStaysCanonical : Obligations.DelayMemoryStaysCanonical := fun _ _ ok h =>
  let ⟨_, keeps⟩ := step_keeps h
  keeps.mem ok

/-- Settles O52. -/
theorem outboundQueueStaysBounded : Obligations.OutboundQueueStaysBounded := fun _ _ ok h =>
  let ⟨_, keeps⟩ := step_keeps h
  keeps.link ok

/-- Settles O53. -/
theorem outputsStayInTheSampleRange : Obligations.OutputsStayInTheSampleRange := fun _ _ ok h =>
  let ⟨_, keeps⟩ := step_keeps h
  keeps.outputs ok

/-- Settles O54. -/
theorem rampPositionsStayInRange : Obligations.RampPositionsStayInRange := fun _ _ ok h =>
  let ⟨_, keeps⟩ := step_keeps h
  keeps.ramps ok

/-- Settles O55. -/
theorem tempoStaysInRangeAndLockedToTheClock : Obligations.TempoStaysInRangeAndLockedToTheClock := fun _ _ ok h =>
  let ⟨_, keeps⟩ := step_keeps h
  keeps.tempo ok

end Sys2Proof.Machine
end

section
/-! CORRECTNESS. The step, the two resets and the start-up sequence (spec/00 2.3, spec/11 11.2, 11.3). -/

namespace Sys2Proof.Machine

/-- Settles O1. -/
theorem stepRunsTheFrontCommand : Obligations.StepRunsTheFrontCommand :=
  ⟨fun _ _ _ => rfl, fun s h => by rw [step, h]⟩

/-! ## RESETn (R197) -/

theorem State.inPhase_of_ne {s : State} {p : StartPhase} (h : s.startUp.phase ≠ p) (work : State → State) : s.inPhase p work = s :=
  if_neg h

theorem State.inPhase_of_eq {s : State} {p : StartPhase} (h : s.startUp.phase = p) (work : State → State) :
    s.inPhase p work = work s := if_pos h

/-- What a command's meaning comes to while RESETn is low. -/
theorem next_held {s : State} (h : s.startUp.phase = .held) (t : State) : (.next (if s.inReset then s else t) : Outcome) = .next s :=
  whilePowered_held h fun _ => t

theorem execUnknownRequest_held {s : State} (h : s.startUp.phase = .held) (kind : Byte) (f : Frame) :
    execUnknownRequest kind f s = .next s := by
  have idle := next_held h
  unfold execUnknownRequest
  split
  all_goals exact idle _

/-- While RESETn is low only its rising edge acts. -/
theorem exec_held {s : State} (h : s.startUp.phase = .held) {c : Instr} (hc : c ≠ .resetnRelease) : exec c s = .next s := by
  have idle := next_held h
  have waits : ∀ (p : StartPhase) (work : State → State), p ≠ .held → (.next (s.inPhase p work) : Outcome) = .next s :=
    fun p work hp => congrArg _ (State.inPhase_of_ne (h.trans_ne hp.symm) work)
  cases c
  case resetnRelease => exact absurd rfl hc
  case directoryScan =>
    change execDirectoryScan s = _
    rw [execDirectoryScan]
    exact waits .directory State.scanDirectory nofun
  case setupLoad => exact waits .setup State.loadSetup nofun
  case bankLoad => exact waits .banks State.loadBanks nofun
  case memoryProbe readBack => exact waits .probe (fun s => s.probed readBack) nofun
  case memoryClear => exact waits .clear State.memoryCleared nofun
  case unknownRequest kind f => exact execUnknownRequest_held h kind f
  case ignoredTransaction bytes =>
    change execIgnoredTransaction bytes s = .next s
    unfold execIgnoredTransaction
    split
    · exact execUnknownRequest_held h _ _
    all_goals exact idle _
  all_goals exact idle _

theorem State.assertReset_daout (s : State) (i : Fin 4) : s.assertReset.daout[i] = 0 := by
  have driven : ∀ i : Fin 4, (#v[0, 0, toSlot 0, toSlot 0] : Vector (BitVec 32) 4)[i] = 0 := by decide
  exact driven i

/-- Settles O3. -/
theorem resetnHoldsAndReleasesThePart : Obligations.ResetnHoldsAndReleasesThePart := by
  unfold Obligations.ResetnHoldsAndReleasesThePart
  refine ⟨fun s h => ⟨s.assertReset, exec_resetnAssert h, ?_⟩, fun c s h => exec_held h, fun s => ⟨fun h => ?_, fun h => ?_⟩⟩
  · exact ⟨rfl, rfl, rfl, rfl, rfl, s.assertReset_daout, fun _ => rfl, rfl, rfl, rfl, rfl, rfl, rfl, rfl⟩
  · exact congrArg _ (if_pos (inReset_eq_true h))
  · exact congrArg _ (if_neg (by rw [inReset_eq_false h]; decide))

/-! ## RESET (R197) -/

/-- Settles O4. -/
theorem resetRequestResetsUnlessBusy : Obligations.ResetRequestResetsUnlessBusy := by
  unfold Obligations.ResetRequestResetsUnlessBusy
  refine fun s tag h => ⟨fun busy => ?_, fun idle => ?_⟩
  · have e : resetBody s.endRead [] = s.endRead.refuse .busy := if_pos (by simpa [Store.idle] using busy)
    exact request_refuses h (Nat.zero_le _) rfl e
  · have e : resetBody s.endRead [] = s.endRead.requestReset.okay [] := if_neg (by simp [Store.idle, idle])
    exact request_answers h (Nat.zero_le _) rfl e rfl rfl

/-! ## The reset values -/

/-- Settles O5. -/
theorem powerOnResetValues : Obligations.PowerOnResetValues := by
  unfold Obligations.PowerOnResetValues
  intro s
  and_intros
  all_goals decide

/-- Settles O59. -/
theorem invariantsHoldAtReset : Obligations.InvariantsHoldAtReset := by
  unfold Obligations.InvariantsHoldAtReset
  refine ⟨reset_mem_wf, ⟨Nat.zero_le _, Nat.zero_le _, by decide⟩, ⟨sampleOk_zero, sampleOk_zero⟩,
    ⟨passthrough_rampsOk, steady_rampsOk⟩, tempoReset_ok, Store.ok_of_empty rfl rfl, ?_, ?_⟩
  · exact (State.linesOk_iff _).2 (sceneReset_agrees (by decide))
  · refine ⟨?_, nofun, Nat.zero_le _, Nat.zero_le _, Nat.zero_le _, Nat.zero_le _, rfl⟩
    unfold Line.sizesOk
    decide

end Sys2Proof.Machine
end

section
/-! CORRECTNESS. The delay memory byte by byte and sample by sample (spec/03 3.1), a read and an input of a line (R43, R44, R50, R52), and
the completions of bursts (R55). -/

namespace Sys2Proof.Machine

/-! ## Bytes -/

theorem Memory.read_write_ne (m : List Host.Cell) {a b : Nat} (h : b ≠ a) (v : Byte) :
    Memory.read (Memory.write m a v) b = Memory.read m b := by
  induction m with
  | nil =>
    unfold Memory.write
    split <;> simp [Memory.read, Ne.symm h]
  | cons c m ih =>
    obtain ⟨k, x⟩ := c
    unfold Memory.write
    split
    · simp [Memory.read, ih]
    · split
      next e =>
        subst e
        split <;> simp [Memory.read, Ne.symm h]
      next => split <;> simp [Memory.read, Ne.symm h]

/-- An address below every listed one reads 0. -/
theorem Memory.read_of_below {m : List Host.Cell} {a : Nat} (h : ∀ e ∈ m, a < e.1) : Memory.read m a = 0 := by
  induction m with
  | nil => rfl
  | cons c m ih =>
    obtain ⟨k, x⟩ := c
    rw [Memory.read, if_neg (h (k, x) List.mem_cons_self).ne', ih fun e he => h e (List.mem_cons_of_mem _ he)]

theorem Memory.read_write_self {m : List Host.Cell} (wf : Memory.wf m = true) (a : Nat) (v : Byte) :
    Memory.read (Memory.write m a v) a = v := by
  induction m with
  | nil =>
    unfold Memory.write
    split
    next e => exact e.symm
    next => simp [Memory.read]
  | cons c m ih =>
    obtain ⟨k, x⟩ := c
    obtain ⟨-, above, rest⟩ := (Memory.wf_cons k x m).1 wf
    unfold Memory.write
    split
    next below => simp [Memory.read, below.ne, ih rest]
    next =>
      split
      next e =>
        subst e
        split
        next zero => rw [Memory.read_of_below above, zero]
        next => simp [Memory.read]
      next below =>
        split
        next zero =>
          have listed : ∀ e ∈ (k, x) :: m, a < e.1 := by
            rw [List.forall_mem_cons]
            exact ⟨by omega, fun e he => lt_trans (by omega) (above e he)⟩
          rw [Memory.read_of_below listed, zero]
        next => simp [Memory.read]

theorem Memory.read_write {m : List Host.Cell} (wf : Memory.wf m = true) (a b : Nat) (v : Byte) :
    Memory.read (Memory.write m a v) b = if b = a then v else Memory.read m b := by
  split
  next e => rw [e, Memory.read_write_self wf]
  next e => rw [Memory.read_write_ne m e]

theorem Memory.read_writeBytes_out (bs : List Byte) (m : List Host.Cell) {a b : Nat} (h : b < a ∨ a + bs.length ≤ b) :
    Memory.read (Memory.writeBytes m a bs) b = Memory.read m b := by
  induction bs generalizing m a with
  | nil => rfl
  | cons x bs ih =>
    rw [List.length_cons] at h
    rw [Memory.writeBytes, ih _ (by omega), Memory.read_write_ne _ (by omega)]

theorem Memory.read_writeBytes_in {m : List Host.Cell} (wf : Memory.wf m = true) (bs : List Byte) (a : Nat) {i : Nat}
    (h : i < bs.length) : Memory.read (Memory.writeBytes m a bs) (a + i) = bs[i] := by
  induction bs generalizing m a i with
  | nil => exact absurd h (Nat.not_lt_zero _)
  | cons x bs ih =>
    rw [Memory.writeBytes]
    cases i with
    | zero => rw [Memory.read_writeBytes_out _ _ (by omega)]; exact Memory.read_write_self wf a x
    | succ i =>
      rw [← Nat.add_assoc, Nat.add_right_comm]
      exact ih (Memory.write_wf a x wf) (a + 1) (Nat.lt_of_succ_lt_succ h)

/-! ## Samples -/

theorem Memory.sample_congr {m m' : List Host.Cell} {l : Fin 4} {p : Nat}
    (h : ∀ i < 3, Memory.read m' (sampleAddress l p + i) = Memory.read m (sampleAddress l p + i)) :
    Memory.sample m' l p = Memory.sample m l p := by
  simp only [Memory.sample]
  rw [h 1 (by decide), h 2 (by decide), show Memory.read m' (sampleAddress l p) = _ from h 0 (by decide)]
  rfl

theorem Memory.sample_writeSample {m : List Host.Cell} (wf : Memory.wf m = true) (l : Fin 4) (p : Nat) {v : Int} (hv : sampleOk v) :
    Memory.sample (Memory.writeSample m l p v) l p = v := by
  have read : ∀ (i : Nat) (h : i < (bytesSignedLE 3 v).length),
      Memory.read (Memory.writeSample m l p v) (sampleAddress l p + i) = (bytesSignedLE 3 v)[i] := fun i h =>
    Memory.read_writeBytes_in wf _ _ h
  have all : (bytesSignedLE 3 v) = [Memory.read (Memory.writeSample m l p v) (sampleAddress l p),
      Memory.read (Memory.writeSample m l p v) (sampleAddress l p + 1),
      Memory.read (Memory.writeSample m l p v) (sampleAddress l p + 2)] := by
    rw [read 1 (by simp), read 2 (by simp), show Memory.read _ (sampleAddress l p) = _ from read 0 (by simp)]
    rfl
  obtain ⟨low, high⟩ := hv
  rw [Memory.sample, ← all, ofBytesSignedLE_bytesSignedLE]
  · norm_num [sampleMin] at low ⊢
    omega
  · norm_num [sampleMax] at high ⊢
    omega

/-- A sample's bytes lie outside those of another one. -/
theorem Memory.sample_writeSample_out (m : List Host.Cell) {l l' : Fin 4} {p p' : Nat}
    (h : sampleAddress l' p' + 3 ≤ sampleAddress l p ∨ sampleAddress l p + 3 ≤ sampleAddress l' p') (v : Int) :
    Memory.sample (Memory.writeSample m l p v) l' p' = Memory.sample m l' p' :=
  Memory.sample_congr fun i hi => Memory.read_writeBytes_out _ _ (by rw [bytesSignedLE_length]; omega)

theorem sampleAddress_apart_of_line {l : Fin 4} {p p' : Nat} (h : p ≠ p') :
    sampleAddress l p' + 3 ≤ sampleAddress l p ∨ sampleAddress l p + 3 ≤ sampleAddress l p' := by
  unfold sampleAddress
  omega

theorem sampleAddress_apart {l l' : Fin 4} {p p' : Nat} (hp : p < 131072) (hp' : p' < 131072) (h : (l, p) ≠ (l', p')) :
    sampleAddress l' p' + 3 ≤ sampleAddress l p ∨ sampleAddress l p + 3 ≤ sampleAddress l' p' := by
  by_cases e : l = l'
  · subst e
    exact sampleAddress_apart_of_line fun e => h (by rw [e])
  · have : l.val ≠ l'.val := fun he => e (Fin.ext he)
    simp only [sampleAddress, Config.lineBytes]
    omega

/-! ## The entries of a write burst (R52, R55) -/

theorem Memory.read_writeEntries_out (es : List (Nat × Int)) (m : List Host.Cell) (l : Fin 4) {a : Nat}
    (h : ∀ e ∈ es, a < sampleAddress l e.1 ∨ sampleAddress l e.1 + 3 ≤ a) :
    Memory.read (Memory.writeEntries m l es) a = Memory.read m a := by
  induction es generalizing m with
  | nil => rfl
  | cons e es ih =>
    rw [List.forall_mem_cons] at h
    rw [Memory.writeEntries, ih _ h.2]
    exact Memory.read_writeBytes_out _ _ (by rw [bytesSignedLE_length]; exact h.1)

theorem Memory.sample_writeEntries {m : List Host.Cell} (wf : Memory.wf m = true) (l : Fin 4) {es : List (Nat × Int)}
    (apart : es.Pairwise fun e f => e.1 ≠ f.1) (ok : ∀ e ∈ es, sampleOk e.2) :
    ∀ e ∈ es, Memory.sample (Memory.writeEntries m l es) l e.1 = e.2 := by
  induction es generalizing m with
  | nil => exact fun _ h => nomatch h
  | cons e es ih =>
    rw [List.pairwise_cons] at apart
    rw [List.forall_mem_cons] at ok ⊢
    have wf' := Memory.writeSample_wf l e.1 e.2 wf
    refine ⟨?_, ih wf' apart.2 ok.2⟩
    refine (Memory.sample_congr fun i hi => ?_).trans (Memory.sample_writeSample wf l e.1 ok.1)
    refine Memory.read_writeEntries_out es _ l fun f hf => ?_
    have := sampleAddress_apart_of_line (l := l) (apart.1 f hf)
    omega

/-! ## A read and an input of a line (R43, R44, R50, R52) -/

theorem positionAt_cast (wp : Nat) (age : Int) : (positionAt wp age : Int) = ((wp : Int) - age) % 131072 := by
  unfold positionAt
  omega

theorem Line.deliver_out {ln : Line} {age : Int} (h : age ≤ 0 ∨ (ln.span : Int) < age) (prev : Int) : ln.deliver age prev = (0, false) :=
  if_pos h

theorem Line.deliver_window {ln : Line} {age : Int} (pos : 1 ≤ age) (span : age ≤ ln.span) (recent : age ≤ 64) (prev : Int) :
    ln.deliver age prev = (ln.window.getD (age - 1).toNat 0, false) := by
  unfold Line.deliver
  rw [if_neg (by omega), if_pos (by simpa [Config.windowLength] using recent)]
  congr 2
  omega

/-- Beyond the window the read FIFO's head entry is delivered when it is for the position read. -/
theorem Line.deliver_head {ln : Line} {age : Int} (old : 64 < age) (span : age ≤ ln.span) (prev : Int) :
    (∀ p v rest, ln.readFifo = (p, v) :: rest → (p : Int) = ((ln.wp : Int) - age) % 131072 → ln.deliver age prev = (v, false)) ∧
    ((∀ p v rest, ln.readFifo = (p, v) :: rest → (p : Int) ≠ ((ln.wp : Int) - age) % 131072) → ln.deliver age prev = (prev, true)) := by
  unfold Line.deliver
  rw [if_neg (by omega), if_neg (by simpa [Config.windowLength] using old), ← positionAt_cast]
  constructor
  · intro p v rest h e
    rw [h]
    exact if_pos (Int.ofNat.inj e)
  · intro other
    split
    next p v rest h => exact if_neg fun same => other p v rest h (congrArg _ same)
    next => rfl

/-- Settles O20. -/
theorem delayMemoryReadsWhatWasWritten : Obligations.DelayMemoryReadsWhatWasWritten := by
  unfold Obligations.DelayMemoryReadsWhatWasWritten
  refine ⟨fun m a b v wf => Memory.read_write wf a b v, fun m l p v wf hv => Memory.sample_writeSample wf l p hv,
    fun m l l' p p' v _ hp hp' h => Memory.sample_writeSample_out m (sampleAddress_apart hp hp' h) v, fun ln age prev => ?_,
    fun ln v => rfl⟩
  exact ⟨fun h => Line.deliver_out h prev, fun pos span recent => Line.deliver_window pos span recent prev,
    fun old span => Line.deliver_head old span prev⟩

/-! ## Completions (R55) -/

/-- Settles O18. -/
theorem burstCompletionsMoveTheirSamples : Obligations.BurstCompletionsMoveTheirSamples := by
  unfold Obligations.BurstCompletionsMoveTheirSamples
  refine ⟨fun s l wanted h hb => ?_, fun s l entries stale h hb => ?_, fun d readers => ⟨by simp, by simp, by simp⟩,
    fun s h hb => ?_⟩
  · rw [exec_readBurstComplete h, hb]
    simp only [DelayMemory.completeRead, hb]
    rfl
  · refine ⟨Memory.writeEntries s.delay.mem l entries, ?_, fun a => Memory.read_writeEntries_out entries _ l,
      fun wf => Memory.sample_writeEntries wf l⟩
    rw [exec_writeBurstComplete h, hb]
    simp only [DelayMemory.completeWrite, hb]
    rfl
  · rw [exec_readBurstComplete h, exec_writeBurstComplete h, hb]
    exact ⟨rfl, rfl⟩

end Sys2Proof.Machine
end

section
/-! CORRECTNESS. The steps of the start-up sequence (spec/06 6.2, spec/11 11.3). -/

namespace Sys2Proof.Machine

/-! ## The directory scan and the setup (R105, R106) -/

theorem FlashSlot.judge_isSome (f : FlashSlot) : f.judge.isSome = true ↔
    f.valid = true ∧ 1 ≤ f.length ∧ f.length ≤ 1024 ∧ f.length ≤ f.bytes.length ∧ (validate f.record).isOk = true := by
  unfold FlashSlot.judge
  simp only [Option.isSome_ite, Bool.and_eq_true, decide_eq_true_eq, and_assoc]
  exact Iff.rfl

theorem FlashSlot.judge_cases (f : FlashSlot) :
    f.judge = some { length := f.length, name := readName f.record } ∨ f.judge = none := by
  unfold FlashSlot.judge
  split
  · exact .inl rfl
  · exact .inr rfl

/-- Settles O6. -/
theorem directoryScanJudgesEverySlot : Obligations.DirectoryScanJudgesEverySlot := by
  unfold Obligations.DirectoryScanJudgesEverySlot
  intro s h
  refine ⟨s.scanDirectory, congrArg _ (State.inPhase_of_eq h _), fun n => ?_, ?_⟩
  · have judged : s.scanDirectory.store.directory[n] = s.store.presets[n].judge := s.store.directory_scan n
    rw [judged]
    exact ⟨s.store.presets[n].judge_cases, s.store.presets[n].judge_isSome⟩
  · have written : s.store.scan = { s.store with directory := s.store.scan.directory } := by rw [Store.scan]
    unfold State.scanDirectory
    generalize s.store.scan = st at written ⊢
    exact congrArg (fun st => (s.withStore st).setPhase .setup) written

theorem PedalSettings.inRange_iff (p : PedalSettings) :
    p.inRange = true ↔ p.lo ≤ 1023 ∧ p.hi ≤ 1023 ∧ 1 ≤ p.deadband ∧ p.deadband ≤ 32 := by
  simp only [PedalSettings.inRange, Bool.and_eq_true, decide_eq_true_eq, and_assoc]

theorem TunerSettings.inRange_iff (t : TunerSettings) : t.inRange = true ↔ t.toggle ≠ .off ∧ 4300 ≤ t.reference ∧ t.reference ≤ 4500 ∧
    1 ≤ t.window ∧ t.window ≤ 50 ∧ t.runLength ∈ [2, 4, 8, 16] ∧ 0 ≤ t.threshold ∧ t.threshold ≤ 8388607 := by
  simp only [TunerSettings.inRange, Bool.and_eq_true, decide_eq_true_eq, bne_iff_ne, Bool.or_eq_true, beq_iff_eq, and_assoc, or_assoc,
    List.mem_cons, List.not_mem_nil, or_false]

theorem Vector.all_toList_iff {α : Type} {n : Nat} (v : Vector α n) (p : α → Bool) :
    v.toList.all p = true ↔ ∀ i : Fin n, p v[i] = true := by
  rw [List.all_eq_true]
  constructor
  · exact fun h i => h _ (by simp)
  · intro h x hx
    obtain ⟨i, hi, rfl⟩ := List.mem_iff_getElem.1 hx
    simpa using h ⟨i, by simpa using hi⟩

theorem SetupSlot.good_iff (slot : SetupSlot) : slot.good = true ↔
    let v := slot.record.settings
    slot.valid = true ∧ slot.length = 215 ∧ v.tuner.toggle ≠ .off ∧ 4300 ≤ v.tuner.reference ∧ v.tuner.reference ≤ 4500 ∧
    1 ≤ v.tuner.window ∧ v.tuner.window ≤ 50 ∧ v.tuner.runLength ∈ [2, 4, 8, 16] ∧ 0 ≤ v.tuner.threshold ∧
    v.tuner.threshold ≤ 8388607 ∧ 2 ≤ v.debounceMs ∧ v.debounceMs ≤ 40 ∧ 300 ≤ v.holdMs ∧ v.holdMs ≤ 2000 ∧
    1 ≤ v.scanMs ∧ v.scanMs ≤ 20 ∧
    (∀ i : Fin 4, v.pedals[i].lo ≤ 1023 ∧ v.pedals[i].hi ≤ 1023 ∧ 1 ≤ v.pedals[i].deadband ∧ v.pedals[i].deadband ≤ 32) ∧
    1 ≤ v.watermark ∧ v.watermark ≤ 32 := by
  simp only [SetupSlot.good, Settings.inRange, Bool.and_eq_true, decide_eq_true_eq, beq_iff_eq, TunerSettings.inRange_iff,
    Vector.all_toList_iff, PedalSettings.inRange_iff, and_assoc, Config.setupRecordBytes]

theorem State.settings_loadSettings (s : State) (v : Settings) : (s.loadSettings v).settings = v := by
  have pedals : (Vector.ofFn fun (i : Fin 4) => (s.loadSettings v).cues.pedals[i].settings) = v.pedals := by
    ext i hi
    simp [State.loadSettings]
  rw [State.settings, pedals]
  rfl

theorem State.loadSettings_pedal (s : State) (v : Settings) (i : Fin 4) :
    (s.loadSettings v).cues.pedals[i] = { s.cues.pedals[i] with settings := v.pedals[i] } := by
  simp [State.loadSettings]

theorem filterDefault_eq (n : Fin 24) : settingsDefault.filters[n] =
    if h : n.val < 8 then ⟨true, BitVec.ofNat 16 n.val, .exact, .bind ⟨n.val, by omega⟩, false⟩
    else if h : n.val < 16 then ⟨true, BitVec.ofNat 16 (0x100 + (n.val - 8)), .exact, .bind ⟨n.val - 8, by omega⟩, false⟩
    else if h : n.val < 20 then ⟨true, BitVec.ofNat 16 (0x1300 + (n.val - 16)), .exact, .bind ⟨n.val - 8, by omega⟩, false⟩
    else if n.val = 20 then ⟨true, 0x0400, .mask 1, .startRecall 0, false⟩
    else ⟨false, 0, .exact, .none, false⟩ := by
  revert n
  decide

/-- Settles O7. -/
theorem setupLoadTakesTheSetupOrTheDefaults : Obligations.SetupLoadTakesTheSetupOrTheDefaults := by
  unfold Obligations.SetupLoadTakesTheSetupOrTheDefaults
  refine ⟨SetupSlot.good_iff, ⟨rfl, rfl, rfl, rfl, rfl, rfl, by decide, filterDefault_eq⟩, fun s h => ?_⟩
  refine ⟨s.loadSetup, congrArg _ (State.inPhase_of_eq h _), ⟨s.settings_loadSettings _, rfl, s.loadSettings_pedal _⟩, rfl, rfl, rfl,
    rfl, rfl, rfl, rfl, rfl, rfl, rfl, rfl, rfl, rfl, rfl⟩

end Sys2Proof.Machine
end

section
/-! CORRECTNESS. The end of the start-up sequence (spec/11 11.3): banks, the probe and the clearing of the delay memory, steps 6 to 9. -/

namespace Sys2Proof.Machine

/-! ## Steps 6 to 9 (R198, R199) -/

/-- An accepted recall in STEADY begins its load. -/
theorem State.acceptRecall_steady {s : State} (h : s.scenes.scene = .steady) (source : Source) (origin : Origin) (timing : Option Timing)
    (fade : Option (BitVec 8)) (phase : LoadPhase) : s.acceptRecall source origin timing fade phase =
      s.withScenes { s.scenes with
        lastRecall := s.scenes.lastRecall + 1
        scene := .loading (newIncoming source origin timing fade (s.scenes.lastRecall + 1)) phase } := by
  simp only [State.acceptRecall, State.withScenes_scenes, h]
  rfl

/-- Steps 6 to 9 with no recall in step 7. -/
theorem State.finishStartUp_quiet {s : State} (h : s.recallsPreset = false) :
    s.finishStartUp = (s.handOver.reportStarted false).acceptRequests := by
  have same : s.handOver.recallPreset = s.handOver := by
    unfold State.recallPreset
    split
    next n hn =>
      have hn : s.startUp.preset = some n := hn
      have invalid : s.handOver.store.slotValid n = false := by
        rw [State.recallsPreset, hn] at h
        exact h
      exact if_neg (by rw [invalid]; decide)
    next => rfl
  rw [State.finishStartUp, same, h]

/-- The recall of step 7, in STEADY. -/
def State.presetRecalled (s : State) (n : Fin 128) : State :=
  s.handOver.withScenes { s.handOver.scenes with
    lastRecall := s.scenes.lastRecall + 1
    scene := .loading (newIncoming (.slot n) .link (some .now) (some 0) (s.scenes.lastRecall + 1)) .held }

/-- Steps 6 to 9 with the recall of step 7. -/
theorem State.finishStartUp_recalls {s : State} (steady : s.scenes.scene = .steady) {n : Fin 128} (hp : s.startUp.preset = some n)
    (hv : s.store.slotValid n = true) : s.finishStartUp = ((s.presetRecalled n).reportStarted true).acceptRequests := by
  have recalled : s.handOver.recallPreset = s.presetRecalled n := by
    have hp' : s.handOver.startUp.preset = some n := hp
    rw [State.recallPreset, hp']
    exact (if_pos hv).trans (State.acceptRecall_steady (s := s.handOver) steady _ _ _ _ _)
  have recalls : s.recallsPreset = true := by rw [State.recallsPreset, hp]; exact hv
  rw [State.finishStartUp, recalled, recalls]

theorem State.recallsPreset_cases (s : State) :
    s.recallsPreset = false ∨ ∃ n, s.startUp.preset = some n ∧ s.store.slotValid n = true := by
  unfold State.recallsPreset
  cases s.startUp.preset with
  | none => exact .inl rfl
  | some n => exact (Bool.eq_false_or_eq_true (s.store.slotValid n)).symm.imp_right fun h => ⟨n, rfl, h⟩

/-- What steps 6 to 9 write, in STEADY. -/
theorem State.finishStartUp_frame {s : State} (steady : s.scenes.scene = .steady) : s.finishStartUp = { s with
    startUp := { s.startUp with phase := .running }
    chain := { s.chain with handover := true }
    scenes := s.finishStartUp.scenes
    link := s.finishStartUp.link } ∧ s.finishStartUp.scenes.playing = s.handOver.scenes.playing := by
  rcases s.recallsPreset_cases with h | ⟨n, hp, hv⟩
  · rw [State.finishStartUp_quiet h]
    exact ⟨rfl, rfl⟩
  · rw [State.finishStartUp_recalls steady hp hv]
    exact ⟨rfl, rfl⟩

theorem State.handOver_stage {s : State} {i : Nat} {st : Stage} (h : s.scenes.playing.stages[i]? = some st) :
    ∃ st' : Stage, s.handOver.scenes.playing.stages[i]? = some st' ∧
      st'.m = if st.engaged s.latches s.tuner.muting then 256 else 0 :=
  ⟨st.setRamp s.latches s.tuner.muting, by simp [State.handOver, Context.mapStages, h], rfl⟩

theorem State.finishStartUp_finished {s : State} (steady : s.scenes.scene = .steady) (first : s.scenes.lastRecall = 0) :
    startUpFinished s s.finishStartUp := by
  obtain ⟨frame, playing⟩ := State.finishStartUp_frame steady
  refine ⟨by rw [frame], by rw [frame], fun i st h => playing ▸ State.handOver_stage h, ?_⟩
  cases hp : s.startUp.preset with
  | none =>
    have quiet : s.recallsPreset = false := by rw [State.recallsPreset, hp]; rfl
    rw [State.finishStartUp_quiet quiet]
    have scene : s.handOver.scenes.scene = .steady := steady
    have preset : s.handOver.startUp.preset = none := hp
    refine ⟨by simp [State.acceptRequests, State.setPhase, State.reportStarted, scene, Scene.beginLoad], ?_⟩
    simp only [State.acceptRequests, State.setPhase, State.reportStarted, preset]
    rfl
  | some n =>
    by_cases hv : s.store.slotValid n = true
    · rw [State.finishStartUp_recalls steady hp hv]
      have number : s.scenes.lastRecall + 1 = 1 := by rw [first]; rfl
      have preset : (s.presetRecalled n).startUp.preset = some n := hp
      dsimp only
      rw [if_pos (show s.store.directory[n].isSome = true from hv)]
      refine ⟨⟨newIncoming (.slot n) .link (some .now) (some 0) (s.scenes.lastRecall + 1), rfl, number, rfl, rfl, rfl, rfl⟩,
        number, ?_⟩
      simp only [State.acceptRequests, State.setPhase, State.reportStarted, preset]
      rw [show (s.presetRecalled n).scenes.lastRecall = 1 from number]
      rfl
    · have quiet : s.recallsPreset = false := by
        rw [State.recallsPreset, hp]
        exact Bool.eq_false_iff.2 hv
      rw [State.finishStartUp_quiet quiet]
      have scene : s.handOver.scenes.scene = .steady := steady
      have preset : s.handOver.startUp.preset = some n := hp
      dsimp only
      rw [if_neg (show ¬s.store.directory[n].isSome = true from hv)]
      refine ⟨by simp [State.acceptRequests, State.setPhase, State.reportStarted, scene, Scene.beginLoad], ?_⟩
      simp only [State.acceptRequests, State.setPhase, State.reportStarted, preset]
      rfl

/-! ## The banks (R10, R106) -/

theorem TableSlot.good_iff (slot : TableSlot) :
    slot.good = true ↔ slot.valid = true ∧ slot.length = 771 ∧ ∀ i : Fin 257, sampleOk slot.entries[i] := by
  simp only [TableSlot.good, Bool.and_eq_true, beq_iff_eq, Vector.all_toList_iff, decide_eq_true_eq, and_assoc]
  exact Iff.rfl

/-- The sum of the powers of the marked bits below k has those bits. -/
theorem testBit_bitSum (marked : Nat → Bool) (k : Nat) :
    ((List.range k).filter marked).foldl (fun m i => m + 2 ^ i) 0 < 2 ^ k ∧
      ∀ j < k, (((List.range k).filter marked).foldl (fun m i => m + 2 ^ i) 0).testBit j = marked j := by
  induction k with
  | zero => exact ⟨by simp, fun j h => absurd h (Nat.not_lt_zero j)⟩
  | succ k ih =>
    obtain ⟨small, bits⟩ := ih
    rw [List.range_succ, List.filter_append, List.foldl_append]
    generalize ((List.range k).filter marked).foldl (fun m i => m + 2 ^ i) 0 = m at small bits ⊢
    have top : m.testBit k = false := Nat.testBit_lt_two_pow small
    have below : ∀ {j : Nat}, j < k + 1 → j = k ∨ j < k := fun h => by omega
    cases hk : marked k with
    | false =>
      simp only [List.filter_singleton, hk, cond_false, List.foldl_nil]
      refine ⟨by rw [pow_succ]; omega, fun j hj => ?_⟩
      rcases below hj with rfl | hj
      · rw [top, hk]
      · exact bits j hj
    | true =>
      simp only [List.filter_singleton, hk, cond_true, List.foldl_cons, List.foldl_nil]
      refine ⟨by rw [pow_succ]; omega, fun j hj => ?_⟩
      rw [Nat.add_comm]
      rcases below hj with rfl | hj
      · rw [Nat.testBit_two_pow_add_eq, top, hk]
        rfl
      · rw [Nat.testBit_two_pow_add_gt hj, bits j hj]

theorem Store.loadedMask_bit (st : Store) (n : Fin 8) : st.loadedMask.getLsbD n.val = st.tables[n].good := by
  have onRange : ((List.finRange 8).filter fun n => st.tables[n].good).foldl (fun m n => m + 2 ^ n.val) 0 =
      ((List.range 8).filter fun i => if h : i < 8 then (st.tables[i]'h).good else false).foldl (fun m i => m + 2 ^ i) 0 := by
    rw [← List.map_coe_finRange_eq_range, List.filter_map, List.foldl_map]
    simp [Function.comp_def]
  obtain ⟨small, bits⟩ := testBit_bitSum (fun i => if h : i < 8 then (st.tables[i]'h).good else false) 8
  rw [Store.loadedMask, onRange, BitVec.getLsbD_ofNat, bits n.val n.isLt]
  simp

/-- The states of BANK_LOAD before what step 5 needs. -/
def State.banksLoaded (s : State) : State :=
  (s.withChain { s.chain with banks := Vector.ofFn s.store.bank }).withStartUp { s.startUp with tablesLoaded := s.store.loadedMask }

theorem State.banksLoaded_frame (s : State) : s.banksLoaded.chain.banks = Vector.ofFn s.store.bank ∧
    s.banksLoaded.startUp.tablesLoaded = s.store.loadedMask ∧ s.banksLoaded.store = s.store ∧ s.banksLoaded.delay = s.delay ∧
    s.banksLoaded.latches = s.latches ∧ s.banksLoaded.tempo = s.tempo ∧ s.banksLoaded.tuner = s.tuner ∧
    s.banksLoaded.cues = s.cues := by
  simp only [State.banksLoaded, State.withStartUp_chain, State.withChain_chain, State.withStartUp_startUp, true_and]
  exact ⟨rfl, rfl, rfl, rfl, rfl, rfl⟩

theorem State.loadBanks_eq (s : State) : s.loadBanks =
    if s.startUp.powerOn then s.banksLoaded.setPhase .probe
    else if s.delay.present then s.banksLoaded.setPhase .clear
    else s.banksLoaded.finishWithoutMemory := rfl

theorem State.finishWithoutMemory_frame {s : State} (steady : s.scenes.scene = .steady) : s.finishWithoutMemory = { s with
    startUp := { s.startUp with phase := .running }
    chain := { s.chain with handover := true }
    scenes := s.finishWithoutMemory.scenes
    link := s.finishWithoutMemory.link } :=
  (State.finishStartUp_frame (s := s.post .delay 0 [flagByte s.delay.present]) steady).1

theorem State.finishStartUp_delay {s : State} (steady : s.scenes.scene = .steady) : s.finishStartUp.delay = s.delay := by
  rw [(State.finishStartUp_frame steady).1]

theorem State.finishWithoutMemory_delay {s : State} (steady : s.scenes.scene = .steady) :
    s.finishWithoutMemory.delay = s.delay := by
  rw [State.finishWithoutMemory_frame steady]

/-- What BANK_LOAD leaves alone, and the banks it fills. -/
theorem State.loadBanks_frame {s : State} (steady : s.scenes.scene = .steady) :
    s.loadBanks.chain.banks = Vector.ofFn s.store.bank ∧ s.loadBanks.startUp.tablesLoaded = s.store.loadedMask ∧
    s.loadBanks.store = s.store ∧ s.loadBanks.delay = s.delay ∧ s.loadBanks.latches = s.latches ∧ s.loadBanks.tempo = s.tempo ∧
    s.loadBanks.tuner = s.tuner ∧ s.loadBanks.cues = s.cues := by
  rw [State.loadBanks_eq]
  split
  · exact s.banksLoaded_frame
  · split
    · exact s.banksLoaded_frame
    · rw [State.finishWithoutMemory_frame (s := s.banksLoaded) steady]
      exact s.banksLoaded_frame

theorem Store.bank_bad {st : Store} {n : Fin 8} (h : st.tables[n].good = false) : st.bank n = identityTable :=
  if_neg (by rw [h]; decide)

theorem exec_bankLoad {s : State} (h : s.startUp.phase = .banks) : exec .bankLoad s = .next s.loadBanks := by
  change execBankLoad s = _
  rw [execBankLoad, State.inPhase_of_eq h]

/-- Settles O8. -/
theorem bankLoadFillsEveryBank : Obligations.BankLoadFillsEveryBank := by
  unfold Obligations.BankLoadFillsEveryBank
  refine ⟨TableSlot.good_iff, fun s phase steady => ⟨s.loadBanks, exec_bankLoad phase, ?_⟩⟩
  obtain ⟨banks, mask, store, delay, latches, tempo, tuner, cues⟩ := State.loadBanks_frame steady
  have bank : ∀ n : Fin 8, s.loadBanks.chain.banks[n] = s.store.bank n := fun n => by simp [banks]
  refine ⟨fun n good => (bank n).trans (if_pos good), fun n bad => ?_, fun n => by rw [mask]; exact s.store.loadedMask_bit n,
    fun on => ?_, fun off present => ?_, fun off absent => ?_, fun off absent first => ?_, store, delay, latches, tempo, tuner, cues⟩
  · rw [bank, Store.bank_bad bad]
    exact ⟨fun i hi => by simp [identityTable, hi.ne], by simp [identityTable, sampleMax]⟩
  · rw [State.loadBanks_eq, if_pos on]
    exact ⟨rfl, rfl⟩
  · rw [State.loadBanks_eq, if_neg (by rw [off]; decide), if_pos present]
    exact ⟨rfl, rfl⟩
  · rw [State.loadBanks_eq, if_neg (by rw [off]; decide), if_neg (by rw [absent]; decide),
      State.finishWithoutMemory_frame (s := s.banksLoaded) steady]
    exact ⟨rfl, rfl⟩
  · rw [banks, mask, State.loadBanks_eq, if_neg (by rw [off]; decide), if_neg (by rw [absent]; decide)]
    have posted : s.banksLoaded.post .delay 0 [flagByte s.banksLoaded.delay.present] = s.banksLoaded.post .delay 0 [0] := by
      rw [show s.banksLoaded.delay.present = false from absent]
      rfl
    rw [State.finishWithoutMemory, posted]
    exact State.finishStartUp_finished (s := s.banksLoaded.post .delay 0 [0]) steady first

/-! ## The probe and the clearing of the delay memory (R58, R59) -/

/-- The probed positions are eight. -/
theorem probed_injective {i j : Nat} (hi : i < 8) (hj : j < 8) (h : (probedLine i, probedPosition i) = (probedLine j, probedPosition j)) :
    i = j := by
  have cases : ∀ i j : Fin 8, (probedLine i, probedPosition i) = (probedLine j, probedPosition j) → i = j := by decide
  exact congrArg Fin.val (cases ⟨i, hi⟩ ⟨j, hj⟩ h)

theorem probedPosition_lt (j : Nat) : probedPosition j < 131072 := by
  unfold probedPosition
  split <;> decide

theorem sampleOk_pattern (j : Nat) : sampleOk (Config.probePattern j).toInt := by
  have low := BitVec.le_toInt (Config.probePattern j)
  have high := BitVec.toInt_lt (x := Config.probePattern j)
  norm_num at low high
  exact ⟨low, Int.le_of_lt_add_one high⟩

/-- The pattern at one probed position, if it read back. -/
def Memory.probeAt (readBack : BitVec 8) (m : List Host.Cell) (j : Nat) : List Host.Cell :=
  if readBack.getLsbD j then Memory.writeSample m (probedLine j) (probedPosition j) (Config.probePattern j).toInt else m

theorem Memory.probeAt_wf {m : List Host.Cell} (wf : Memory.wf m = true) (readBack : BitVec 8) (j : Nat) :
    Memory.wf (Memory.probeAt readBack m j) = true := by
  unfold Memory.probeAt
  split
  · exact Memory.writeSample_wf _ _ _ wf
  · exact wf

theorem Memory.probeAt_out (m : List Host.Cell) (readBack : BitVec 8) {j : Nat} {l : Fin 4} {p : Nat} (hp : p < 131072)
    (h : (probedLine j, probedPosition j) ≠ (l, p)) : Memory.sample (Memory.probeAt readBack m j) l p = Memory.sample m l p := by
  unfold Memory.probeAt
  split
  · exact Memory.sample_writeSample_out m (sampleAddress_apart (probedPosition_lt j) hp h) _
  · rfl

theorem Memory.probeAt_self {m : List Host.Cell} (wf : Memory.wf m = true) (readBack : BitVec 8) (j : Nat) :
    Memory.sample (Memory.probeAt readBack m j) (probedLine j) (probedPosition j) =
      if readBack.getLsbD j then (Config.probePattern j).toInt else Memory.sample m (probedLine j) (probedPosition j) := by
  unfold Memory.probeAt
  split
  · exact Memory.sample_writeSample wf _ _ (sampleOk_pattern j)
  · rfl

/-- A position that none of the steps probes keeps its sample. -/
theorem Memory.probes_out (readBack : BitVec 8) (js : List Nat) (m : List Host.Cell) {l : Fin 4} {p : Nat} (hp : p < 131072)
    (h : ∀ j ∈ js, (probedLine j, probedPosition j) ≠ (l, p)) :
    Memory.sample (js.foldl (Memory.probeAt readBack) m) l p = Memory.sample m l p := by
  induction js generalizing m with
  | nil => rfl
  | cons j js ih =>
    rw [List.forall_mem_cons] at h
    rw [List.foldl_cons, ih _ h.2, Memory.probeAt_out m readBack hp h.1]

theorem Memory.probes_in (readBack : BitVec 8) {js : List Nat} (once : js.Nodup) (eight : ∀ j ∈ js, j < 8) {m : List Host.Cell}
    (wf : Memory.wf m = true) {j : Nat} (hj : j ∈ js) :
    Memory.sample (js.foldl (Memory.probeAt readBack) m) (probedLine j) (probedPosition j) =
      if readBack.getLsbD j then (Config.probePattern j).toInt else Memory.sample m (probedLine j) (probedPosition j) := by
  induction js generalizing m with
  | nil => exact nomatch hj
  | cons i js ih =>
    rw [List.nodup_cons] at once
    rw [List.forall_mem_cons] at eight
    have apart : ∀ {k}, k ∈ js → (probedLine k, probedPosition k) ≠ (probedLine i, probedPosition i) := fun hk e =>
      once.1 (probed_injective (eight.2 _ hk) eight.1 e ▸ hk)
    rw [List.foldl_cons]
    rcases List.mem_cons.1 hj with rfl | hj
    · rw [Memory.probes_out readBack js _ (probedPosition_lt j) fun k hk => apart hk, Memory.probeAt_self wf]
    · rw [ih once.2 eight.2 (Memory.probeAt_wf wf readBack i) hj,
        Memory.probeAt_out m readBack (probedPosition_lt j) (apart hj).symm]

theorem Memory.probe_in {m : List Host.Cell} (wf : Memory.wf m = true) (readBack : BitVec 8) {j : Nat} (hj : j < 8) :
    Memory.sample (Memory.probe m readBack) (probedLine j) (probedPosition j) =
      if readBack.getLsbD j then (Config.probePattern j).toInt else Memory.sample m (probedLine j) (probedPosition j) :=
  Memory.probes_in readBack List.nodup_range (fun _ => List.mem_range.1) wf (List.mem_range.2 hj)

/-- The eight positions are the ends of the four lines. -/
theorem probed_ends {l : Fin 4} {j p : Nat} (h : j = 2 * l.val ∧ p = 0 ∨ j = 2 * l.val + 1 ∧ p = 131071) :
    j < 8 ∧ probedLine j = l ∧ probedPosition j = p := by
  rcases h with ⟨rfl, rfl⟩ | ⟨rfl, rfl⟩
  · revert l
    decide
  · revert l
    decide

theorem Memory.probe_out (m : List Host.Cell) (readBack : BitVec 8) (l : Fin 4) {p : Nat} (low : 0 < p) (high : p < 131071) :
    Memory.sample (Memory.probe m readBack) l p = Memory.sample m l p := by
  refine Memory.probes_out readBack _ m (by omega) fun j _ e => ?_
  have := congrArg Prod.snd e
  simp only [probedPosition, Config.lineLength] at this
  split at this <;> omega

theorem State.probed_delay {s : State} (steady : s.scenes.scene = .steady) (readBack : BitVec 8) : (s.probed readBack).delay =
    { s.delay with present := readBack == BitVec.allOnes 8, mem := Memory.probe s.delay.mem readBack } := by
  unfold State.probed
  dsimp only
  split
  · rfl
  · exact State.finishWithoutMemory_delay (s := s.withDelay _) steady

theorem State.probed_absent {s : State} (steady : s.scenes.scene = .steady) (first : s.scenes.lastRecall = 0) {readBack : BitVec 8}
    (h : readBack ≠ 0xFF) :
    (s.probed readBack).delay = { s.delay with present := false, mem := (s.probed readBack).delay.mem } ∧
      startUpFinished (({ s with delay := (s.probed readBack).delay }).post .delay 0 [0]) (s.probed readBack) := by
  have absent : (readBack == BitVec.allOnes 8) = false := beq_eq_false_iff_ne.2 h
  have delay := State.probed_delay steady readBack
  rw [absent] at delay
  refine ⟨by rw [delay], ?_⟩
  have probed : s.probed readBack = (({ s with delay := (s.probed readBack).delay }).post .delay 0 [0]).finishStartUp := by
    rw [delay]
    unfold State.probed
    rw [absent]
    rfl
  generalize (s.probed readBack).delay = d at probed
  rw [probed]
  exact State.finishStartUp_finished (s := ({ s with delay := d } : State).post .delay 0 [0]) steady first

/-- Settles O9. -/
theorem memoryProbeAndClearFinishStartUp : Obligations.MemoryProbeAndClearFinishStartUp := by
  unfold Obligations.MemoryProbeAndClearFinishStartUp
  refine fun s steady first => ⟨fun phase => ⟨Memory.probe s.delay.mem 0xFF, congrArg _ (State.inPhase_of_eq phase _)⟩,
    fun phase readBack h => ⟨s.probed readBack, congrArg _ (State.inPhase_of_eq phase _), State.probed_absent steady first h⟩,
    fun phase wf readBack => ⟨s.probed readBack, congrArg _ (State.inPhase_of_eq phase _), fun l j p h => ?_, fun l p low high => ?_⟩,
    fun phase => ⟨s.memoryCleared, congrArg _ (State.inPhase_of_eq phase _), ?_⟩⟩
  · obtain ⟨hj, rfl, rfl⟩ := probed_ends h
    rw [State.probed_delay steady]
    exact Memory.probe_in wf readBack hj
  · rw [State.probed_delay steady]
    exact Memory.probe_out _ _ _ low high
  · have finished := State.finishStartUp_finished (s := s.withDelay { s.delay with mem := [] }) steady first
    have delay : s.memoryCleared.delay = { s.delay with mem := [] } :=
      State.finishStartUp_delay (s := s.withDelay { s.delay with mem := [] }) steady
    exact ⟨delay, fun a => by rw [delay]; rfl, finished⟩

end Sys2Proof.Machine
end

section
/-! CORRECTNESS. The arbiter of the memory port: requests, bursts and the order in which they are served (R51..R54). -/

namespace Sys2Proof.Machine

/-! ## Requests and bursts (R51..R53) -/

theorem ringLine_read (l : Fin 4) : ringLine ⟨2 * l.val, by omega⟩ = l := by
  revert l
  decide

theorem ringLine_write (l : Fin 4) : ringLine ⟨2 * l.val + 1, by omega⟩ = l := by
  revert l
  decide

theorem ringIsWrite_read (l : Fin 4) : ringIsWrite ⟨2 * l.val, by omega⟩ = false := by
  revert l
  decide

theorem ringIsWrite_write (l : Fin 4) : ringIsWrite ⟨2 * l.val + 1, by omega⟩ = true := by
  revert l
  decide

section
variable (d : DelayMemory) (readers : Vector Reader 4) (l : Fin 4)

theorem DelayMemory.ringRequest_read : d.ringRequest readers ⟨2 * l.val, by omega⟩ = d.lines[l].readRequest readers[l] := by
  simp only [DelayMemory.ringRequest, ringIsWrite_read, ringLine_read]
  rfl

theorem DelayMemory.ringRequest_write :
    d.ringRequest readers ⟨2 * l.val + 1, by omega⟩ = d.lines[l].writeRequest readers[l] := by
  simp only [DelayMemory.ringRequest, ringIsWrite_write, ringLine_write, if_true]

theorem DelayMemory.issue_read : d.issue readers ⟨2 * l.val, by omega⟩ = .read l (d.lines[l].fetchable readers[l]) := by
  simp only [DelayMemory.issue, ringIsWrite_read, ringLine_read]
  rfl

theorem DelayMemory.issue_write : d.issue readers ⟨2 * l.val + 1, by omega⟩ = .write l (d.lines[l].writeFifo.take 16) false := by
  simp only [DelayMemory.issue, ringIsWrite_write, ringLine_write, if_true]
  rfl
end

/-! ## The positions of a read burst (R51) -/

theorem Line.inWindow_iff (ln : Line) (p : Nat) : ln.inWindow p = true ↔
    1 ≤ (ln.wp + 131072 - p) % 131072 ∧ (ln.wp + 131072 - p) % 131072 ≤ ln.window.length := by
  simp only [Line.inWindow, Bool.and_eq_true, decide_eq_true_eq]
  exact Iff.rfl

/-- The first position a read burst would fetch, before it is taken modulo the line's length. -/
def Line.fetchStart (ln : Line) (reader : Reader) (age : Int) : Nat :=
  match ln.readFifo.getLast? with
  | some e => e.1 + 1
  | none => ln.nextPosition reader age

theorem Line.fetchStart_cast (ln : Line) (reader : Reader) (age : Int) :
    (ln.fetchStart reader age : Int) % 131072 = (match ln.readFifo.getLast? with
      | some e => (e.1 : Int) + 1
      | none => (ln.wp : Int) + (if reader.ahead then 1 else 0) - age) % 131072 := by
  unfold Line.fetchStart
  split
  next e h => simp
  next h =>
    rw [Line.nextPosition, positionAt_cast, Int.emod_emod_of_dvd _ (dvd_refl _)]
    split <;> simp

theorem Line.fetchable_none {ln : Line} {reader : Reader} (h : ∀ age, reader.age = some age → age ≤ 64) : ln.fetchable reader = [] := by
  unfold Line.fetchable
  split
  next => rfl
  next age ha => exact if_pos (h age ha)

theorem Line.fetchable_eq (ln : Line) {reader : Reader} {age : Int} (ha : reader.age = some age) (old : 64 < age) :
    ln.fetchable reader =
      ((List.range 16).map fun i => (ln.fetchStart reader age + i) % 131072).takeWhile fun p => !ln.inWindow p := by
  simp only [Line.fetchable, ha]
  exact if_neg (not_le.2 old)

/-- What `takeWhile` keeps of a list, and why it stops. -/
theorem List.takeWhile_spec {α : Type} (p : α → Bool) (l : List α) :
    (∀ (i : Nat) (a : α), (l.takeWhile p)[i]? = some a → l[i]? = some a ∧ p a = true) ∧
      ∀ a, l[(l.takeWhile p).length]? = some a → p a = false := by
  induction l with
  | nil => simp
  | cons x l ih =>
    rw [List.takeWhile_cons]
    split
    next hx =>
      refine ⟨fun i a h => ?_, fun a h => ih.2 a (by simpa using h)⟩
      cases i with
      | zero =>
        obtain rfl : x = a := by simpa using h
        exact ⟨rfl, hx⟩
      | succ i => simpa using ih.1 i a (by simpa using h)
    next hx =>
      refine ⟨fun i a h => by simp at h, fun a h => ?_⟩
      obtain rfl : x = a := by simpa using h
      exact Bool.eq_false_iff.2 hx

theorem Line.fetchable_positions (ln : Line) {reader : Reader} {age : Int} (ha : reader.age = some age) (old : 64 < age) :
    (ln.fetchable reader).length ≤ 16 ∧
    (∀ i p : Nat, (ln.fetchable reader)[i]? = some p →
      p = (ln.fetchStart reader age + i) % 131072 ∧ ¬ln.inWindow p = true) ∧
    ((ln.fetchable reader).length < 16 →
      ln.inWindow ((ln.fetchStart reader age + (ln.fetchable reader).length) % 131072) = true) := by
  obtain ⟨kept, stop⟩ := List.takeWhile_spec (fun p => !ln.inWindow p)
    ((List.range 16).map fun i => (ln.fetchStart reader age + i) % 131072)
  rw [← ln.fetchable_eq ha old] at kept stop
  refine ⟨ln.fetchable_length reader, fun i p h => ?_, fun short => ?_⟩
  · obtain ⟨at_, out⟩ := kept i p h
    rw [List.getElem?_map, Option.map_eq_some_iff] at at_
    obtain ⟨j, hj, rfl⟩ := at_
    obtain ⟨_, rfl⟩ := List.getElem?_eq_some_iff.1 hj
    exact ⟨by rw [List.getElem_range], by simpa using out⟩
  · have := stop ((ln.fetchStart reader age + (ln.fetchable reader).length) % 131072) (by
      rw [List.getElem?_map, List.getElem?_range short]
      rfl)
    simpa using this

/-! ## The ring (R54) -/

/-- Every FIFO stands in the ring after the last served. -/
theorem DelayMemory.ring_covers (d : DelayMemory) (i : Fin 8) : ∃ j < 8, Fin.ofNat 8 (d.lastServed.val + 1 + j) = i := by
  refine ⟨(i.val + 15 - d.lastServed.val - 8) % 8, Nat.mod_lt _ (by decide), Fin.ext ?_⟩
  simp only [Fin.ofNat]
  omega

/-- The first of a class in the ring, if the class is not empty. -/
theorem DelayMemory.ring_find (d : DelayMemory) (p : Fin 8 → Bool) :
    (d.ring.find? p = none ∧ ∀ i, p i = false) ∨
    ∃ j < 8, d.ring.find? p = some (Fin.ofNat 8 (d.lastServed.val + 1 + j)) ∧ p (Fin.ofNat 8 (d.lastServed.val + 1 + j)) = true ∧
      ∀ j' < j, p (Fin.ofNat 8 (d.lastServed.val + 1 + j')) = false := by
  rw [DelayMemory.ring, List.find?_map]
  cases h : (List.range 8).find? (p ∘ fun j => Fin.ofNat 8 (d.lastServed.val + 1 + j)) with
  | none =>
    refine .inl ⟨rfl, fun i => ?_⟩
    obtain ⟨j, hj, rfl⟩ := d.ring_covers i
    simpa using List.find?_eq_none.1 h j (List.mem_range.2 hj)
  | some j =>
    obtain ⟨hp, hj, first⟩ := List.find?_range_eq_some.1 h
    exact .inr ⟨j, List.mem_range.1 hj, rfl, hp, fun j' hj' => by simpa using first j' hj'⟩

theorem DelayMemory.arbitrate_grants {d : DelayMemory} {readers : Vector Reader 4} {i : Fin 8} (idle : d.burst = none)
    (next : d.nextServed readers = some i) :
    (d.arbitrate readers).burst = some (d.issue readers i) ∧ (d.arbitrate readers).lastServed = i := by
  simp only [DelayMemory.arbitrate, idle, next, and_self]

theorem DelayMemory.arbitrate_idle {d : DelayMemory} {readers : Vector Reader 4}
    (h : d.burst ≠ none ∨ ∀ i, d.ringRequest readers i = none) : d.arbitrate readers = d := by
  rcases d.arbitrate_cases readers with e | ⟨i, idle, next, -⟩
  · exact e
  · have stands := DelayMemory.ringRequest_of_nextServed next
    rcases h with busy | none
    · exact absurd idle busy
    · rw [none i] at stands
      cases stands

theorem DelayMemory.arbitrate_ring (d : DelayMemory) (readers : Vector Reader 4) (idle : d.burst = none)
    (stands : ∃ i, d.ringRequest readers i ≠ none) :
    ∃ j : Nat, j < 8 ∧
      let i := Fin.ofNat 8 (d.lastServed.val + 1 + j)
      (d.arbitrate readers).burst = some (d.issue readers i) ∧ (d.arbitrate readers).lastServed = i ∧
      d.ringRequest readers i ≠ none ∧
      ((∃ i', d.ringRequest readers i' = some true) → d.ringRequest readers i = some true) ∧
      (∀ j' < j, d.ringRequest readers (Fin.ofNat 8 (d.lastServed.val + 1 + j')) ≠ some true ∧
        (d.ringRequest readers i ≠ some true → d.ringRequest readers (Fin.ofNat 8 (d.lastServed.val + 1 + j')) = none)) := by
  rcases d.ring_find (fun i => d.ringRequest readers i == some true) with ⟨noUrgent, calm⟩ | ⟨j, hj, found, urgent, first⟩
  · rcases d.ring_find (fun i => (d.ringRequest readers i).isSome) with ⟨-, quiet⟩ | ⟨j, hj, found, asks, first⟩
    · obtain ⟨i, hi⟩ := stands
      exact absurd (by simpa using quiet i) hi
    · have next : d.nextServed readers = some (Fin.ofNat 8 (d.lastServed.val + 1 + j)) := by
        rw [DelayMemory.nextServed, noUrgent, found]
        rfl
      obtain ⟨burst, last⟩ := DelayMemory.arbitrate_grants idle next
      refine ⟨j, hj, burst, last, Option.isSome_iff_ne_none.1 asks, fun ⟨i', hi'⟩ => ?_, fun j' hj' => ⟨?_, fun _ => ?_⟩⟩
      · exact absurd hi' (by simpa using calm i')
      · simpa using calm (Fin.ofNat 8 (d.lastServed.val + 1 + j'))
      · simpa using first j' hj'
  · have urgent : d.ringRequest readers (Fin.ofNat 8 (d.lastServed.val + 1 + j)) = some true := by simpa using urgent
    have next : d.nextServed readers = some (Fin.ofNat 8 (d.lastServed.val + 1 + j)) := by
      rw [DelayMemory.nextServed, found]
      rfl
    obtain ⟨burst, last⟩ := DelayMemory.arbitrate_grants idle next
    refine ⟨j, hj, burst, last, by rw [urgent]; nofun, fun _ => urgent, fun j' hj' => ⟨by simpa using first j' hj', ?_⟩⟩
    exact fun h => absurd urgent h

/-- The position `i` after one that is known modulo the line's length. -/
theorem toNat_emod_congr {a : Nat} {b : Int} {i : Nat} (h : (a : Int) % 131072 = b % 131072) :
    ((b + i) % 131072).toNat = (a + i) % 131072 := by omega

/-- Settles O19. -/
theorem arbiterServesUrgentFirstInRingOrder : Obligations.ArbiterServesUrgentFirstInRingOrder := by
  unfold Obligations.ArbiterServesUrgentFirstInRingOrder
  refine ⟨fun d readers => DelayMemory.arbitrate_idle, fun d readers l => ?_, fun ln reader => ⟨Line.fetchable_none, ?_⟩,
    DelayMemory.arbitrate_ring⟩
  · exact ⟨d.ringRequest_read readers l, d.ringRequest_write readers l, d.issue_read readers l, d.issue_write readers l⟩
  · intro age ha old
    obtain ⟨most, each, stop⟩ := ln.fetchable_positions ha old
    have start := ln.fetchStart_cast reader age
    refine ⟨most, fun i p h => ?_, fun short => ?_⟩
    · obtain ⟨rfl, out⟩ := each i p h
      exact ⟨(Int.natCast_emod _ _).trans (Int.ModEq.add_right i start), by rwa [ln.inWindow_iff] at out⟩
    · have inside := (ln.inWindow_iff _).1 (stop short)
      exact (toNat_emod_congr (i := (ln.fetchable reader).length) start).symm ▸ inside

end Sys2Proof.Machine
end

section
/-! CORRECTNESS. Trails, sample by sample and at their ends (R47..R49). -/

namespace Sys2Proof.Machine

theorem Vector.getElem_set_fin {α : Type} {n : Nat} (v : Vector α n) (i j : Fin n) (x : α) :
    (v.set i x)[j] = if i = j then x else v[j] := by
  simp only [Fin.getElem_fin, Vector.getElem_set, Fin.ext_iff]

/-! ## The ends of trails (R48, R49, R39) -/

/-- Marking the entries of one line among others. -/
theorem List.map_at_line {older younger : List Trail} {t : Trail} (others : ∀ u ∈ older ++ younger, u.line ≠ t.line) (p : Trail → Bool)
    (ht : p t = true) (f : Trail → Trail) :
    (older ++ t :: younger).map (fun u => if u.line == t.line && p u then f u else u) = older ++ f t :: younger := by
  have same : ∀ us : List Trail, (∀ u ∈ us, u.line ≠ t.line) →
      us.map (fun u => if u.line == t.line && p u then f u else u) = us := by
    intro us h
    rw [List.map_congr_left (g := id) fun u hu => by simp [h u hu], List.map_id]
  simp only [List.mem_append, or_imp, forall_and] at others
  rw [List.map_append, List.map_cons, same older others.1, same younger others.2]
  simp [ht]

theorem List.filter_at_line {older younger : List Trail} {t : Trail} (others : ∀ u ∈ older ++ younger, u.line ≠ t.line)
    (p : Trail → Bool) (ht : p t = true) :
    (older ++ t :: younger).filter (fun u => !(u.line == t.line && p u)) = older ++ younger := by
  have same : ∀ us : List Trail, (∀ u ∈ us, u.line ≠ t.line) → us.filter (fun u => !(u.line == t.line && p u)) = us := by
    intro us h
    exact List.filter_eq_self.2 fun u hu => by simp [h u hu]
  simp only [List.mem_append, or_imp, forall_and] at others
  rw [List.filter_append, List.filter_cons, same older others.1, same younger others.2]
  simp [ht]

theorem State.takeTrailOwnEnd_eq {s : State} {older younger : List Trail} {t : Trail}
    (list : s.scenes.trails = older ++ t :: younger) (others : ∀ u ∈ older ++ younger, u.line ≠ t.line) (due : t.ownEnd = true) :
    s.takeTrailOwnEnd t.line =
      (s.withScenes { s.scenes with trails := older ++ { t with state := .cutting 0 } :: younger }).withDelay
        (s.delay.hold t.line .cutting) := by
  unfold State.takeTrailOwnEnd
  rw [if_pos (List.any_eq_true.2 ⟨t, by simp [list], by simp [due]⟩), list,
    List.map_at_line others Trail.ownEnd due fun u => { u with state := .cutting 0 }]

theorem State.takeTrailFadeEnd_eq {s : State} {older younger : List Trail} {t : Trail}
    (list : s.scenes.trails = older ++ t :: younger) (others : ∀ u ∈ older ++ younger, u.line ≠ t.line) (faded : t.faded = true) :
    s.takeTrailFadeEnd t.line =
      (s.withScenes { s.scenes with trails := older ++ younger }).withDelay (s.delay.release t.line) := by
  unfold State.takeTrailFadeEnd
  rw [if_pos (List.any_eq_true.2 ⟨t, by simp [list], by simp [faded]⟩), list, List.filter_at_line others Trail.faded faded]

theorem DelayMemory.lines_hold (d : DelayMemory) (l l' : Fin 4) (h : Holder) :
    (d.hold l h).lines[l'] = if l = l' then { d.lines[l] with holder := h } else d.lines[l'] := d.lines_setLine l l' _

theorem DelayMemory.lines_release (d : DelayMemory) (l l' : Fin 4) : (d.release l).lines[l'] =
    if l = l' then { d.lines[l] with holder := .free, readFifo := [], writeFifo := [], window := [] } else d.lines[l'] :=
  d.lines_setLine l l' _

@[simp] theorem State.arbitrate_lines (s : State) : s.arbitrate.delay.lines = s.delay.lines := by simp [State.arbitrate]

theorem State.arbitrate_mem (s : State) : s.arbitrate.delay.mem = s.delay.mem := by simp [State.arbitrate]

/-! ## One sample of a trail (R47, R49) -/

/-- A line as a read at an age leaves it, in the terms of the statements. -/
theorem Line.afterRead_eq (ln : Line) (age prev : Int) : ln.afterRead age prev = { ln with
    underruns := if (ln.deliver age prev).2 then min 65535 (ln.underruns + 1) else ln.underruns
    readFifo := ln.readFifo.filter fun e => e.1 ≠ positionAt ln.wp age } := by
  have same : (fun e : Nat × Int => e.1 != positionAt ln.wp age) = fun e => decide (e.1 ≠ positionAt ln.wp age) := by
    funext e
    rw [bne, beq_eq_decide, decide_not]
  rw [Line.afterRead, same]
  rfl

theorem Trail.renderRunning_line (t : Trail) (p : Port) (l : Fin 4) : (t.renderRunning p).port.delay.lines[l] =
    if t.line = l then (p.delay.lines[t.line].afterRead t.offset t.r).input
      (sat (round12 ((t.renderRunning p).trail.w * t.feedback)))
    else p.delay.lines[l] := by
  unfold Trail.renderRunning
  dsimp only
  rw [Port.write_lines, Port.read_lines, Vector.getElem_set_fin, Vector.getElem_set_fin, Vector.getElem_set_fin]
  split
  · rw [if_pos rfl]
  · rfl

theorem Trail.renderCutting_line (t : Trail) (j : Nat) (p : Port) (l : Fin 4) : (t.renderCutting j p).port.delay.lines[l] =
    if t.line = l then p.delay.lines[t.line].afterRead ((t.offset : Int) - j) t.r else p.delay.lines[l] := by
  unfold Trail.renderCutting
  dsimp only
  rw [Port.read_lines, Vector.getElem_set_fin]

theorem Trail.render_running {t : Trail} (h : t.state = .running ∨ t.state = .cutWait) (p : Port) :
    t.render p = t.renderRunning p := by
  unfold Trail.render
  rcases h with h | h <;> simp only [h]

theorem Trail.render_faded {t : Trail} {j : Nat} (h : t.state = .cutting j) (past : 256 ≤ j) (p : Port) :
    t.render p = { trail := t, port := p, pair := (0, 0) } := by
  unfold Trail.render
  simp only [h]
  exact if_neg (not_lt.2 past)

theorem Trail.render_fading {t : Trail} {j : Nat} (h : t.state = .cutting j) (running : j < 256) (p : Port) :
    t.render p = t.renderCutting j p := by
  unfold Trail.render
  simp only [h]
  exact if_pos running

/-- A trail that runs, sample by sample. -/
theorem Trail.render_running_spec {t : Trail} (h : t.state = .running ∨ t.state = .cutWait) (p : Port) :
    let ln := p.delay.lines[t.line]
    let got := ln.deliver t.offset t.r
    let w := sat (t.w + ((got.1 - t.w) * t.tone + 4194304) / 8388608)
    let v := round12 (w * t.wet)
    (t.render p).trail = { t with w := w, r := got.1, peak := max t.peak v.natAbs } ∧
    (t.render p).pair = (round12 (v * t.gainL), round12 (v * t.gainR)) ∧
    (t.render p).port.delay.lines[t.line] = Line.input { ln with
      underruns := if got.2 then min 65535 (ln.underruns + 1) else ln.underruns
      readFifo := ln.readFifo.filter fun e => e.1 ≠ positionAt ln.wp t.offset } (sat (round12 (w * t.feedback))) ∧
    (∀ l : Fin 4, l ≠ t.line → (t.render p).port.delay.lines[l] = p.delay.lines[l]) ∧
    (t.render p).port.delay.mem = p.delay.mem := by
  have mem := (t.render_same p).1
  rw [Trail.render_running h] at mem ⊢
  refine ⟨rfl, rfl, ?_, fun l hl => ?_, mem⟩
  · rw [Trail.renderRunning_line, if_pos rfl, Line.afterRead_eq]
    rfl
  · rw [Trail.renderRunning_line, if_neg (Ne.symm hl)]

/-- Sample j of a fade. -/
theorem Trail.render_cutting_spec {t : Trail} {j : Nat} (h : t.state = .cutting j) (p : Port) :
    (256 ≤ j → (t.render p).trail = t ∧ (t.render p).port = p ∧ (t.render p).pair = (0, 0)) ∧
    (j < 256 →
      let ln := p.delay.lines[t.line]
      let got := ln.deliver ((t.offset : Int) - j) t.r
      let v := (round12 (got.1 * t.wet) * (256 - (j : Int)) + 128) / 256
      (t.render p).trail = { t with r := got.1, state := .cutting (j + 1) } ∧
      (t.render p).pair = (round12 (v * t.gainL), round12 (v * t.gainR)) ∧
      (t.render p).port.delay.lines[t.line] = { ln with
        underruns := if got.2 then min 65535 (ln.underruns + 1) else ln.underruns
        readFifo := ln.readFifo.filter fun e => e.1 ≠ positionAt ln.wp ((t.offset : Int) - j) } ∧
      (∀ l : Fin 4, l ≠ t.line → (t.render p).port.delay.lines[l] = p.delay.lines[l]) ∧
      (t.render p).port.delay.mem = p.delay.mem) := by
  have mem := (t.render_same p).1
  constructor
  · intro past
    rw [Trail.render_faded h past]
    exact ⟨rfl, rfl, rfl⟩
  · intro running
    rw [Trail.render_fading h running] at mem ⊢
    have left : ((256 - j : Nat) : Int) = 256 - (j : Int) := by omega
    refine ⟨rfl, ?_, ?_, fun l hl => ?_, mem⟩
    · rw [← left]
      rfl
    · rw [Trail.renderCutting_line, if_pos rfl, Line.afterRead_eq]
    · rw [Trail.renderCutting_line, if_neg (Ne.symm hl)]

/-- Settles O21. -/
theorem trailsEndByThemselvesAndAfterTheirFade : Obligations.TrailsEndByThemselvesAndAfterTheirFade := by
  unfold Obligations.TrailsEndByThemselvesAndAfterTheirFade
  refine ⟨fun s older t younger h list others running ends => ?_, fun s older t younger j h list others cut past => ?_,
    fun t p h => Trail.render_running_spec h p, fun t j p h => Trail.render_cutting_spec h p, fun t => rfl⟩
  · have due : t.ownEnd = true := by simpa [Trail.ownEnd, running] using ends
    have taken := State.takeTrailOwnEnd_eq list others due
    refine ⟨_, exec_trailOwnEnd h t.line, ?_, ?_, fun l hl => ?_, ?_, ?_⟩
    · rw [taken]
      rfl
    · rw [taken, State.arbitrate_lines, State.withDelay_delay, DelayMemory.lines_hold, if_pos rfl]
    · rw [taken, State.arbitrate_lines, State.withDelay_delay, DelayMemory.lines_hold, if_neg (Ne.symm hl)]
    · rw [taken, State.arbitrate_mem]
      rfl
    · rw [taken]
      rfl
  · have faded : t.faded = true := by
      rw [Trail.faded, cut]
      exact decide_eq_true past
    have taken := State.takeTrailFadeEnd_eq list others faded
    refine ⟨_, exec_trailFadeEnd h t.line, ?_, ?_, fun l hl => ?_, ?_, ?_⟩
    · rw [taken]
      rfl
    · rw [taken, State.arbitrate_lines, State.withDelay_delay, DelayMemory.lines_release, if_pos rfl]
    · rw [taken, State.arbitrate_lines, State.withDelay_delay, DelayMemory.lines_release, if_neg (Ne.symm hl)]
    · rw [taken, State.arbitrate_mem]
      rfl
    · rw [taken]
      rfl

end Sys2Proof.Machine
end

section
/-! CORRECTNESS. The stages sample by sample: saturation, ramps and blends, and the kinds GAIN, BIQUAD and DELAY (spec/01 1.3..1.5, spec/02 2.4,
spec/03 3.2). -/

namespace Sys2Proof.Machine

/-! ## Saturation and rounding (R1) -/

theorem sat_of_sampleOk {x : Int} (h : sampleOk x) : sat x = x := by
  obtain ⟨low, high⟩ := h
  simp only [sat, sampleMin, sampleMax] at low high ⊢
  omega

theorem clips_iff (x : Int) : clips x = true ↔ sat x ≠ x := bne_iff_ne

theorem clips_of_sampleOk {x : Int} (h : sampleOk x) : clips x = false :=
  Bool.eq_false_iff.2 fun c => (clips_iff x).1 c (sat_of_sampleOk h)

theorem round12_mul_unity (x : Int) : round12 (x * 4096) = x := by
  unfold round12
  omega

/-! ## Ramps and blends between two ends (R5, R9, R19, R34) -/

/-- A share k of n of a difference d, rounded by h below n, lies between 0 and d. -/
theorem share_between {d k n h : Int} (hn : 0 < n) (hk : 0 ≤ k) (hkn : k ≤ n) (hh : 0 ≤ h) (hhn : h < n) :
    min 0 d ≤ (d * k + h) / n ∧ (d * k + h) / n ≤ max 0 d := by
  have none : (0 * n + h) / n = 0 := by rw [zero_mul, zero_add, Int.ediv_eq_zero_of_lt hh hhn]
  have whole : (d * n + h) / n = d := by
    rw [add_comm, Int.add_mul_ediv_right _ _ hn.ne', Int.ediv_eq_zero_of_lt hh hhn, zero_add]
  rcases le_total 0 d with pos | neg
  · have low : (0 * n + h) / n ≤ (d * k + h) / n := Int.ediv_le_ediv hn (by nlinarith)
    have high : (d * k + h) / n ≤ (d * n + h) / n := Int.ediv_le_ediv hn (by nlinarith)
    omega
  · have low : (d * n + h) / n ≤ (d * k + h) / n := Int.ediv_le_ediv hn (by nlinarith)
    have high : (d * k + h) / n ≤ (0 * n + h) / n := Int.ediv_le_ediv hn (by nlinarith)
    omega

/-- A value on its way from `old` to `new` lies between the two. -/
theorem blend_between (old new : Int) {k n h : Int} (hn : 0 < n) (hk : 0 ≤ k) (hkn : k ≤ n) (hh : 0 ≤ h) (hhn : h < n) :
    min old new ≤ old + ((new - old) * k + h) / n ∧ old + ((new - old) * k + h) / n ≤ max old new := by
  obtain ⟨low, high⟩ := share_between (d := new - old) hn hk hkn hh hhn
  omega

theorem rampAt_last (old new : Int) : rampAt old new 47 = new := by
  unfold rampAt
  omega

theorem rampAt_between (old new : Int) {k : Nat} (h : k ≤ 47) : min old new ≤ rampAt old new k ∧ rampAt old new k ≤ max old new := by
  have := blend_between old new (k := (k : Int) + 1) (n := 48) (h := 0) (by decide) (by omega) (by omega) le_rfl (by decide)
  rw [add_zero] at this
  exact this

theorem blendAt_full (x y : Int) : blendAt x y 256 = y := by
  unfold blendAt
  omega

theorem blendAt_zero (x y : Int) : blendAt x y 0 = x := by
  unfold blendAt
  omega

theorem blendAt_between (x y : Int) {m : Nat} (h : m ≤ 256) : min x y ≤ blendAt x y m ∧ blendAt x y m ≤ max x y :=
  blend_between x y (by decide) (Int.natCast_nonneg m) (by omega) (by decide) (by decide)

/-! ## The engage ramp (R33, R36) -/

/-- The ramp position after a step. -/
def Stage.nextM (st : Stage) : Nat := if st.target then min 256 (st.m + 1) else st.m - 1

theorem Stage.fresh_m (st : Stage) : st.fresh.m = st.m := by
  unfold Stage.fresh
  split <;> rfl

theorem Stage.stepRamp_m (st : Stage) : st.stepRamp.m = st.nextM := by
  unfold Stage.stepRamp
  dsimp only
  split
  · rw [Stage.fresh_m]
    rfl
  · rfl

/-- A stage that leaves m = 0 starts afresh; its position is then 1. -/
theorem Stage.stepRamp_leaves {st : Stage} (h : st.m = 0 ∧ st.target = true) :
    st.stepRamp = Stage.fresh { st with m := st.stepRamp.m } ∧ st.stepRamp.m ≠ 0 := by
  refine ⟨?_, ?_⟩
  · rw [Stage.stepRamp_m]
    exact if_pos h
  · rw [Stage.stepRamp_m, Stage.nextM, h.1, h.2]
    decide

theorem Stage.stepRamp_stays {st : Stage} (h : ¬(st.m = 0 ∧ st.target = true)) : st.stepRamp = { st with m := st.stepRamp.m } := by
  rw [Stage.stepRamp_m]
  exact if_neg h

/-- A stage without a running state of its own keeps all but its position. -/
theorem Stage.stepRamp_plain {st : Stage} (h : st.run = .none) : st.stepRamp = { st with m := st.stepRamp.m } := by
  by_cases leaves : st.m = 0 ∧ st.target = true
  · conv_lhs => rw [(Stage.stepRamp_leaves leaves).1]
    simp only [Stage.fresh, h]
  · exact Stage.stepRamp_stays leaves

theorem Stage.stepRamp_range {st : Stage} (h : st.m ≤ 256) :
    st.stepRamp.m = (if st.target then (if st.m < 256 then st.m + 1 else 256) else (if 0 < st.m then st.m - 1 else 0)) ∧
      st.stepRamp.m ≤ 256 := by
  rw [Stage.stepRamp_m, Stage.nextM]
  split
  · split <;> omega
  · split <;> omega

/-! ## One sample of a stage (R4, R34, R36) -/

/-- A stage that is neither a DELAY nor an OUTPUT: through its engage ramp, and not computed at m = 0. -/
theorem Stage.render_ramped {st : Stage} (delay : st.kind ≠ .delay) (output : st.kind ≠ .output) (banks : Vector Table 8) (k : Nat)
    (p : Port) (x : Int) : st.render banks k p x =
      if st.stepRamp.m = 0 then { stage := st.stepRamp, port := p, out := x, pair := (0, 0), clip := false }
      else { stage := { st.stepRamp with run := (st.stepRamp.compute banks k x).2 }, port := p,
             out := blendAt x (st.stepRamp.compute banks k x).1.1 st.stepRamp.m, pair := (0, 0),
             clip := (st.stepRamp.compute banks k x).1.2 } := by
  have kind : st.stepRamp.kind = st.kind := by
    unfold Stage.stepRamp Stage.fresh
    dsimp only
    split
    · split <;> rfl
    · rfl
  unfold Stage.render
  dsimp only
  split
  next h _ => exact absurd (kind.symm.trans h) delay
  next h => exact absurd (kind.symm.trans h) output
  next => rfl

/-- The same for a stage whose computation leaves its running state alone. -/
theorem Stage.render_plain {st : Stage} (run : st.run = .none) (delay : st.kind ≠ .delay) (output : st.kind ≠ .output)
    {banks : Vector Table 8} {k : Nat} {x : Int} {y : Int × Bool}
    (computes : (Stage.compute { st with m := st.stepRamp.m } banks k x) = (y, st.run)) (p : Port) :
    let o := st.render banks k p x
    o.stage = { st with m := st.stepRamp.m } ∧ o.port = p ∧
    o.out = (if st.stepRamp.m = 0 then x else x + ((y.1 - x) * st.stepRamp.m + 128) / 256) ∧
    (o.clip = true ↔ st.stepRamp.m ≠ 0 ∧ y.2 = true) := by
  have step := Stage.stepRamp_plain run
  dsimp only
  rw [Stage.render_ramped delay output]
  generalize st.stepRamp.m = m at step computes ⊢
  rw [step, computes]
  split
  next zero => simp [zero]
  next moving => exact ⟨rfl, rfl, rfl, by simp [moving]⟩

/-! ## GAIN (R6) -/

theorem gainOut_unity {x : Int} (h : sampleOk x) : gainOut 4096 false x = (x, false) := by
  simp [gainOut, round12_mul_unity, sat_of_sampleOk h, clips_of_sampleOk h]

theorem gainOut_zero (x : Int) : gainOut 0 false x = (0, false) := by
  have zero : round12 0 = 0 := by decide
  simp [gainOut, zero, sat_of_sampleOk sampleOk_zero, clips_of_sampleOk sampleOk_zero]

theorem gainOut_inverted {x : Int} (h : sampleOk x) (notMin : x ≠ sampleMin) : gainOut 4096 true x = (-x, false) := by
  have ok : sampleOk (-x) := by
    obtain ⟨low, high⟩ := h
    simp only [sampleOk, sampleMin, sampleMax] at low high notMin ⊢
    omega
  simp only [gainOut, if_true, sat_of_sampleOk ok, round12_mul_unity, clips_of_sampleOk ok, Bool.and_false, Bool.or_false]

theorem gainOut_spec (g : Int) (inv : Bool) (x : Int) :
    let x' := if inv then max (-8388608) (min 8388607 (-x)) else x
    let v := (x' * g + 2048) / 4096
    (gainOut g inv x).1 = max (-8388608) (min 8388607 v) ∧
    ((gainOut g inv x).2 = true ↔ (inv = true ∧ x' ≠ -x) ∨ max (-8388608) (min 8388607 v) ≠ v) := by
  refine ⟨rfl, ?_⟩
  simp only [gainOut, Bool.or_eq_true, Bool.and_eq_true, clips_iff]
  cases inv
  · simp [sat, sampleMin, sampleMax, round12]
  · simp [sat, sampleMin, sampleMax, round12]

theorem Stage.compute_gain {st : Stage} (kind : st.kind = .gain) (banks : Vector Table 8) (k : Nat) (x : Int) :
    st.compute banks k x = (gainOut (st.rampedAt 0 k) (decide (st.current.getD 1 0 = 1)) x, st.run) := by
  unfold Stage.compute
  simp only [kind]
  rfl

/-! ## BIQUAD (R7) -/

theorem biquadOut_spec (b0 b1 b2 a1 a2 x : Int) (g : BiquadRun) :
    let acc := b0 * x + b1 * g.x1 + b2 * g.x2 - a1 * g.y1 - a2 * g.y2
    let y := max (-8388608) (min 8388607 ((acc + 2097152) / 4194304))
    (biquadOut [b0, b1, b2, a1, a2] g x).1.1 = y ∧
    ((biquadOut [b0, b1, b2, a1, a2] g x).1.2 = true ↔ (acc + 2097152) / 4194304 ≠ y) ∧
    (biquadOut [b0, b1, b2, a1, a2] g x).2 = { x1 := x, x2 := g.x1, y1 := y, y2 := g.y1 } := by
  refine ⟨rfl, ?_, rfl⟩
  rw [ne_comm]
  exact clips_iff _

theorem Stage.compute_biquad {st : Stage} {b : BiquadRun} (kind : st.kind = .biquad) (run : st.run = .biquad b)
    (banks : Vector Table 8) (k : Nat) (x : Int) :
    st.compute banks k x = ((biquadOut st.current b x).1, .biquad (biquadOut st.current b x).2) := by
  unfold Stage.compute
  simp only [kind, run]

/-- The step of a stage whose fresh start is given. -/
theorem Stage.stepRamp_fresh {st : Stage} {run : Running} (h : (Stage.fresh st).run = run) :
    st.stepRamp = { st with m := st.stepRamp.m, run := if st.m = 0 ∧ st.target = true then run else st.run } := by
  have fresh : Stage.fresh { st with m := st.stepRamp.m } = { st with m := st.stepRamp.m, run := run } := by
    subst h
    unfold Stage.fresh
    dsimp only
    split <;> simp_all [Stage.inForce]
  by_cases leaves : st.m = 0 ∧ st.target = true
  · rw [if_pos leaves, ← fresh]
    exact (Stage.stepRamp_leaves leaves).1
  · rw [if_neg leaves]
    exact Stage.stepRamp_stays leaves

theorem Stage.stepRamp_zero {st : Stage} (h : st.stepRamp.m = 0) : st.stepRamp = { st with m := 0 } := by
  rw [← h]
  exact Stage.stepRamp_stays fun leaves => (Stage.stepRamp_leaves leaves).2 h

theorem Stage.render_biquad {st : Stage} {b : BiquadRun} (kind : st.kind = .biquad) (run : st.run = .biquad b)
    (banks : Vector Table 8) (k : Nat) (p : Port) (x : Int) :
    let m := st.stepRamp.m
    let y := biquadOut st.current (if st.m = 0 ∧ st.target = true then ⟨0, 0, 0, 0⟩ else b) x
    let o := st.render banks k p x
    o.port = p ∧ (m = 0 → o.stage = { st with m := 0 } ∧ o.out = x ∧ o.clip = false) ∧
    (m ≠ 0 → o.stage = { st with m := m, run := .biquad y.2 } ∧ o.out = x + ((y.1.1 - x) * m + 128) / 256 ∧
      o.clip = y.1.2) := by
  have step := Stage.stepRamp_fresh (st := st) (run := .biquad biquadZero) (by simp [Stage.fresh, run])
  have runs : (if st.m = 0 ∧ st.target = true then Running.biquad biquadZero else st.run) =
      .biquad (if st.m = 0 ∧ st.target = true then ⟨0, 0, 0, 0⟩ else b) := by
    split
    · rfl
    · exact run
  rw [runs] at step
  dsimp only
  rw [Stage.render_ramped (by rw [kind]; decide) (by rw [kind]; decide)]
  split
  next zero => exact ⟨rfl, fun _ => ⟨Stage.stepRamp_zero zero, rfl, rfl⟩, fun h => absurd zero h⟩
  next moving =>
    refine ⟨rfl, fun h => absurd h moving, fun _ => ?_⟩
    generalize st.stepRamp.m = m at step ⊢
    rw [step, Stage.compute_biquad (by exact kind) rfl]
    exact ⟨rfl, rfl, rfl⟩

/-! ## DELAY (R42..R45, R59) -/

theorem Stage.render_delay_spec {st : Stage} {dr : DelayRun} {l : Fin 4} (kind : st.kind = .delay) (run : st.run = .delay dr)
    (hl : dr.line = some l) (banks : Vector Table 8) (k : Nat) (p : Port) (x : Int) :
    let m := st.stepRamp.m
    let trail : Prop := st.current.getD 8 0 = 1
    let ln := p.delay.lines[l]
    let got := ln.deliver dr.offset dr.r
    let w := sat (dr.w + ((got.1 - dr.w) * st.current.getD 4 0 + 4194304) / 8388608)
    let u := (if trail then (x * m + 128) / 256 else if m = 0 then 0 else x) + round12 (w * st.rampedAt 3 k)
    let v := round12 (x * st.rampedAt 5 k) + round12 (w * st.rampedAt 6 k)
    let o := st.render banks k p x
    o.stage = { st with m := m, run := .delay { dr with w := w, r := got.1 } } ∧
    o.out = (if trail then sat v else x + ((sat v - x) * m + 128) / 256) ∧
    (o.clip = true ↔ sat u ≠ u ∨ sat v ≠ v) ∧
    o.port.delay.lines[l] = Line.input { ln with
      underruns := if got.2 then min 65535 (ln.underruns + 1) else ln.underruns
      readFifo := ln.readFifo.filter fun e => e.1 ≠ positionAt ln.wp dr.offset } (sat u) ∧
    (∀ l' : Fin 4, l' ≠ l → o.port.delay.lines[l'] = p.delay.lines[l']) ∧ o.port.delay.mem = p.delay.mem := by
  have mem := (st.render_same banks k p x).1
  dsimp only
  rw [Stage.render_delay kind run hl] at mem ⊢
  refine ⟨rfl, rfl, ?_, ?_, fun l' hl' => ?_, mem⟩
  · simp only [delayOut, Bool.or_eq_true, clips_iff]
    exact Iff.rfl
  · simp only [delayOut, Port.write_lines, Port.read_lines, Vector.getElem_set_fin, if_true, ← Line.afterRead_eq]
    rfl
  · simp only [delayOut, Port.write_lines, Port.read_lines, Vector.getElem_set_fin, if_neg (Ne.symm hl')]

theorem Stage.render_dry_spec {st : Stage} {dr : DelayRun} (kind : st.kind = .delay) (run : st.run = .delay dr)
    (hl : dr.line = none) (banks : Vector Table 8) (k : Nat) (p : Port) (x : Int) :
    let m := st.stepRamp.m
    let v := round12 (x * st.rampedAt 5 k)
    let o := st.render banks k p x
    o.stage = { st with m := m } ∧ o.out = x + ((sat v - x) * m + 128) / 256 ∧ (o.clip = true ↔ sat v ≠ v) ∧ o.port = p := by
  dsimp only
  rw [Stage.render_dry kind run hl]
  exact ⟨rfl, rfl, clips_iff _, rfl⟩

theorem glide_eq (d target g : Nat) : glide d target g =
    if g = 0 then target
    else if d < target then (if target - d ≤ g then target else d + g)
    else if d - target ≤ g then target else d - g := by
  unfold glide
  split_ifs <;> omega

/-- Settles O15. -/
theorem gainAndEngageRampKeepTheirEnds : Obligations.GainAndEngageRampKeepTheirEnds := by
  unfold Obligations.GainAndEngageRampKeepTheirEnds
  refine ⟨fun x => gainOut_unity, gainOut_zero, fun x => gainOut_inverted, by decide, fun g inv x => sampleOk_sat _,
    fun st => Stage.stepRamp_range, fun x y => ⟨blendAt_full x y, blendAt_zero x y⟩, fun x y m => blendAt_between x y,
    gainOut_spec, fun st id k => ⟨rfl, rampAt_last _ _, rampAt_between _ _⟩, fun st banks k p x kind run => ?_,
    fun st b banks k p x kind run => Stage.render_biquad kind run banks k p x, biquadOut_spec,
    fun st dr l banks k p x kind run hl => Stage.render_delay_spec kind run hl banks k p x,
    fun st dr banks k p x kind run hl => Stage.render_dry_spec kind run hl banks k p x, glide_eq⟩
  exact Stage.render_plain run (by rw [kind]; decide) (by rw [kind]; decide)
    (Stage.compute_gain (st := { st with m := st.stepRamp.m }) kind banks k x) p

end Sys2Proof.Machine
end

section
/-! CORRECTNESS. The SHAPER: its curve between two entries of a bank, the identity curve, and one sample of a stage (spec/01 1.6, 1.7). -/

namespace Sys2Proof.Machine

/-! ## The curve (R9, R10) -/

/-- The entries between which the curve is read at u, and the place between them. -/
theorem Table.curve_eq (t : Table) {u f : Int} {i : Nat} (at_ : u + 8388608 = 65536 * i + f) (low : 0 ≤ f) (high : f < 65536) :
    Table.curve t u = Table.entry t i + ((Table.entry t (i + 1) - Table.entry t i) * f + 32768) / 65536 := by
  have place : (u + 8388608).toNat = 65536 * i + f.toNat := by omega
  have index : (65536 * i + f.toNat) / 65536 = i := by omega
  have rest : (((65536 * i + f.toNat) % 65536 : Nat) : Int) = f := by omega
  simp only [Table.curve, place, index, rest]

theorem curve_place {u : Int} (h : sampleOk u) : ∃ (i : Fin 256) (f : Int), u + 8388608 = 65536 * (i.val : Int) + f ∧ 0 ≤ f ∧ f < 65536 := by
  obtain ⟨low, high⟩ := h
  simp only [sampleMin, sampleMax] at low high
  exact ⟨⟨((u + 8388608) / 65536).toNat, by omega⟩, (u + 8388608) % 65536, by dsimp only; omega, by omega, by omega⟩

theorem Table.entry_of_lt (t : Table) {i : Nat} (h : i < 257) : Table.entry t i = t[i] := by
  rw [Table.entry, Vector.getElem?_eq_getElem h, Option.getD_some]

theorem Table.entry_identity {i : Nat} (h : i < 256) : Table.entry identityTable i = 65536 * i - 8388608 := by
  rw [Table.entry_of_lt _ (h.trans (by decide))]
  simp only [identityTable, Vector.getElem_ofFn, if_neg h.ne]
  ring

theorem Table.entry_identity_last : Table.entry identityTable 256 = 8388607 := by
  rw [Table.entry_of_lt _ (by decide)]
  simp [identityTable, sampleMax]

/-- Below the last step of the curve the two entries are 65,536 apart; the last step is one short of it. -/
theorem curve_identity {u : Int} (h : sampleOk u) : (u < 8323072 → Table.curve identityTable u = u) ∧
    (8323072 ≤ u → Table.curve identityTable u = u ∨ Table.curve identityTable u = u - 1) := by
  obtain ⟨i, f, place, low, high⟩ := curve_place h
  have entry := Table.entry_identity i.isLt
  rw [Table.curve_eq identityTable place low high, entry]
  rcases Nat.lt_or_ge (i.val + 1) 256 with below | last
  · rw [Table.entry_identity below]
    omega
  · have top : i.val + 1 = 256 := by omega
    have index : (i.val : Int) = 255 := by omega
    rw [top, Table.entry_identity_last, index]
    omega

theorem curve_between (t : Table) {u : Int} (h : sampleOk u) :
    ∃ (i : Fin 256) (f : Int), u + 8388608 = 65536 * (i.val : Int) + f ∧ 0 ≤ f ∧ f < 65536 ∧
      (let a : Int := t[i.val]
       let b : Int := t[i.val + 1]
       Table.curve t u = a + ((b - a) * f + 32768) / 65536 ∧ min a b ≤ Table.curve t u ∧ Table.curve t u ≤ max a b) := by
  obtain ⟨i, f, place, low, high⟩ := curve_place h
  refine ⟨i, f, place, low, high, ?_⟩
  rw [Table.curve_eq t place low high, Table.entry_of_lt t (by omega), Table.entry_of_lt t (by omega)]
  exact ⟨rfl, blend_between _ _ (by decide) low high.le (by decide) (by decide)⟩

/-! ## SHAPER (R9) -/

theorem shaperOut_spec (t : Table) (gp bias gq x : Int) :
    let v := (x * gp + 2048) / 4096
    let w := max (-8388608) (min 8388607 v) + bias
    let u := max (-8388608) (min 8388607 w)
    let y := Table.curve t u
    let z := (y * gq + 2048) / 4096
    (shaperOut t gp bias gq x).1 = max (-8388608) (min 8388607 z) ∧
    ((shaperOut t gp bias gq x).2 = true ↔
      max (-8388608) (min 8388607 v) ≠ v ∨ u ≠ w ∨ max (-8388608) (min 8388607 z) ≠ z) := by
  refine ⟨rfl, ?_⟩
  simp only [shaperOut, Bool.or_eq_true, clips_iff, or_assoc]
  exact Iff.rfl

theorem Stage.compute_shaper {st : Stage} {bank : Fin 8} (kind : st.kind = .shaper) (h : st.current.getD 2 0 = (bank.val : Int))
    (banks : Vector Table 8) (k : Nat) (x : Int) : st.compute banks k x =
      (shaperOut banks[bank] (st.rampedAt 0 k) (st.current.getD 1 0) (st.rampedAt 3 k) x, st.run) := by
  unfold Stage.compute
  simp only [kind, Stage.inForce, h, Int.toNat_natCast, Fin.ofNat_val_eq_self]

/-- Settles O16. -/
theorem identityCurvePassesSamples : Obligations.IdentityCurvePassesSamples := by
  unfold Obligations.IdentityCurvePassesSamples
  refine ⟨fun u => curve_identity, shaperOut_spec, fun t u => curve_between t, fun st banks bank k p x kind run hbank => ?_⟩
  exact Stage.render_plain run (by rw [kind]; decide) (by rw [kind]; decide)
    (Stage.compute_shaper (st := { st with m := st.stepRamp.m }) kind hbank banks k x) p

end Sys2Proof.Machine
end

section
/-! CORRECTNESS. OUTPUT, the mixer and one rendered sample (spec/01 1.9..1.11). -/

namespace Sys2Proof.Machine

/-! ## The mixer's blends (R19, R20) -/

/-- The whole of a difference. -/
theorem share_whole (d : Int) {n h : Int} (hn : 0 < n) (hh : 0 ≤ h) (hhn : h < n) : (d * n + h) / n = d := by
  rw [add_comm, Int.add_mul_ediv_right _ _ hn.ne', Int.ediv_eq_zero_of_lt hh hhn, zero_add]

theorem crossfadeMix_last (old new : Int) {n : Nat} (h : 0 < n) : crossfadeMix old new n n = new := by
  rw [crossfadeMix, share_whole _ (by omega) (by omega) (by omega), add_sub_cancel]

theorem crossfadeMix_between (old new : Int) {k n : Nat} (h : 0 < n) (hk : k ≤ n) :
    min old new ≤ crossfadeMix old new k n ∧ crossfadeMix old new k n ≤ max old new :=
  blend_between old new (by omega) (by omega) (by omega) (by omega) (by omega)

theorem dipOutMix_last (old : Int) {n : Nat} (h : 0 < n) : dipOutMix old n n = 0 := crossfadeMix_last old 0 h

theorem dipInMix_last (new : Int) {n : Nat} (h : 0 < n) : dipInMix new n n = new := share_whole new (by omega) (by omega) (by omega)

theorem Mixer.advance_eq (m : Mixer) : m.advance = { m with k := if m.phase = .single then m.k else m.k + 1 } := by
  rcases m with ⟨phase, k, length⟩
  cases phase <;> rfl

/-! ## OUTPUT (R17, R35) -/

theorem Stage.render_output {st : Stage} (kind : st.kind = .output) (run : st.run = .none) (banks : Vector Table 8) (k : Nat)
    (p : Port) (x : Int) :
    let m := st.stepRamp.m
    let l := (x * st.rampedAt 0 k + 2048) / 4096
    let r := (x * st.rampedAt 1 k + 2048) / 4096
    let o := st.render banks k p x
    o.stage = { st with m := m } ∧ o.port = p ∧
    o.pair = (if m = 0 then (0, 0) else ((sat l * m + 128) / 256, (sat r * m + 128) / 256)) ∧
    (o.clip = true ↔ m ≠ 0 ∧ (sat l ≠ l ∨ sat r ≠ r)) := by
  have step := Stage.stepRamp_plain run
  dsimp only
  unfold Stage.render
  dsimp only
  generalize st.stepRamp.m = m at step ⊢
  rw [step]
  simp only [kind]
  split
  next zero => simp [zero]
  next moving =>
    refine ⟨rfl, rfl, ?_, ?_⟩
    · rfl
    · simp only [outputPair, Bool.or_eq_true, clips_iff, ne_eq, moving, not_false_eq_true, true_and]
      exact Iff.rfl

/-! ## One rendered sample (R4, R19..R22) -/

theorem mainSum_clip (mixed trails : Pair) :
    (mainSum mixed trails).2 = true ↔ (mainSum mixed trails).1 ≠ (mixed.1 + trails.1, mixed.2 + trails.2) := by
  simp only [mainSum, Bool.or_eq_true, clips_iff, ne_eq, Prod.mk.injEq, not_and_or]

/-- What a sample leaves when `mixed` is the mixed pair, `p` the port that its contexts leave, `flags` the flags they raise and `input`
whether the playing context's SUM saturated. -/
def State.sampleSums (s : State) (k : Nat) (ab mixed : Pair) (p : Port) (flags : BitVec 12) (input : Bool) : Prop :=
  let t := renderTrails s.scenes.trails p
  let l := mixed.1 + t.2.2.1
  let r := mixed.2 + t.2.2.2
  let u := s.renderSample k ab
  u.2 = (max (-8388608) (min 8388607 l), max (-8388608) (min 8388607 r)) ∧ u.1.scenes.trails = t.1 ∧
  u.1.delay = t.2.1.delay ∧ u.1.chain.stageClip = s.chain.stageClip ||| flags ∧
  (u.1.chain.mainClip = true ↔ s.chain.mainClip = true ∨ input = true ∨ u.2 ≠ (l, r)) ∧
  u.1.chain.mixer = { s.chain.mixer with k := if s.chain.mixer.phase = .single then s.chain.mixer.k else s.chain.mixer.k + 1 }

/-- The sample's sums from what its contexts leave. -/
theorem State.sampleSums_of {s : State} {k : Nat} {ab : Pair} {old new : SampleOut} {flags : BitVec 12} {input : Bool}
    (has : s.chain.hasContext = true) (hold : s.renderPlaying k { delay := s.delay, readers := s.readers } ab = old)
    (hnew : old.state.renderIncoming k old.port ab = new) (trails : new.state.scenes.trails = s.scenes.trails)
    (stageClip : new.state.chain.stageClip = s.chain.stageClip ||| flags)
    (mainClip : new.state.chain.mainClip = (s.chain.mainClip || input)) (mixer : new.state.chain.mixer = s.chain.mixer) :
    s.sampleSums k ab (s.chain.mixer.mix old.pair new.pair) new.port flags input := by
  have sample : s.renderSample k ab =
      (let t := renderTrails s.scenes.trails new.port
       let main := mainSum (s.chain.mixer.mix old.pair new.pair) t.2.2
       let s' := (new.state.withScenes { new.state.scenes with trails := t.1 }).withDelay t.2.1.delay
       (s'.withChain { s'.chain.raise 0 main.2 with mixer := s.chain.mixer.advance }, main.1)) := by
    simp only [State.renderSample, has, Bool.not_true, Bool.false_eq_true, if_false, hold, hnew, trails, mixer,
      State.withDelay_chain, State.withScenes_chain]
  unfold State.sampleSums
  simp only [sample, ← Mixer.advance_eq]
  refine ⟨rfl, rfl, rfl, ?_, ?_, rfl⟩
  · simp [Chain.raise, stageClip]
  · have clip := mainSum_clip (s.chain.mixer.mix old.pair new.pair) (renderTrails s.scenes.trails new.port).2.2
    simp only [State.withChain_chain, Chain.raise, State.withDelay_chain, State.withScenes_chain, mainClip, Bool.or_eq_true, clip, or_assoc]

/-- What the playing context's sample leaves, its flags raised. -/
def State.playingOut (s : State) (o : ContextOut) : SampleOut where
  state := (s.withScenes { s.scenes with playing := o.context }).withChain (s.chain.raise o.clips o.sumClip)
  port := o.port
  pair := o.pair

/-- What the incoming context's sample leaves. -/
def State.incomingOut (s : State) (o : ContextOut) : SampleOut where
  state := s.withScenes { s.scenes with scene := s.scenes.scene.mapIncoming fun _ => o.context }
  port := o.port
  pair := o.pair

theorem State.renderPlaying_on {s : State} (h : s.chain.mixer.phase.rendersPlaying = true) (k : Nat) (p : Port) (ab : Pair) :
    s.renderPlaying k p ab = s.playingOut (s.scenes.playing.render s.chain.banks k p ab) := if_pos h

theorem State.renderPlaying_off {s : State} (h : s.chain.mixer.phase.rendersPlaying = false) (k : Nat) (p : Port) (ab : Pair) :
    s.renderPlaying k p ab = { state := s, port := p, pair := (0, 0) } := if_neg (by rw [h]; decide)

theorem State.renderIncoming_on {s : State} {c : Context} (h : s.chain.mixer.phase.rendersIncoming = true)
    (built : s.scenes.scene.built = some c) (k : Nat) (p : Port) (ab : Pair) :
    s.renderIncoming k p ab = s.incomingOut (c.render s.chain.banks k p ab) := by
  unfold State.renderIncoming
  rw [h, built]
  rfl

theorem State.renderIncoming_off {s : State} (h : s.chain.mixer.phase.rendersIncoming = false) (k : Nat) (p : Port) (ab : Pair) :
    s.renderIncoming k p ab = { state := s, port := p, pair := (0, 0) } := by
  unfold State.renderIncoming
  rw [h]

theorem State.renderSample_sums {s : State} {k : Nat} {ab : Pair} (has : s.chain.hasContext = true) :
    let start : Port := { delay := s.delay, readers := s.readers }
    let old := s.scenes.playing.render s.chain.banks k start ab
    (s.chain.mixer.phase = .single → s.sampleSums k ab old.pair old.port old.clips old.sumClip) ∧
    (s.chain.mixer.phase = .dipOut → s.sampleSums k ab (s.chain.mixer.mix old.pair (0, 0)) old.port old.clips old.sumClip) ∧
    (∀ c, s.scenes.scene.built = some c →
      (s.chain.mixer.phase = .crossfade →
        let new := c.render s.chain.banks k old.port ab
        s.sampleSums k ab (s.chain.mixer.mix old.pair new.pair) new.port old.clips old.sumClip) ∧
      (s.chain.mixer.phase = .dipIn →
        let new := c.render s.chain.banks k start ab
        s.sampleSums k ab (s.chain.mixer.mix (0, 0) new.pair) new.port 0 false)) := by
  dsimp only
  generalize hold : s.scenes.playing.render s.chain.banks k { delay := s.delay, readers := s.readers } ab = old
  have first (h : s.chain.mixer.phase.rendersPlaying = true) :
      s.renderPlaying k { delay := s.delay, readers := s.readers } ab = s.playingOut old := by
    rw [State.renderPlaying_on h, hold]
  have mixer : (s.playingOut old).state.chain.mixer = s.chain.mixer := rfl
  refine ⟨fun phase => ?_, fun phase => ?_, fun c built => ⟨fun phase => ?_, fun phase => ?_⟩⟩
  · have second := State.renderIncoming_off (s := (s.playingOut old).state) (by rw [mixer, phase]; rfl) k old.port ab
    have mix : s.chain.mixer.mix old.pair (0, 0) = old.pair := by rw [Mixer.mix, phase]
    rw [← mix]
    have sums := State.sampleSums_of has (first (by rw [phase]; rfl)) second rfl rfl rfl rfl
    exact sums
  · have second := State.renderIncoming_off (s := (s.playingOut old).state) (by rw [mixer, phase]; rfl) k old.port ab
    have sums := State.sampleSums_of has (first (by rw [phase]; rfl)) second rfl rfl rfl rfl
    exact sums
  · have second := State.renderIncoming_on (s := (s.playingOut old).state) (by rw [mixer, phase]; rfl) built k old.port ab
    have sums := State.sampleSums_of has (first (by rw [phase]; rfl)) second rfl rfl rfl rfl
    exact sums
  · have none := State.renderPlaying_off (s := s) (by rw [phase]; rfl) k { delay := s.delay, readers := s.readers } ab
    have second := State.renderIncoming_on (s := s) (by rw [phase]; rfl) built k { delay := s.delay, readers := s.readers } ab
    have sums := State.sampleSums_of (flags := 0) (input := false) has none second rfl (BitVec.or_zero).symm (Bool.or_false _).symm rfl
    exact sums

/-! ## DIP_IN -/

theorem exec_dipIn_due {s : State} (on : s.powered) (phase : s.chain.mixer.phase = .dipOut) (done : s.chain.mixer.length ≤ s.chain.mixer.k) :
    let s' : State := { s with chain := { s.chain with
      mixer := { phase := .dipIn, k := 0, length := s.chain.mixer.length } } }
    exec .dipIn s = .next { s' with delay := s'.delay.arbitrate s'.readers } := by
  have due : s.chain.mixer.outDone = true := by simp [Mixer.outDone, phase, done]
  rw [exec_dipIn on, if_pos due, State.takeDipIn, if_pos due]
  rfl

theorem exec_dipIn_early {s : State} (on : s.powered) (early : s.chain.mixer.k < s.chain.mixer.length) : exec .dipIn s = .next s := by
  have due : s.chain.mixer.outDone = false := by simp [Mixer.outDone, early]
  rw [exec_dipIn on, due]
  rfl

/-- Settles O17. -/
theorem mixerEndsAndDipIn : Obligations.MixerEndsAndDipIn := by
  unfold Obligations.MixerEndsAndDipIn
  refine ⟨fun old new n => crossfadeMix_last old new, fun old new k n => crossfadeMix_between old new, fun m old new => ?_,
    fun st banks k p x kind run => Stage.render_output kind run banks k p x, fun s k ab has => ?_,
    fun s k ab has => State.renderSample_sums has, fun old n => dipOutMix_last old, fun new n => dipInMix_last new,
    fun s on phase done => exec_dipIn_due on phase done, fun s on _ early => exec_dipIn_early on early⟩
  · rcases m with ⟨phase, k, length⟩
    cases phase <;> rfl
  · rw [State.renderSample, has]
    rfl

end Sys2Proof.Machine
end

section
/-! CORRECTNESS. GATE: its transitions, the gain it moves to, one sample, and the end of a hold (spec/01 1.8). -/

namespace Sys2Proof.Machine

/-! ## Transitions (R15) -/

theorem gateClose_open {params : List Int} {g : GateRun} (h : g.computed = false) : (gateClose params g).state = g.state := by
  simp [gateClose, h]

/-- A gate that was computed makes its one transition. -/
theorem gateClose_transition {params : List Int} {g : GateRun} (h : g.computed = true) :
    (gateClose params g).state = (gateTransition params g).state ∧ (gateClose params g).hold = (gateTransition params g).hold := by
  simp [gateClose, h]

section
variable {opn cls atk hld rel flo : Int} {g : GateRun}

theorem gateTransition_closed (h : g.state = .closed) :
    (gateTransition [opn, cls, atk, hld, rel, flo] g).state = if opn ≤ g.peak then .opening else .closed := by
  simp only [gateTransition, h, decide_eq_true_eq, List.getD_cons_zero]
  split
  · rfl
  · exact h

theorem gateTransition_opening (h : g.state = .opening) :
    (gateTransition [opn, cls, atk, hld, rel, flo] g).state = if g.gg = 4096 then .opened else .opening := by
  simp only [gateTransition, h]
  split
  · rfl
  · exact h

theorem gateTransition_opened (h : g.state = .opened) :
    (gateTransition [opn, cls, atk, hld, rel, flo] g).state =
      if g.peak < cls then (if 1 ≤ hld then .holding else .closing) else .opened := by
  by_cases below : g.peak < cls
  · simp only [gateTransition, h, List.getD_cons_zero, List.getD_cons_succ, below, decide_true, Bool.not_true, Bool.false_eq_true, if_true,
      if_false]
    split <;> rfl
  · simp [gateTransition, h, below]

theorem gateTransition_holding (h : g.state = .holding) :
    (gateTransition [opn, cls, atk, hld, rel, flo] g).state = if cls ≤ g.peak then .opened else .holding := by
  by_cases below : g.peak < cls
  · simp [gateTransition, h, below, below.not_ge]
  · simp [gateTransition, h, below, le_of_not_gt below]

theorem gateTransition_closing (h : g.state = .closing) :
    (gateTransition [opn, cls, atk, hld, rel, flo] g).state =
      if opn ≤ g.peak then .opening else if g.gg = flo then .closed else .closing := by
  simp only [gateTransition, h, decide_eq_true_eq, List.getD_cons_zero, List.getD_cons_succ]
  split
  · rfl
  · split
    · rfl
    · exact h

/-- A gate that begins to hold takes its hold counter from the parameter. -/
theorem gateTransition_hold_start (h : g.state = .opened) (below : g.peak < cls) (some : 1 ≤ hld) :
    ((gateTransition [opn, cls, atk, hld, rel, flo] g).hold : Int) = hld := by
  simp [gateTransition, h, below, some]
  omega

theorem gateTransition_hold_count (h : g.state = .holding) (below : g.peak < cls) :
    (gateTransition [opn, cls, atk, hld, rel, flo] g).hold = g.hold - 1 := by
  simp [gateTransition, h, below]

end

/-! ## Goals (R16) -/

theorem divCeil_spec {d a : Int} (h : 1 ≤ a) : d ≤ divCeil d a * a ∧ (divCeil d a - 1) * a < d := by
  have low := Int.ediv_mul_le (d + (a - 1)) (show a ≠ 0 by omega)
  have high := Int.lt_ediv_add_one_mul_self (d + (a - 1)) (show 0 < a by omega)
  rw [divCeil]
  constructor <;> nlinarith

/-- The step of a gate's gain: the least number, 1 or more, of which a blocks make up the difference d. -/
theorem gateStep_spec {d a : Int} (h : 1 ≤ a) :
    1 ≤ max 1 (divCeil d a) ∧ d ≤ max 1 (divCeil d a) * a ∧ (1 < max 1 (divCeil d a) → (max 1 (divCeil d a) - 1) * a < d) := by
  obtain ⟨covers, least⟩ := divCeil_spec (d := d) h
  rcases le_total (divCeil d a) 1 with one | more
  · rw [max_eq_left one]
    exact ⟨le_rfl, by nlinarith, fun h => absurd h (lt_irrefl 1)⟩
  · rw [max_eq_right more]
    exact ⟨more, covers, fun _ => least⟩

theorem gateFix_spec {opn cls atk hld rel flo : Int} {g : GateRun} (attack : 1 ≤ atk) (release : 1 ≤ rel) :
    (gateFix [opn, cls, atk, hld, rel, flo] g).ggStart = g.gg ∧
    (g.state = .opened ∨ g.state = .holding → (gateFix [opn, cls, atk, hld, rel, flo] g).ggEnd = 4096) ∧
    (g.state = .closed → (gateFix [opn, cls, atk, hld, rel, flo] g).ggEnd = flo) ∧
    (g.state = .opening → ∃ sa, 1 ≤ sa ∧ 4096 - flo ≤ sa * atk ∧ (1 < sa → (sa - 1) * atk < 4096 - flo) ∧
      (gateFix [opn, cls, atk, hld, rel, flo] g).ggEnd = min 4096 (g.gg + sa)) ∧
    (g.state = .closing → ∃ sr, 1 ≤ sr ∧ 4096 - flo ≤ sr * rel ∧ (1 < sr → (sr - 1) * rel < 4096 - flo) ∧
      (gateFix [opn, cls, atk, hld, rel, flo] g).ggEnd = max flo (g.gg - sr)) := by
  obtain ⟨one, covers, least⟩ := gateStep_spec (d := 4096 - flo) attack
  obtain ⟨one', covers', least'⟩ := gateStep_spec (d := 4096 - flo) release
  refine ⟨rfl, fun h => ?_, fun h => ?_, fun h => ⟨_, one, covers, least, ?_⟩, fun h => ⟨_, one', covers', least', ?_⟩⟩
  · rcases h with h | h <;> simp only [gateFix, gateGoal, h]
  all_goals
    simp only [gateFix, gateGoal, h]
    rfl

/-! ## One sample (R16, R34, R36) -/

theorem Stage.compute_gate {st : Stage} {g : GateRun} (kind : st.kind = .gate) (run : st.run = .gate g)
    (banks : Vector Table 8) (k : Nat) (x : Int) : st.compute banks k x = (((gateOut g k x).1, false), .gate (gateOut g k x).2) := by
  unfold Stage.compute
  simp only [kind, run]

theorem Stage.render_gate {st : Stage} {g : GateRun} (kind : st.kind = .gate) (run : st.run = .gate g)
    (banks : Vector Table 8) (k : Nat) (p : Port) (x : Int) :
    let m := st.stepRamp.m
    let flo := st.current.getD 5 0
    let g' : GateRun := if st.m = 0 ∧ st.target = true then ⟨.closed, flo, flo, flo, 0, 0, false⟩ else g
    let gg := g'.ggStart + (g'.ggEnd - g'.ggStart) * ((k : Int) + 1) / 48
    let o := st.render banks k p x
    o.port = p ∧ o.clip = false ∧ (m = 0 → o.stage = { st with m := 0 } ∧ o.out = x) ∧
    (m ≠ 0 → o.out = x + ((sat (round12 (x * gg)) - x) * m + 128) / 256 ∧
      o.stage = { st with
        m := m
        run := .gate { g' with gg := gg, peak := max g'.peak (min 8388607 (x.natAbs : Int)), computed := true } }) := by
  have step := Stage.stepRamp_fresh (st := st) (run := .gate (gateAtFloor (st.inForce 5))) (by simp [Stage.fresh, run])
  have runs : (if st.m = 0 ∧ st.target = true then Running.gate (gateAtFloor (st.inForce 5)) else st.run) =
      .gate (if st.m = 0 ∧ st.target = true then gateAtFloor (st.inForce 5) else g) := by
    split
    · rfl
    · exact run
  rw [runs] at step
  dsimp only
  rw [Stage.render_ramped (by rw [kind]; decide) (by rw [kind]; decide)]
  split
  next zero => exact ⟨rfl, rfl, fun _ => ⟨Stage.stepRamp_zero zero, rfl⟩, fun h => absurd zero h⟩
  next moving =>
    generalize st.stepRamp.m = m at step moving ⊢
    rw [step, Stage.compute_gate (by exact kind) rfl]
    exact ⟨rfl, rfl, fun h => absurd h moving, fun _ => ⟨rfl, rfl⟩⟩

/-! ## GATE_HOLD_END (R15) -/

theorem Stage.holdEnd_due {st : Stage} {g : GateRun} (run : st.run = .gate g) (state : g.state = .holding) (hold : g.hold = 0) :
    st.holdEnd = { st with run := .gate (gateFix st.current { g with state := .closing }) } := by
  simp [Stage.holdEnd, run, gateHoldEnd, GateRun.holdEnded, state, hold]

theorem Stage.holdEnd_early {st : Stage} {g : GateRun} (run : st.run = .gate g) (h : g.state ≠ .holding ∨ g.hold ≠ 0) :
    st.holdEnd = st := by
  have early : g.holdEnded = false := by
    rcases h with h | h <;> simp [GateRun.holdEnded, h]
  simp only [Stage.holdEnd, run, gateHoldEnd, early]
  rcases st with ⟨⟩
  cases run
  rfl

theorem State.takeGateHoldEnd_playing {s : State} {n : Nat} {st : Stage} (h : s.scenes.playing.stages[n]? = some st) :
    s.takeGateHoldEnd false n = { s with scenes := { s.scenes with
      playing := { s.scenes.playing with stages := s.scenes.playing.stages.set n st.holdEnd } } } := by
  simp only [State.takeGateHoldEnd, h]
  rfl

theorem State.takeGateHoldEnd_crossfade {s : State} {n : Nat} {c : Context} {q : Option QueuedRecall} {st : Stage}
    (scene : s.scenes.scene = .crossfade c q) (h : c.stages[n]? = some st) :
    s.takeGateHoldEnd true n = { s with scenes := { s.scenes with
      scene := .crossfade { c with stages := c.stages.set n st.holdEnd } q } } := by
  simp only [State.takeGateHoldEnd, scene, Scene.mapIncoming, h]
  rfl

theorem exec_gateHoldEnd_early {s : State} {stage : Fin 12} {st : Stage} {g : GateRun} (on : s.powered)
    (h : s.scenes.playing.stages[stage.val]? = some st) (run : st.run = .gate g) (early : g.state ≠ .holding ∨ g.hold ≠ 0) :
    exec (.gateHoldEnd false stage) s = .next s := by
  have same : s.scenes.playing.stages.set stage.val st = s.scenes.playing.stages := by
    obtain ⟨lt, rfl⟩ := List.getElem?_eq_some_iff.1 h
    exact List.set_getElem_self lt
  rw [exec_gateHoldEnd on, State.takeGateHoldEnd_playing h, Stage.holdEnd_early run early, same]

/-- Settles O14. -/
theorem gateStatesGainsAndHoldEnd : Obligations.GateStatesGainsAndHoldEnd := by
  unfold Obligations.GateStatesGainsAndHoldEnd
  refine ⟨fun opn cls atk hld rel flo g computed => ?_, fun opn cls atk hld rel flo g computed => gateClose_open computed,
    fun opn cls atk hld rel flo g attack release => gateFix_spec attack release, fun s stage st g on h run state hold => ?_,
    fun s stage c q st g on scene h run state hold => ?_, fun st g banks k p x kind run => Stage.render_gate kind run banks k p x,
    fun s stage st g on h run early => exec_gateHoldEnd_early on h run early⟩
  · obtain ⟨state, hold⟩ := gateClose_transition (params := [opn, cls, atk, hld, rel, flo]) computed
    rw [state, hold]
    refine ⟨?_, gateTransition_hold_start, gateTransition_hold_count⟩
    cases h : g.state with
    | closed => exact gateTransition_closed h
    | opening => exact gateTransition_opening h
    | opened => exact gateTransition_opened h
    | holding => exact gateTransition_holding h
    | closing => exact gateTransition_closing h
  · rw [exec_gateHoldEnd on, State.takeGateHoldEnd_playing h, Stage.holdEnd_due run state hold]
  · rw [exec_gateHoldEnd on, State.takeGateHoldEnd_crossfade scene h, Stage.holdEnd_due run state hold]

end Sys2Proof.Machine
end

section
/-! CORRECTNESS. AUDIO_FRAME: what the events that are due and the frame's own effect leave alone (spec/11 11.1). -/

namespace Sys2Proof.Machine

/-! ## What settling leaves alone -/

/-- The cue unit's settings, its FIFO and its receiver. -/
def CueUnit.standing (u : CueUnit) :=
  (u.filters, u.masks, u.fifo, u.watermark, u.overflow, u.debounceMs, u.holdMs, u.scanMs, u.frame, u.discards)

/-- What no event that a frame settles changes: the banks, the inputs kept, whether a context is rendered or handed over, the settings of
cue unit and tuner, the last recall's number, the enable mask and the dropped flag. -/
def State.standing (s : State) :=
  (s.chain.banks, s.chain.history, s.chain.hasContext || s.chain.handover, s.cues.standing, s.tuner.settings, s.tuner.mode,
    s.scenes.lastRecall, s.link.mask, s.link.dropped)

theorem CueUnit.enqueue_standing (u : CueUnit) (c : Cue) : (u.enqueue c).standing = u.standing := by
  rcases u.enqueue_cases c with ⟨-, e⟩ | ⟨-, -, q, -, e⟩ | ⟨-, e⟩ <;> rw [e] <;> rfl

theorem Link.post_mask (l : Link) (k : ReportKind) (sub : Byte) (payload : List Byte) :
    (l.post k sub payload).mask = l.mask ∧ (l.post k sub payload).dropped = l.dropped := by
  unfold Link.post Link.place
  repeat' split
  all_goals exact ⟨rfl, rfl⟩

theorem State.post_standing (s : State) (k : ReportKind) (sub : Byte) (payload : List Byte) :
    (s.post k sub payload).standing = s.standing := by
  obtain ⟨mask, dropped⟩ := s.link.post_mask k sub payload
  simp only [State.standing, State.post, State.withLink_chain, State.withLink_cues, State.withLink_tuner, State.withLink_scenes,
    State.withLink_link, mask, dropped]

theorem State.foldl_standing {α : Type} {f : State → α → State} (h : ∀ (s : State) (a : α), (f s a).standing = s.standing) (as : List α)
    (s : State) : (as.foldl f s).standing = s.standing := by
  induction as generalizing s with
  | nil => rfl
  | cons a as ih => exact (ih _).trans (h s a)

/-! ## The scanners -/

theorem State.withCues_standing {s : State} {u : CueUnit} (h : u.standing = s.cues.standing) : (s.withCues u).standing = s.standing := by
  simp only [State.standing, State.withCues_chain, State.withCues_cues, State.withCues_tuner, State.withCues_scenes, State.withCues_link, h]

theorem State.makeCue_standing (s : State) (src : BitVec 4) (k : CueKind) (i : BitVec 8) (v : BitVec 10) :
    (s.makeCue src k i v).standing = s.standing := State.withCues_standing (CueUnit.enqueue_standing _ _)

theorem State.debounce_standing (s : State) (i : Fin 8) : (s.debounce i).standing = s.standing := by
  unfold State.debounce
  dsimp only
  split
  · split
    · exact (State.makeCue_standing _ _ _ _ _).trans (State.withCues_standing rfl)
    · exact State.withCues_standing rfl
  · rfl

theorem State.holdCue_standing (s : State) (i : Fin 8) : (s.holdCue i).standing = s.standing := by
  unfold State.holdCue
  dsimp only
  split
  · exact (State.makeCue_standing _ _ _ _ _).trans (State.withCues_standing rfl)
  · rfl

theorem State.settleSwitches_standing (s : State) (n : Nat) : (s.settleSwitches n).standing = s.standing :=
  State.foldl_standing (fun s i => (State.holdCue_standing _ i).trans (s.debounce_standing i)) _ s

theorem State.setPedal_standing (s : State) (i : Fin 4) (p : Pedal) : (s.setPedal i p).standing = s.standing := State.withCues_standing rfl

theorem State.pedalCue_standing (s : State) (i : Fin 4) (v : Nat) : (s.pedalCue i v).standing = s.standing :=
  State.makeCue_standing _ _ _ _ _

theorem State.scanPedals_standing (s : State) (l : List (Fin 4)) : (s.scanPedals l).standing = s.standing := by
  induction l generalizing s with
  | nil => exact State.withCues_standing rfl
  | cons i l ih =>
    unfold State.scanPedals
    dsimp only
    split
    · exact ih s
    · split
      · exact (State.withCues_standing rfl).trans (s.setPedal_standing i _)
      · split
        · exact (ih _).trans ((State.pedalCue_standing _ i _).trans (s.setPedal_standing i _))
        · exact (ih _).trans (s.setPedal_standing i _)

theorem State.reportPedal_standing (s : State) (i : Fin 4) (p : Pedal) : (s.reportPedal i p).standing = s.standing :=
  State.post_standing _ _ _ _

theorem State.takeUnplug_standing (s : State) (i : Fin 4) : (s.takeUnplug i).standing = s.standing := by
  unfold State.takeUnplug
  dsimp only
  split
  · rw [State.scanPedals_standing, State.reportPedal_standing, State.setPedal_standing]
  · rfl

theorem State.takePlug_standing (s : State) (i : Fin 4) : (s.takePlug i).standing = s.standing := by
  unfold State.takePlug
  dsimp only
  split
  · split
    · rw [State.scanPedals_standing, State.reportPedal_standing, State.setPedal_standing]
    · rw [State.scanPedals_standing, State.pedalCue_standing, State.reportPedal_standing, State.setPedal_standing]
  · rfl

theorem State.settlePlugs_standing (s : State) (n : Nat) : (s.settlePlugs n).standing = s.standing := by
  induction n generalizing s with
  | zero => rfl
  | succ n ih =>
    unfold State.settlePlugs
    split
    · rw [ih, State.takePlug_standing, State.takeUnplug_standing]
    · rfl

theorem State.takePedalScan_standing (s : State) : s.takePedalScan.standing = s.standing := by
  unfold State.takePedalScan
  dsimp only
  split
  · rw [State.scanPedals_standing, State.withCues_standing, State.settlePlugs_standing]
    rfl
  · rfl

/-! ## Tuner and tempo -/

theorem State.reportTunerIf_standing (s : State) (b : Bool) : (s.reportTunerIf b).standing = s.standing := by
  unfold State.reportTunerIf State.reportTuner
  split
  · split
    · exact State.post_standing s _ _ _
    · rfl
  · rfl

theorem State.takeTunerRun_standing (s : State) : s.takeTunerRun.standing = s.standing := by
  unfold State.takeTunerRun
  split
  · exact State.reportTunerIf_standing _ _
  · rfl

theorem State.takeTunerLoss_standing (s : State) : s.takeTunerLoss.standing = s.standing := by
  unfold State.takeTunerLoss
  split
  · exact State.reportTunerIf_standing _ _
  · rfl

theorem State.changeTempo_standing (s : State) (t : Tempo) : (s.changeTempo t).standing = s.standing := by
  unfold State.changeTempo
  split
  · rfl
  · exact State.post_standing _ _ _ _

theorem State.takeClockLock_standing (s : State) : s.takeClockLock.standing = s.standing := by
  unfold State.takeClockLock
  split
  · exact s.changeTempo_standing _
  · rfl

theorem State.takeClockUpdate_standing (s : State) : s.takeClockUpdate.standing = s.standing := by
  unfold State.takeClockUpdate
  split
  · exact s.changeTempo_standing _
  · rfl

theorem State.takeClockLoss_standing (s : State) : s.takeClockLoss.standing = s.standing := by
  unfold State.takeClockLoss
  split
  · exact s.changeTempo_standing _
  · rfl

theorem State.takeBeat_standing (s : State) : s.takeBeat.standing = s.standing := by
  unfold State.takeBeat
  dsimp only
  split
  · split <;> rfl
  · rfl

/-! ## Blocks, trails, loads and switches -/

theorem State.arbitrate_standing (s : State) : s.arbitrate.standing = s.standing := rfl

theorem State.levels_standing (s : State) : s.levels.standing = s.standing := by
  unfold State.levels
  dsimp only
  split
  · exact State.post_standing _ _ _ _
  · rfl

theorem State.closeBlock_standing (s : State) : s.closeBlock.standing = s.standing := by
  unfold State.closeBlock
  split
  · rfl
  · exact State.levels_standing _

theorem State.takeDipIn_standing (s : State) : s.takeDipIn.standing = s.standing := by
  unfold State.takeDipIn
  split <;> rfl

theorem State.openBlock_standing (s : State) : s.openBlock.standing = s.standing := by
  simp only [State.standing, State.openBlock_keeps]
  simp [State.openBlock]

theorem State.cutOldest_standing (s : State) (as : TrailState) : (s.cutOldest as).standing = s.standing := by
  unfold State.cutOldest
  split <;> rfl

theorem State.takeTrailOwnEnd_standing (s : State) (l : Fin 4) : (s.takeTrailOwnEnd l).standing = s.standing := by
  unfold State.takeTrailOwnEnd
  split <;> rfl

theorem State.takeTrailFadeEnd_standing (s : State) (l : Fin 4) : (s.takeTrailFadeEnd l).standing = s.standing := by
  unfold State.takeTrailFadeEnd
  split <;> rfl

theorem State.reportScene_standing (s : State) (sub : Byte) (n : BitVec 8) (o : Origin) (src : Source) (more : List Byte) :
    (s.reportScene sub n o src more).standing = s.standing := State.post_standing _ _ _ _

theorem State.setScene_standing (s : State) (scene : Scene) : (s.setScene scene).standing = s.standing := rfl

theorem State.completeLoadIfDue_standing (s : State) : s.completeLoadIfDue.standing = s.standing := by
  unfold State.completeLoadIfDue State.takeLoadComplete
  dsimp only
  split
  · split
    · split
      · exact State.reportScene_standing _ _ _ _ _ _
      · rfl
    · rfl
  · rfl

theorem State.endSwitch_standing (s : State) (c : Context) (q : Option QueuedRecall) : (s.endSwitch c q).standing = s.standing := by
  unfold State.endSwitch
  dsimp only
  split
  · rw [State.setScene_standing, State.reportScene_standing]
    rfl
  · exact State.reportScene_standing _ _ _ _ _ _

theorem State.takeSwitchEnd_standing (s : State) : s.takeSwitchEnd.standing = s.standing := by
  unfold State.takeSwitchEnd State.finishSwitch
  split
  · split
    · split
      · exact (State.endSwitch_standing _ _ _).trans s.closeBlock_standing
      · exact (State.endSwitch_standing _ _ _).trans s.closeBlock_standing
      · exact s.closeBlock_standing
    · exact s.closeBlock_standing
  · rfl

theorem State.cutForBudget_standing (s : State) (cost n : Nat) : (s.cutForBudget cost n).standing = s.standing := by
  induction n generalizing s with
  | zero => rfl
  | succ n ih =>
    unfold State.cutForBudget
    split
    · rw [ih, State.cutOldest_standing]
    · rfl

theorem State.inherit_standing (s : State) (c : Context) : (s.inherit c).1.standing = s.standing := by
  unfold State.inherit
  dsimp only
  split <;> split
  · exact s.changeTempo_standing _
  · rfl
  · exact s.changeTempo_standing _
  · rfl

theorem State.withMixer_standing (s : State) (m : Mixer) : (s.withChain { s.chain with mixer := m }).standing = s.standing := rfl

theorem State.switchTo_standing (s : State) (c : Context) : (s.switchTo c).standing = s.standing := by
  unfold State.switchTo
  dsimp only
  generalize switchMode _ _ _ = mode
  cases mode with
  | cut => rw [State.endSwitch_standing, State.withMixer_standing, State.reportScene_standing, State.inherit_standing]
  | crossfade =>
    rw [State.setScene_standing, State.withMixer_standing, State.reportScene_standing, State.cutForBudget_standing, State.inherit_standing]
  | dip => rw [State.setScene_standing, State.withMixer_standing, State.reportScene_standing, State.inherit_standing]

theorem State.takeSwitchPoint_standing (s : State) : s.takeSwitchPoint.standing = s.standing := by
  unfold State.takeSwitchPoint State.performSwitch
  split
  · split
    · split
      · rw [State.switchTo_standing, State.closeBlock_standing, State.takeBeat_standing]
      · rw [State.closeBlock_standing, State.takeBeat_standing]
    · rw [State.closeBlock_standing, State.takeBeat_standing]
  · rfl

theorem State.takeBoundary_standing (s : State) : s.takeBoundary.standing = s.standing := by
  unfold State.takeBoundary
  split
  · rw [State.openBlock_standing, State.takeDipIn_standing, State.takeSwitchPoint_standing, State.takeSwitchEnd_standing,
      State.closeBlock_standing, State.takeBeat_standing]
  · rfl

theorem State.takeGateHoldEnds_standing (s : State) : s.takeGateHoldEnds.standing = s.standing := rfl

theorem State.settle_standing (s : State) : s.settle.standing = s.standing := by
  unfold State.settle
  dsimp only
  rw [State.arbitrate_standing, State.takeTrailOwnEnds, State.foldl_standing State.takeTrailOwnEnd_standing,
    State.takeGateHoldEnds_standing, State.takeBoundary_standing, State.takeSwitchEnd_standing, State.completeLoadIfDue_standing,
    State.takeTrailFadeEnds, State.foldl_standing State.takeTrailFadeEnd_standing, State.takeDipIn_standing,
    State.takeClockLoss_standing, State.takeClockUpdate_standing, State.takeClockLock_standing, State.takeBeat_standing,
    State.takeTunerLoss_standing, State.takeTunerRun_standing, State.settlePlugs_standing, State.takePedalScan_standing,
    State.settlePlugs_standing, State.settleSwitches_standing]

end Sys2Proof.Machine
end

section
/-! CORRECTNESS. One frame of the audio port: its slots, the counter, the inputs kept, the beat and the passthrough (spec/11 11.1,
spec/08 8.1). -/

namespace Sys2Proof.Machine

/-! ## The slots of ADIN and DAOUT (R196) -/

theorem State.daout_slots (s : State) : s.daout[0] = 0 ∧ s.daout[1] = 0 ∧
    (s.outputsOk → s.daout[2].toInt = 256 * s.pins.outL ∧ s.daout[3].toInt = 256 * s.pins.outR) ∧
    ∀ (slot : Fin 4) (clock : Fin 32), s.daoutBit slot clock = s.daout[slot].getLsbD (31 - clock.val) := by
  refine ⟨rfl, rfl, fun ⟨left, right⟩ => ⟨toSlot_toInt left.1 left.2, toSlot_toInt right.1 right.2⟩, fun slot clock => ?_⟩
  simp [State.daoutBit, BitVec.getMsbD]

theorem State.daout_silent {s : State} (left : s.pins.outL = 0) (right : s.pins.outR = 0) (i : Fin 4) : s.daout[i] = 0 := by
  have all : s.daout = #v[0, 0, 0, 0] := by rw [State.daout, left, right, toSlot_zero]
  rw [all]
  fin_cases i <;> rfl

/-- A frame acts by IN-A, IN-B and the pins alone. -/
theorem State.takeFrame_inputs (s : State) {f g : FrameInputs} (inputs : inputPair f = inputPair g) (contacts : f.contacts = g.contacts)
    (pedals : f.pedals = g.pedals) : s.takeFrame f = s.takeFrame g := by
  have render : s.settle.frameRender f = s.settle.frameRender g := by
    unfold State.frameRender
    rw [inputs, contacts, pedals]
  unfold State.takeFrame State.frameScan State.frameCount
  rw [render, inputs, contacts]

theorem exec_audioFrame_inputs (s : State) {f g : FrameInputs} (inputs : inputPair f = inputPair g) (contacts : f.contacts = g.contacts)
    (pedals : f.pedals = g.pedals) : exec (.audioFrame f) s = exec (.audioFrame g) s := by
  by_cases on : s.powered
  · rw [exec_audioFrame on, exec_audioFrame on, s.takeFrame_inputs inputs contacts pedals]
  · have held : s.startUp.phase = .held := not_not.1 on
    rw [exec_held held (by rintro ⟨⟩), exec_held held (by rintro ⟨⟩)]

/-! ## What a frame leaves of each block -/

theorem Tuner.sample_settings (t : Tuner) (n : Stamp) (ab : Pair) :
    (t.sample n ab).settings = t.settings ∧ (t.sample n ab).mode = t.mode := by
  have offer (t : Tuner) (p : Nat) : (t.offer p).settings = t.settings ∧ (t.offer p).mode = t.mode := by
    unfold Tuner.offer
    split
    · exact ⟨rfl, rfl⟩
    · split <;> exact ⟨rfl, rfl⟩
  have rising (t : Tuner) (c : Nat) : (t.rising c).settings = t.settings ∧ (t.rising c).mode = t.mode := by
    unfold Tuner.rising
    dsimp only
    split
    · exact ⟨rfl, rfl⟩
    · split
      · exact offer _ _
      · exact ⟨rfl, rfl⟩
  unfold Tuner.sample
  dsimp only
  split
  · exact ⟨rfl, rfl⟩
  · generalize comparator t.positive t.settings.threshold _ = cmp
    cases cmp.2
    · exact ⟨rfl, rfl⟩
    · exact rising _ _

theorem State.renderSample_standing (s : State) (k : Nat) (ab : Pair) : (s.renderSample k ab).1.standing = s.standing := by
  unfold State.renderSample State.renderIncoming State.renderPlaying
  dsimp only
  split
  · rfl
  · split <;> split <;> rfl

/-- A frame's inputs join those kept. -/
theorem State.frameRender_standing (s : State) (f : FrameInputs) : (s.frameRender f).standing =
    (s.chain.banks, s.chain.history.drop 1 ++ [inputPair f], s.standing.2.2) := by
  have kept := s.renderSample_standing (s.sampleCounter.toNat % Config.blockSamples) s.chain.delayedInput
  rw [State.frameRender]
  simp only [State.standing, Prod.mk.injEq] at kept ⊢
  obtain ⟨banks, history, rest⟩ := kept
  exact ⟨banks, by rw [← history]; rfl, rest⟩

theorem State.frameCount_standing (s : State) (f : FrameInputs) : (s.frameCount f).standing = s.standing := by
  obtain ⟨settings, mode⟩ := s.tuner.sample_settings (s.sampleCounter + 1) (inputPair f)
  simp only [State.standing, State.frameCount_keeps, Prod.mk.injEq, true_and, and_true]
  exact ⟨settings, mode⟩

theorem State.frameScan_standing (s : State) (f : FrameInputs) : (s.frameScan f).standing = s.standing := by
  unfold State.frameScan
  split
  · exact State.withCues_standing rfl
  · rfl

theorem State.takeFrame_standing (s : State) (f : FrameInputs) : (s.takeFrame f).standing =
    (s.chain.banks, s.chain.history.drop 1 ++ [inputPair f], s.standing.2.2) := by
  have kept := s.settle_standing
  unfold State.takeFrame
  rw [State.arbitrate_standing, State.frameScan_standing, State.frameCount_standing, State.frameRender_standing, kept]
  simp only [State.standing, Prod.mk.injEq] at kept
  obtain ⟨banks, history, -⟩ := kept
  rw [banks, history]

theorem State.frameCount_sampleCounter (s : State) (f : FrameInputs) : (s.frameCount f).sampleCounter = s.sampleCounter + 1 := rfl

theorem State.takeFrame_blocks (s : State) (f : FrameInputs) :
    (s.takeFrame f).sampleCounter = s.sampleCounter + 1 ∧ (s.takeFrame f).startUp = s.startUp ∧ (s.takeFrame f).store = s.store ∧
    (s.takeFrame f).upload = s.upload := by
  obtain ⟨counter, startUp, -, store, upload, -⟩ := s.settle_keeps
  obtain ⟨counter₁, startUp₁, -, store₁, upload₁, -⟩ := s.settle.frameRender_keeps f
  obtain ⟨startUp₂, -, -, -, -, -, store₂, upload₂, -⟩ := (s.settle.frameRender f).frameCount_keeps f
  obtain ⟨counter₃, startUp₃, -, -, -, -, -, store₃, upload₃, -⟩ := ((s.settle.frameRender f).frameCount f).frameScan_keeps f
  obtain ⟨counter₄, startUp₄, -, -, -, -, store₄, upload₄, -⟩ := (((s.settle.frameRender f).frameCount f).frameScan f).arbitrate_keeps
  unfold State.takeFrame
  exact ⟨by rw [counter₄, counter₃, State.frameCount_sampleCounter, counter₁, counter],
    by rw [startUp₄, startUp₃, startUp₂, startUp₁, startUp], by rw [store₄, store₃, store₂, store₁, store],
    by rw [upload₄, upload₃, upload₂, upload₁, upload]⟩

/-- The sample that a frame sends. -/
def State.frameSample (s : State) : Pair :=
  (s.settle.renderSample (s.settle.sampleCounter.toNat % Config.blockSamples) s.settle.chain.delayedInput).2

theorem State.frameRender_pins (s : State) (f : FrameInputs) :
    let out := s.renderSample (s.sampleCounter.toNat % Config.blockSamples) s.chain.delayedInput
    (s.frameRender f).pins = { out.1.pins with outL := out.2.1, outR := out.2.2, contacts := f.contacts, pedals := f.pedals } := rfl

theorem State.takeFrame_pins (s : State) (f : FrameInputs) : (s.takeFrame f).pins =
    { s.pins with outL := s.frameSample.1, outR := s.frameSample.2, contacts := f.contacts, pedals := f.pedals } := by
  obtain ⟨-, -, pins, -⟩ := s.settle_keeps
  obtain ⟨-, -, pins', -⟩ := s.settle.renderSample_keeps (s.settle.sampleCounter.toNat % Config.blockSamples) s.settle.chain.delayedInput
  obtain ⟨-, pins₂, -⟩ := (s.settle.frameRender f).frameCount_keeps f
  obtain ⟨-, -, pins₃, -⟩ := ((s.settle.frameRender f).frameCount f).frameScan_keeps f
  obtain ⟨-, -, pins₄, -⟩ := (((s.settle.frameRender f).frameCount f).frameScan f).arbitrate_keeps
  unfold State.takeFrame
  rw [pins₄, pins₃, pins₂, State.frameRender_pins, pins', pins, State.frameSample]

theorem State.frameSample_silent {s : State} (context : s.chain.hasContext = false) (handover : s.chain.handover = false) :
    s.frameSample = (0, 0) := by
  have kept := s.settle_standing
  simp only [State.standing, Prod.mk.injEq, context, handover, Bool.or_self, Bool.or_eq_false_iff] at kept
  obtain ⟨-, -, ⟨none, -⟩, -⟩ := kept
  unfold State.frameSample State.renderSample
  rw [none]
  rfl

/-- Settles O10. -/
theorem audioFrameCountsAndKeepsItsInputs : Obligations.AudioFrameCountsAndKeepsItsInputs := by
  unfold Obligations.AudioFrameCountsAndKeepsItsInputs
  refine ⟨State.daout_slots, fun s f g a b contacts pedals => ?_, fun s f on => ⟨s.takeFrame f, exec_audioFrame on f, ?_⟩⟩
  · have inputs : inputPair f = inputPair g := by rw [inputPair, inputPair, ofSlot, ofSlot, ofSlot, ofSlot, a, b]
    exact exec_audioFrame_inputs s inputs contacts pedals
  · obtain ⟨counter, startUp, store, upload⟩ := s.takeFrame_blocks f
    obtain ⟨mem, present⟩ := s.takeFrame_same f
    have standing := s.takeFrame_standing f
    simp only [State.standing, CueUnit.standing, Prod.mk.injEq] at standing
    obtain ⟨banks, history, -, ⟨filters, masks, fifo, watermark, overflow, debounce, hold, scan, frame, discards⟩, settings, mode, lastRecall,
      mask, dropped⟩ := standing
    have pins := s.takeFrame_pins f
    refine ⟨counter, history, by rw [pins], by rw [pins], by rw [pins], fun context handover => ?_, startUp, store, upload, banks, filters,
      masks, fifo, watermark, overflow, debounce, hold, scan, frame, discards, mem, present, settings, mode, lastRecall, mask, dropped⟩
    have silent := State.frameSample_silent context handover
    rw [silent] at pins
    have left : (s.takeFrame f).pins.outL = 0 := by rw [pins]
    have right : (s.takeFrame f).pins.outR = 0 := by rw [pins]
    exact ⟨left, right, State.daout_silent left right⟩

end Sys2Proof.Machine
end

section
/-! CORRECTNESS. A boundary at which no switch ends or begins, and what follows for the beat and for the passthrough (spec/01 1.3,
spec/08 8.1, spec/11 11.1). -/

namespace Sys2Proof.Machine

/-! ## A boundary at which no switch ends or begins -/

/-- No context is armed. -/
def Scene.unarmed (sc : Scene) : Prop := ∀ c beat, sc ≠ .armed c beat

theorem Scene.unarmed_steady : Scene.unarmed .steady := fun _ _ => by rintro ⟨⟩

theorem Scene.unarmed.switchReady {sc : Scene} (h : sc.unarmed) : sc.switchReady = false := by
  cases sc with
  | armed c b => exact absurd rfl (h c b)
  | steady => rfl
  | loading c p => rfl
  | crossfade c q => rfl
  | dip c q => rfl

theorem Scene.unarmed.mapIncoming {sc : Scene} (h : sc.unarmed) (f : Context → Context) : (sc.mapIncoming f).unarmed := by
  cases sc with
  | armed c b => exact absurd rfl (h c b)
  | _ => rintro _ _ ⟨⟩

theorem State.takeBeat_unarmed {s : State} (h : s.scenes.scene.unarmed) :
    s.takeBeat = s.withTempo { s.tempo with beatDue := false } := by
  unfold State.takeBeat
  split
  · dsimp only
    split
    next c b armed => exact absurd armed (h c b)
    next => rfl
  next due =>
    have idle : s.tempo.beatDue = false := Bool.eq_false_iff.2 due
    rw [← idle]
    rfl

theorem State.takeSwitchEnd_early {s : State} (h : s.switchEndDue = false) : s.takeSwitchEnd = s := if_neg (by rw [h]; decide)

theorem State.takeSwitchPoint_unarmed {s : State} (h : s.scenes.scene.unarmed) : s.takeSwitchPoint = s := by
  have early : s.switchDue = false := by
    rw [State.switchDue, State.takeBeat_unarmed h, State.withTempo_scenes, h.switchReady, Bool.and_false]
  exact if_neg (by rw [early]; decide)

theorem State.takeDipIn_early {s : State} (h : s.chain.mixer.outDone = false) : s.takeDipIn = s := if_neg (by rw [h]; decide)

theorem State.levels_chain (s : State) : s.levels.chain.mixer = s.chain.mixer ∧ s.levels.chain.hasContext = s.chain.hasContext ∧
    s.levels.chain.handover = s.chain.handover ∧ s.levels.chain.boundaryTaken = s.chain.boundaryTaken := by
  unfold State.levels
  dsimp only
  split <;> exact ⟨rfl, rfl, rfl, rfl⟩

/-- The end of a block leaves which contexts are rendered. -/
theorem State.closeBlock_chain (s : State) : s.closeBlock.chain.mixer = s.chain.mixer ∧
    s.closeBlock.chain.hasContext = s.chain.hasContext ∧ s.closeBlock.chain.handover = s.chain.handover ∧
    s.closeBlock.chain.boundaryTaken = s.chain.boundaryTaken := by
  unfold State.closeBlock
  split
  · exact ⟨rfl, rfl, rfl, rfl⟩
  · exact State.levels_chain _

/-- The scene manager after the end of a block. -/
theorem State.closeBlock_scenes (s : State) : s.closeBlock.scenes =
    if s.chain.blockClosed then s.scenes
    else { s.scenes with
      playing := s.scenes.playing.mapStages Stage.closeBlock
      scene := s.scenes.scene.mapIncoming fun c => c.mapStages Stage.closeBlock
      trails := s.scenes.trails.map Trail.closeBlock } := by
  unfold State.closeBlock
  split
  · rfl
  · exact (State.levels_keeps _).2.2.2.2.2.1



theorem State.closeBlock_switchEndDue (s : State) : s.closeBlock.switchEndDue = s.switchEndDue := by
  have incoming : s.closeBlock.scenes.scene.incoming.isSome = s.scenes.scene.incoming.isSome := by
    rw [s.closeBlock_scenes]
    split
    · rfl
    · rw [Scene.incoming_mapIncoming, Option.isSome_map]
  rw [State.switchEndDue, State.switchEndDue, s.closeBlock_chain.1, incoming]

theorem State.closeBlock_unarmed {s : State} (h : s.scenes.scene.unarmed) : s.closeBlock.scenes.scene.unarmed := by
  rw [s.closeBlock_scenes]
  split
  · exact h
  · exact h.mapIncoming _

/-- The boundary closes the block that has ended and opens the next. -/
theorem State.takeBoundary_unarmed {s : State} (due : s.boundaryDue = true) (h : s.scenes.scene.unarmed)
    (goesOn : s.switchEndDue = false) (out : s.chain.mixer.outDone = false) :
    s.takeBoundary = (s.withTempo { s.tempo with beatDue := false }).closeBlock.openBlock := by
  have scene : (s.withTempo { s.tempo with beatDue := false }).scenes.scene.unarmed := h
  have ends : (s.withTempo { s.tempo with beatDue := false }).closeBlock.switchEndDue = false := by
    rw [State.closeBlock_switchEndDue]
    exact goesOn
  have phase : (s.withTempo { s.tempo with beatDue := false }).closeBlock.chain.mixer.outDone = false := by
    rw [(State.closeBlock_chain _).1]
    exact out
  rw [State.takeBoundary, if_pos due, State.takeBeat_unarmed h, State.takeSwitchEnd_early ends,
    State.takeSwitchPoint_unarmed (State.closeBlock_unarmed scene), State.takeDipIn_early phase]

theorem State.takeBoundary_early {s : State} (h : s.boundaryDue = false) : s.takeBoundary = s := if_neg (by rw [h]; decide)

theorem State.switchEndDue_steady {s : State} (h : s.scenes.scene = .steady) : s.switchEndDue = false := by
  rw [State.switchEndDue, h]
  exact Bool.and_false _

theorem State.completeLoadIfDue_steady {s : State} (h : s.scenes.scene = .steady) : s.completeLoadIfDue = s := by
  have early : s.loadDue = false := by rw [State.loadDue, h]
  exact if_neg (by rw [early]; decide)

/-! ## The events that scanners, tuner and tempo unit make -/

/-- The scanners' and the tuner's part of settling. -/
def State.scanned (s : State) : State :=
  ((((s.settleSwitches 8).settlePlugs 4).takePedalScan.settlePlugs 4).takeTunerRun).takeTunerLoss

/-- The tempo unit's part of settling. -/
def State.timed (s : State) : State := s.takeBeat.takeClockLock.takeClockUpdate.takeClockLoss

theorem State.settle_eq (s : State) : s.settle =
    (s.scanned.timed.takeDipIn.takeTrailFadeEnds.completeLoadIfDue.takeSwitchEnd.takeBoundary.takeGateHoldEnds.takeTrailOwnEnds).arbitrate :=
  rfl

theorem State.scanned_keeps (s : State) : s.scanned.chain = s.chain ∧ s.scanned.latches = s.latches ∧ s.scanned.scenes = s.scenes ∧
    s.scanned.tempo = s.tempo ∧ s.scanned.tuner.mode = s.tuner.mode := by
  have standing : s.scanned.standing = s.standing := by
    rw [State.scanned, State.takeTunerLoss_standing, State.takeTunerRun_standing, State.settlePlugs_standing,
      State.takePedalScan_standing, State.settlePlugs_standing, State.settleSwitches_standing]
  simp only [State.standing, Prod.mk.injEq] at standing
  obtain ⟨-, -, -, -, -, mode, -⟩ := standing
  refine ⟨?_, ?_, ?_, ?_, mode⟩
  all_goals
    simp only [State.scanned, State.takeTunerLoss_keeps, State.takeTunerRun_keeps, State.settlePlugs_keeps, State.takePedalScan_keeps,
      State.settleSwitches_keeps]

/-- No tempo event is due. -/
def Tempo.quiet (t : Tempo) : Prop := t.beatDue = false ∧ t.clockCount < 8 ∧ t.loss ≠ some 0

theorem State.timed_quiet {s : State} (h : s.tempo.quiet) : s.timed = s := by
  obtain ⟨beat, count, loss⟩ := h
  have taken : s.takeBeat = s := if_neg (by rw [beat]; decide)
  have lock : s.takeClockLock = s := if_neg (by simp [Tempo.lockDue, count.ne])
  have update : s.takeClockUpdate = s := if_neg (by simp [Tempo.updateDue, count.ne])
  have expire : s.takeClockLoss = s := if_neg (by simp [Tempo.lossDue, loss])
  rw [State.timed, taken, lock, update, expire]

theorem State.takeTrailFadeEnd_scene (s : State) (l : Fin 4) : (s.takeTrailFadeEnd l).scenes.scene = s.scenes.scene := by
  unfold State.takeTrailFadeEnd
  split <;> rfl

theorem State.takeTrailFadeEnds_scene (s : State) : s.takeTrailFadeEnds.scenes.scene = s.scenes.scene := by
  simp [State.takeTrailFadeEnds, List.finRange_succ, State.takeTrailFadeEnd_scene]

/-! ## The beat (R147, R153) -/

/-- A boundary in STEADY takes a beat event that waits, and nothing else of the tempo unit. -/
theorem State.takeBoundary_tempo {s : State} (scene : s.scenes.scene = .steady) (quiet : s.tempo.beatDue = false) :
    s.takeBoundary.tempo = s.tempo := by
  have taken : s.takeBeat = s := if_neg (by rw [quiet]; decide)
  unfold State.takeBoundary
  split
  · have ends := s.closeBlock_switchEndDue.trans (State.switchEndDue_steady scene)
    have unarmed : s.scenes.scene.unarmed := by
      rw [scene]
      exact Scene.unarmed_steady
    rw [taken, State.takeSwitchEnd_early ends, State.takeSwitchPoint_unarmed (State.closeBlock_unarmed unarmed)]
    simp only [State.openBlock_keeps, State.takeDipIn_keeps, State.closeBlock_keeps]
  · rfl

theorem State.settle_tempo {s : State} (scene : s.scenes.scene = .steady) (quiet : s.tempo.quiet) : s.settle.tempo = s.tempo := by
  obtain ⟨-, -, scenes, tempo, -⟩ := s.scanned_keeps
  rw [← scenes] at scene
  rw [← tempo] at quiet ⊢
  rw [State.settle_eq, State.timed_quiet quiet]
  generalize s.scanned = s at scene quiet ⊢
  have steady : s.takeDipIn.takeTrailFadeEnds.scenes.scene = .steady := by
    rw [State.takeTrailFadeEnds_scene, (State.takeDipIn_keeps s).2.2.2.2.2.1, scene]
  have same : s.takeDipIn.takeTrailFadeEnds.tempo = s.tempo := by
    simp only [State.takeTrailFadeEnds_keeps, State.takeDipIn_keeps]
  rw [State.completeLoadIfDue_steady steady, State.takeSwitchEnd_early (State.switchEndDue_steady steady)]
  simp only [State.arbitrate_keeps, State.takeTrailOwnEnds_keeps, State.takeGateHoldEnds_keeps]
  rw [State.takeBoundary_tempo steady (by rw [same]; exact quiet.1), same]

theorem State.takeFrame_tempo {s : State} (scene : s.scenes.scene = .steady) (quiet : s.tempo.quiet) (f : FrameInputs) :
    (s.takeFrame f).tempo = s.tempo.advance := by
  have count (s : State) : (s.frameCount f).tempo = s.tempo.advance := rfl
  obtain ⟨-, -, -, -, -, -, tempo, -⟩ := s.settle.frameRender_keeps f
  obtain ⟨-, -, -, -, -, -, -, -, -, tempo', -⟩ := ((s.settle.frameRender f).frameCount f).frameScan_keeps f
  obtain ⟨-, -, -, -, -, -, -, -, -, tempo'', -⟩ := (((s.settle.frameRender f).frameCount f).frameScan f).arbitrate_keeps
  rw [State.takeFrame, tempo'', tempo', count, tempo, State.settle_tempo scene quiet]

theorem Tempo.advance_position {t : Tempo} (h : t.beatDue = false) :
    if t.restart = true ∨ t.beat ≤ t.position + 1 then t.advance.position = 0 ∧ t.advance.beatDue = true
    else t.advance.position = t.position + 1 ∧ t.advance.beatDue = false := by
  by_cases wraps : t.restart = true ∨ t.beat ≤ t.position + 1
  · have due : (t.restart || decide (t.beat ≤ t.position + 1)) = true := by simpa using wraps
    simp [Tempo.advance, wraps, due]
  · have due : (t.restart || decide (t.beat ≤ t.position + 1)) = false := by simpa using wraps
    simp [Tempo.advance, wraps, due, h]

/-- Settles O11. -/
theorem audioFrameMovesTheBeat : Obligations.AudioFrameMovesTheBeat := by
  unfold Obligations.AudioFrameMovesTheBeat
  intro s f on scene beat count loss
  refine ⟨s.takeFrame f, exec_audioFrame on f, ?_⟩
  rw [State.takeFrame_tempo scene ⟨beat, count, loss⟩ f]
  exact ⟨rfl, rfl, Tempo.advance_position beat, rfl, rfl, rfl, rfl, rfl⟩

end Sys2Proof.Machine
end

section
/-! CORRECTNESS. A passthrough context is heard 48 frames later (spec/11 11.1). -/

namespace Sys2Proof.Machine

/-- An OUTPUT stage at unity, fully engaged, that stays engaged while T is not set. -/
structure Stage.Unity (st : Stage) : Prop where
  kind : st.kind = .output
  engage : st.engage = 0x55
  default : st.default = false
  params : st.params = [4096, 4096]
  current : st.current = [4096, 4096]
  previous : st.previous = [4096, 4096]
  m : st.m = 256
  target : st.target = true

/-- A context of one such stage plays alone, from IN-A. -/
structure State.Unity (s : State) : Prop where
  context : s.chain.hasContext = true
  phase : s.chain.mixer.phase = .single
  scene : s.scenes.scene = .steady
  trails : s.scenes.trails = []
  mode : s.tuner.mode ≠ .mute
  input : s.scenes.playing.input = .a
  stages : ∃ st, s.scenes.playing.stages = [st] ∧ st.Unity ∧ s.latches[st.latch].value = false

/-! ## One sample -/

theorem Stage.Unity.render {st : Stage} (h : st.Unity) {x : Int} (ok : sampleOk x) (banks : Vector Table 8) (k : Nat) (p : Port) :
    (st.render banks k p x).pair = (x, x) := by
  have stays : st.stepRamp = { st with m := 256 } := by
    have moved : st.stepRamp.m = 256 := by rw [Stage.stepRamp_m, Stage.nextM, h.target, h.m]; rfl
    rw [← moved]
    exact Stage.stepRamp_stays fun leaves => absurd (h.m.symm.trans leaves.1) (by decide)
  have gain : rampAt 4096 4096 k = 4096 := by simp [rampAt]
  have full : scaleAt x 256 = x := by
    unfold scaleAt
    omega
  unfold Stage.render
  dsimp only
  rw [stays]
  simp [h.kind, outputPair, Stage.rampedAt, h.previous, h.current, gain, round12_mul_unity, sat_of_sampleOk ok, full]

theorem State.Unity.sample {s : State} (h : s.Unity) (k : Nat) {ab : Pair} (ok : sampleOk ab.1) : (s.renderSample k ab).2 = (ab.1, ab.1) := by
  obtain ⟨st, stages, unity, -⟩ := h.stages
  have pair : (s.scenes.playing.render s.chain.banks k { delay := s.delay, readers := s.readers } ab).pair = (ab.1, ab.1) := by
    simp only [Context.render, stages, renderStages, h.input, InputSel.take, unity.kind, if_true]
    exact unity.render ok _ _ _
  obtain ⟨sums, -⟩ := (State.renderSample_sums (k := k) (ab := ab) h.context).1 h.phase
  rw [sums, h.trails, pair]
  have whole : max (-8388608) (min 8388607 (ab.1 + 0)) = ab.1 := by
    rw [add_zero]
    exact sat_of_sampleOk ok
  simp only [renderTrails, whole]

/-! ## What settles before the frame -/

theorem State.Unity.of_eq {s t : State} (h : s.Unity) (chain : t.chain = s.chain) (latches : t.latches = s.latches)
    (scenes : t.scenes = s.scenes) (mode : t.tuner.mode = s.tuner.mode) : t.Unity where
  context := by rw [chain, h.context]
  phase := by rw [chain, h.phase]
  scene := by rw [scenes, h.scene]
  trails := by rw [scenes, h.trails]
  mode := by rw [mode]; exact h.mode
  input := by rw [scenes, h.input]
  stages := by rw [scenes, latches]; exact h.stages

theorem Stage.closeBlock_unity {st : Stage} (h : st.Unity) : st.closeBlock.Unity ∧ st.closeBlock.latch = st.latch := by
  obtain ⟨kind, engage, default, params, current, previous, m, target⟩ := h
  unfold Stage.closeBlock
  split <;> exact ⟨⟨kind, engage, default, params, current, previous, m, target⟩, rfl⟩

theorem Stage.holdEnd_unity {st : Stage} (h : st.Unity) : st.holdEnd.Unity ∧ st.holdEnd.latch = st.latch := by
  obtain ⟨kind, engage, default, params, current, previous, m, target⟩ := h
  unfold Stage.holdEnd
  split <;> exact ⟨⟨kind, engage, default, params, current, previous, m, target⟩, rfl⟩

theorem Stage.openBlock_unity {st : Stage} {latches : Vector Latch 8} (h : st.Unity) (latch : latches[st.latch].value = false) (beat : Nat) :
    (st.openBlock true latches false beat).Unity ∧ (st.openBlock true latches false beat).latch = st.latch := by
  obtain ⟨kind, engage, default, params, current, previous, m, -⟩ := h
  have target : Stage.engaged (st.takeParams true) latches false = true := by
    have index : engageIndex st.default latches[st.latch].value false = 0 := by rw [default, latch]; rfl
    simp only [Stage.engaged, Stage.takeParams, index, engage]
    decide
  unfold Stage.openBlock
  simp only [Bool.not_true, Bool.false_eq_true, if_false]
  split <;> exact ⟨⟨kind, engage, default, params, params, current, m, target⟩, rfl⟩

/-- A change of the one stage that keeps it at unity. -/
theorem State.Unity.mapStages {s t : State} (h : s.Unity) {f : Stage → Stage}
    (keeps : ∀ st : Stage, st.Unity → s.latches[st.latch].value = false → (f st).Unity ∧ (f st).latch = st.latch)
    (context : t.chain.hasContext = true) (mixer : t.chain.mixer = s.chain.mixer) (latches : t.latches = s.latches)
    (scene : t.scenes.scene = .steady) (trails : t.scenes.trails = []) (mode : t.tuner.mode = s.tuner.mode)
    (playing : t.scenes.playing = s.scenes.playing.mapStages f) : t.Unity where
  context := context
  phase := by rw [mixer, h.phase]
  scene := scene
  trails := trails
  mode := by rw [mode]; exact h.mode
  input := by rw [playing]; exact h.input
  stages := by
    obtain ⟨st, stages, unity, latch⟩ := h.stages
    obtain ⟨unity', same⟩ := keeps st unity latch
    refine ⟨f st, ?_, unity', ?_⟩
    · rw [playing, Context.mapStages, stages]
      rfl
    · simp only [latches, same]
      exact latch

theorem State.Unity.closeBlock {s : State} (h : s.Unity) : s.closeBlock.Unity := by
  obtain ⟨mixer, context, -⟩ := s.closeBlock_chain
  obtain ⟨-, -, -, latches, -, -, -, -, -, tuner, -⟩ := s.closeBlock_keeps
  by_cases closed : s.chain.blockClosed = true
  · have same : s.closeBlock = s := if_pos closed
    rw [same]
    exact h
  · have scenes := s.closeBlock_scenes
    rw [if_neg closed] at scenes
    refine h.mapStages (fun st unity _ => Stage.closeBlock_unity unity) (context.trans h.context) mixer latches ?_ ?_ (by rw [tuner]) ?_
    · rw [scenes, h.scene]
      rfl
    · rw [scenes, h.trails]
      rfl
    · rw [scenes]

theorem State.Unity.openBlock {s : State} (h : s.Unity) : s.openBlock.Unity := by
  obtain ⟨-, -, -, latches, -, -, -, -, tuner, -⟩ := s.openBlock_keeps
  have muting : s.tuner.muting = false := by simpa [Tuner.muting] using h.mode
  have renders : s.chain.mixer.phase.rendersPlaying = true := by rw [h.phase]; rfl
  refine h.mapStages (fun st unity latch => Stage.openBlock_unity unity latch s.tempo.beat) ?_ rfl latches ?_ ?_ (by rw [tuner]) ?_
  · simp [State.openBlock, h.context]
  · simp [State.openBlock, h.scene, Scene.mapIncoming]
  · simp [State.openBlock, h.trails]
  · simp [State.openBlock, Chain.blockRendersPlaying, h.context, renders, muting]

theorem State.Unity.takeBoundary {s : State} (h : s.Unity) : s.takeBoundary.Unity := by
  have unarmed : s.scenes.scene.unarmed := by
    rw [h.scene]
    exact Scene.unarmed_steady
  have out : s.chain.mixer.outDone = false := by simp [Mixer.outDone, h.phase]
  by_cases due : s.boundaryDue = true
  · rw [State.takeBoundary_unarmed due unarmed (State.switchEndDue_steady h.scene) out]
    have taken : (s.withTempo { s.tempo with beatDue := false }).Unity := h.of_eq rfl rfl rfl rfl
    exact taken.closeBlock.openBlock
  · rw [State.takeBoundary_early (Bool.eq_false_iff.2 due)]
    exact h

theorem State.Unity.timed {s : State} (h : s.Unity) : s.timed.Unity := by
  have unarmed : s.scenes.scene.unarmed := by
    rw [h.scene]
    exact Scene.unarmed_steady
  have taken : s.takeBeat.Unity := by
    rw [State.takeBeat_unarmed unarmed]
    exact h.of_eq rfl rfl rfl rfl
  unfold State.timed
  refine taken.of_eq ?_ ?_ ?_ ?_ <;>
    simp only [State.takeClockLoss_keeps, State.takeClockUpdate_keeps, State.takeClockLock_keeps]

theorem State.Unity.trailEnds {s : State} (h : s.Unity) : s.takeTrailFadeEnds = s ∧ s.takeTrailOwnEnds = s := by
  have fade (l : Fin 4) : s.takeTrailFadeEnd l = s := if_neg (by rw [h.trails]; exact Bool.false_ne_true)
  have own (l : Fin 4) : s.takeTrailOwnEnd l = s := if_neg (by rw [h.trails]; exact Bool.false_ne_true)
  simp [State.takeTrailFadeEnds, State.takeTrailOwnEnds, List.finRange_succ, fade, own]

theorem State.Unity.settle {s : State} (h : s.Unity) : s.settle.Unity := by
  obtain ⟨chain, latches, scenes, -, mode⟩ := s.scanned_keeps
  have timed := (h.of_eq chain latches scenes mode).timed
  rw [State.settle_eq]
  generalize s.scanned.timed = s at timed ⊢
  have out : s.chain.mixer.outDone = false := by simp [Mixer.outDone, timed.phase]
  rw [State.takeDipIn_early out, timed.trailEnds.1, State.completeLoadIfDue_steady timed.scene,
    State.takeSwitchEnd_early (State.switchEndDue_steady timed.scene)]
  have ended : s.takeBoundary.takeGateHoldEnds.Unity :=
    timed.takeBoundary.mapStages (fun st unity _ => Stage.holdEnd_unity unity) timed.takeBoundary.context rfl rfl
      (by rw [State.takeGateHoldEnds, State.withScenes_scenes, timed.takeBoundary.scene]; rfl) timed.takeBoundary.trails rfl rfl
  rw [ended.trailEnds.2]
  exact ended.of_eq rfl rfl rfl rfl

theorem State.Unity.frameSample {s : State} (h : s.Unity) (ok : sampleOk s.chain.delayedInput.1) :
    s.frameSample = (s.chain.delayedInput.1, s.chain.delayedInput.1) := by
  have kept := s.settle_standing
  simp only [State.standing, Prod.mk.injEq] at kept
  obtain ⟨-, history, -⟩ := kept
  have same : s.settle.chain.delayedInput = s.chain.delayedInput := by rw [Chain.delayedInput, history, Chain.delayedInput]
  rw [State.frameSample, same]
  exact h.settle.sample _ ok

/-- Settles O12. -/
theorem passthroughIsHeard48FramesLater : Obligations.PassthroughIsHeard48FramesLater := by
  unfold Obligations.PassthroughIsHeard48FramesLater
  intro s f st on context phase scene trails mode input stages kind engage default params current previous m target latch _ ok
  have unity : s.Unity := ⟨context, phase, scene, trails, mode, input, st, stages,
    ⟨kind, engage, default, params, current, previous, m, target⟩, latch⟩
  have pins := s.takeFrame_pins f
  rw [unity.frameSample ok] at pins
  refine ⟨s.takeFrame f, exec_audioFrame on f, by rw [pins]; rfl, by rw [pins]; rfl, ?_, ?_⟩
  · rw [← toSlot_toInt ok.1 ok.2]
    simp only [State.daout, pins]
    rfl
  · rw [← toSlot_toInt ok.1 ok.2]
    simp only [State.daout, pins]
    rfl

end Sys2Proof.Machine
end

section
/-! CORRECTNESS. BLOCK_BOUNDARY: what it makes of stages, contexts and lines, and the LEVELS report (spec/01 1.3, 1.11, spec/03 3.4). -/

namespace Sys2Proof.Machine

/-! ## A stage (R5, R15, R16, R32, R42) -/

theorem divisionRatio_eq (n : Nat) :
    divisionRatio n = [(1, 1), (3, 4), (2, 3), (1, 2), (3, 8), (1, 3), (1, 4), (1, 6)].getD n (1, 6) := by
  rcases Nat.lt_or_ge n 8 with h | h
  · interval_cases n <;> rfl
  · obtain ⟨k, rfl⟩ := Nat.exists_eq_add_of_le' h
    rw [List.getD_eq_default _ _ h]
    rfl

/-- What the boundary of s makes of a stage: its block is closed, unless that was done, and the next opened. -/
def State.openedStage (s : State) (rendered : Bool) (st : Stage) : Stage :=
  (if s.chain.blockClosed then st else st.closeBlock).openBlock rendered s.latches s.tuner.muting s.tempo.beat

theorem Stage.engaged_eq (st : Stage) (latches : Vector Latch 8) (t : Tuner) :
    st.engaged latches t.muting = st.engage.getLsbD ((if st.default then 4 else 0) + (if latches[st.latch].value then 2 else 0) +
      (if t.mode = .mute then 1 else 0)) := by
  have muting : t.muting = decide (t.mode = .mute) := rfl
  simp only [Stage.engaged, engageIndex, muting, decide_eq_true_eq]

theorem stageOpened_openedStage (s : State) (rendered : Bool) (st : Stage) : stageOpened s rendered st (s.openedStage rendered st) := by
  have engaged := Stage.engaged_eq st s.latches s.tuner
  rcases st with ⟨kind, engage, latch, default, params, current, previous, target, m, run⟩
  dsimp only at engaged
  unfold stageOpened State.openedStage
  rw [← engaged]
  cases run with
  | gate g =>
    cases rendered <;> cases s.chain.blockClosed <;> exact ⟨rfl, rfl, rfl, rfl⟩
  | delay dr =>
    simp only [← divisionRatio_eq]
    cases rendered <;> cases s.chain.blockClosed <;> exact ⟨rfl, rfl, rfl, rfl⟩
  | biquad b => cases rendered <;> cases s.chain.blockClosed <;> exact ⟨rfl, rfl, rfl, rfl⟩
  | none => cases rendered <;> cases s.chain.blockClosed <;> exact ⟨rfl, rfl, rfl, rfl⟩

/-! ## The lines whose offset a boundary changes (R51) -/

/-- A stage of the list moves its offset on line l. -/
def offsetMoves (g : Stage → Stage) (l : Fin 4) (olds : List Stage) : Prop :=
  ∃ st ∈ olds, ∃ a l' b, st.lineOffset = some (l, a) ∧ (g st).lineOffset = some (l', b) ∧ a ≠ b

/-- A line with its read FIFO empty. -/
def Line.refetched (ln : Line) : Line := { ln with readFifo := [] }

theorem DelayMemory.refetch_lines (d : DelayMemory) (l l' : Fin 4) :
    (d.refetch l').lines[l] = if l' = l then d.lines[l].refetched else d.lines[l] := by
  simp only [DelayMemory.refetch, DelayMemory.setLine, Vector.getElem_set_fin]
  split
  next h => rw [h]; rfl
  next => rfl

theorem refetchChanged_cons (d : DelayMemory) (g : Stage → Stage) (st : Stage) (rest : List Stage) (l : Fin 4) :
    ∃ d', refetchChanged d (st :: rest) ((st :: rest).map g) = refetchChanged d' rest (rest.map g) ∧
      ((offsetMoves g l [st] ∧ d'.lines[l] = d.lines[l].refetched) ∨ (¬offsetMoves g l [st] ∧ d'.lines[l] = d.lines[l])) := by
  have moves : offsetMoves g l [st] ↔ ∃ a l' b, st.lineOffset = some (l, a) ∧ (g st).lineOffset = some (l', b) ∧ a ≠ b := by
    simp [offsetMoves]
  refine ⟨_, rfl, ?_⟩
  rw [moves]
  cases hold : st.lineOffset with
  | none => exact .inr ⟨fun ⟨_, _, _, h, _⟩ => absurd h (by simp), rfl⟩
  | some old =>
    obtain ⟨l₁, a⟩ := old
    cases hnew : (g st).lineOffset with
    | none => exact .inr ⟨fun ⟨_, _, _, _, h, _⟩ => absurd h (by simp), rfl⟩
    | some new =>
      obtain ⟨l₂, b⟩ := new
      by_cases same : a = b
      · simp [same]
      · simp only [same, if_false, DelayMemory.refetch_lines]
        by_cases line : l₁ = l
        · simp [line, same]
        · simp [line]

theorem refetchChanged_lines (g : Stage → Stage) (l : Fin 4) (olds : List Stage) (d : DelayMemory) :
    (offsetMoves g l olds ∧ (refetchChanged d olds (olds.map g)).lines[l] = d.lines[l].refetched) ∨
    (¬offsetMoves g l olds ∧ (refetchChanged d olds (olds.map g)).lines[l] = d.lines[l]) := by
  induction olds generalizing d with
  | nil => exact .inr ⟨fun ⟨_, h, _⟩ => absurd h List.not_mem_nil, rfl⟩
  | cons st rest ih =>
    have either : offsetMoves g l (st :: rest) ↔ offsetMoves g l [st] ∨ offsetMoves g l rest := by
      simp [offsetMoves]
    obtain ⟨d', eq, first⟩ := refetchChanged_cons d g st rest l
    rw [eq, either]
    rcases first with ⟨moves, line⟩ | ⟨stays, line⟩ <;> rcases ih d' with ⟨moves', line'⟩ | ⟨stays', line'⟩
    · exact .inl ⟨.inl moves, by rw [line', line]; rfl⟩
    · exact .inl ⟨.inl moves, by rw [line', line]⟩
    · exact .inl ⟨.inr moves', by rw [line', line]⟩
    · exact .inr ⟨fun h => h.elim stays stays', by rw [line', line]⟩

/-! ## Contexts and their lines -/

/-- The start of a block with the contexts written by name. -/
theorem State.openBlock_scenes (s : State) :
    let c : Chain := { s.chain with hasContext := s.chain.hasContext || s.chain.handover }
    let opens (rendered : Bool) (st : Stage) : Stage := st.openBlock rendered s.latches s.tuner.muting s.tempo.beat
    s.openBlock.scenes = { s.scenes with
      playing := s.scenes.playing.mapStages (opens c.blockRendersPlaying)
      scene := s.scenes.scene.mapIncoming fun c' => c'.mapStages (opens c.blockRendersIncoming)
      trails := s.scenes.trails.map Trail.openBlock } := rfl

/-- A line at the start of a block: its read FIFO is emptied exactly when a stage moves its offset. -/
theorem State.openBlock_lines (s : State) (l : Fin 4) :
    let c : Chain := { s.chain with hasContext := s.chain.hasContext || s.chain.handover }
    let opens (rendered : Bool) (st : Stage) : Stage := st.openBlock rendered s.latches s.tuner.muting s.tempo.beat
    let moves : Prop := offsetMoves (opens c.blockRendersPlaying) l s.scenes.playing.stages ∨
      ∃ b, s.scenes.scene.built = some b ∧ offsetMoves (opens c.blockRendersIncoming) l b.stages
    (moves ∧ s.openBlock.delay.lines[l] = s.delay.lines[l].refetched) ∨ (¬moves ∧ s.openBlock.delay.lines[l] = s.delay.lines[l]) := by
  intro c opens moves
  have first := refetchChanged_lines (opens c.blockRendersPlaying) l s.scenes.playing.stages s.delay
  cases hb : s.scenes.scene.built with
  | none =>
    have delay : s.openBlock.delay.lines =
        (refetchChanged s.delay s.scenes.playing.stages (s.scenes.playing.stages.map (opens c.blockRendersPlaying))).lines := by
      simp only [State.openBlock, State.arbitrate_lines, State.withDelay_delay, Scene.built_mapIncoming, State.withChain_scenes, hb]
      rfl
    have moves_iff : moves ↔ offsetMoves (opens c.blockRendersPlaying) l s.scenes.playing.stages := by
      simp [moves, hb]
    simp only [delay, moves_iff]
    exact first
  | some b =>
    have delay : s.openBlock.delay.lines =
        (refetchChanged (refetchChanged s.delay s.scenes.playing.stages (s.scenes.playing.stages.map (opens c.blockRendersPlaying)))
          b.stages (b.stages.map (opens c.blockRendersIncoming))).lines := by
      simp only [State.openBlock, State.arbitrate_lines, State.withDelay_delay, Scene.built_mapIncoming, State.withChain_scenes, hb]
      rfl
    have moves_iff : moves ↔ offsetMoves (opens c.blockRendersPlaying) l s.scenes.playing.stages ∨
        offsetMoves (opens c.blockRendersIncoming) l b.stages := by
      simp [moves, hb]
    have second := refetchChanged_lines (opens c.blockRendersIncoming) l b.stages
      (refetchChanged s.delay s.scenes.playing.stages (s.scenes.playing.stages.map (opens c.blockRendersPlaying)))
    simp only [delay, moves_iff]
    rcases first with ⟨moved, line⟩ | ⟨stayed, line⟩ <;> rcases second with ⟨moved', line'⟩ | ⟨stayed', line'⟩
    · exact .inl ⟨.inl moved, by rw [line', line]; rfl⟩
    · exact .inl ⟨.inl moved, by rw [line', line]⟩
    · exact .inl ⟨.inr moved', by rw [line', line]⟩
    · exact .inr ⟨fun h => h.elim stayed stayed', by rw [line', line]⟩

end Sys2Proof.Machine
end

section
/-! CORRECTNESS. BLOCK_BOUNDARY, from the stages and lines to the whole part (spec/01 1.3, 1.10, 1.11). -/

namespace Sys2Proof.Machine

/-! ## Contexts over a boundary -/

theorem Context.mapStages_mapStages (c : Context) (f g : Stage → Stage) : (c.mapStages f).mapStages g = c.mapStages fun st => g (f st) := by
  simp [Context.mapStages, Function.comp_def]

theorem Context.mapStages_ite (c : Context) (b : Bool) (f : Stage → Stage) :
    (if b then c else c.mapStages f) = c.mapStages fun st => if b then st else f st := by
  cases b
  · rfl
  · simp [Context.mapStages]

theorem Scene.mapIncoming_mapIncoming (sc : Scene) (f g : Context → Context) :
    (sc.mapIncoming f).mapIncoming g = sc.mapIncoming fun c => g (f c) := by
  cases sc <;> rfl

theorem Scene.mapIncoming_ite (sc : Scene) (b : Bool) (f : Context → Context) :
    (if b then sc else sc.mapIncoming f) = sc.mapIncoming fun c => if b then c else f c := by
  cases b
  · rfl
  · cases sc <;> rfl

theorem Stage.closeBlock_lineOffset (st : Stage) : st.closeBlock.lineOffset = st.lineOffset := by
  unfold Stage.closeBlock
  split
  next h => simp [Stage.lineOffset, h]
  next => rfl

/-- The part at a boundary that it takes: the beat event handed over, the block closed. -/
def State.closedForBoundary (s : State) : State := (s.withTempo { s.tempo with beatDue := false }).closeBlock

/-- The chain from which the boundary tells which contexts the next block renders. -/
def State.openedChain (s : State) : Chain := { s.chain with hasContext := s.chain.hasContext || s.chain.handover }

theorem State.closedForBoundary_renders (s : State) :
    s.closedForBoundary.openedChain.blockRendersPlaying = s.openedChain.blockRendersPlaying ∧
    s.closedForBoundary.openedChain.blockRendersIncoming = s.openedChain.blockRendersIncoming := by
  obtain ⟨mixer, context, handover, -⟩ := (s.withTempo { s.tempo with beatDue := false }).closeBlock_chain
  unfold State.closedForBoundary State.openedChain Chain.blockRendersPlaying Chain.blockRendersIncoming
  constructor <;> simp only [mixer, context, handover, State.withTempo_chain]

theorem State.closedForBoundary_keeps (s : State) : s.closedForBoundary.latches = s.latches ∧ s.closedForBoundary.tuner = s.tuner ∧
    s.closedForBoundary.tempo = { s.tempo with beatDue := false } ∧ s.closedForBoundary.delay = s.delay := by
  simp [State.closedForBoundary, State.closeBlock_keeps]

theorem State.closedForBoundary_playing (s : State) : s.closedForBoundary.scenes.playing =
    s.scenes.playing.mapStages fun st => if s.chain.blockClosed then st else st.closeBlock := by
  rw [← Context.mapStages_ite, State.closedForBoundary, State.closeBlock_scenes]
  cases h : s.chain.blockClosed <;> simp [h]

theorem State.closedForBoundary_scene (s : State) : s.closedForBoundary.scenes.scene =
    s.scenes.scene.mapIncoming fun c => c.mapStages fun st => if s.chain.blockClosed then st else st.closeBlock := by
  simp only [← Context.mapStages_ite]
  rw [← Scene.mapIncoming_ite, State.closedForBoundary, State.closeBlock_scenes]
  cases h : s.chain.blockClosed <;> simp [h]

/-- Whether the block after the boundary renders the playing context; the incoming one. -/
def State.rendersPlaying (s : State) : Bool := s.openedChain.blockRendersPlaying
def State.rendersIncoming (s : State) : Bool := s.openedChain.blockRendersIncoming

theorem State.boundary_playing (s : State) :
    s.closedForBoundary.openBlock.scenes.playing = s.scenes.playing.mapStages (s.openedStage s.rendersPlaying) := by
  obtain ⟨latches, tuner, tempo, -⟩ := s.closedForBoundary_keeps
  obtain ⟨renders, -⟩ := s.closedForBoundary_renders
  have opened := congrArg SceneManager.playing s.closedForBoundary.openBlock_scenes
  rw [opened]
  dsimp only
  rw [s.closedForBoundary_playing, Context.mapStages_mapStages, latches, tuner, tempo]
  exact congrArg (fun r => s.scenes.playing.mapStages (s.openedStage r)) renders

theorem State.boundary_scene (s : State) : s.closedForBoundary.openBlock.scenes.scene =
    s.scenes.scene.mapIncoming fun c => c.mapStages (s.openedStage s.rendersIncoming) := by
  obtain ⟨latches, tuner, tempo, -⟩ := s.closedForBoundary_keeps
  obtain ⟨-, renders⟩ := s.closedForBoundary_renders
  have opened := congrArg SceneManager.scene s.closedForBoundary.openBlock_scenes
  rw [opened]
  dsimp only
  rw [s.closedForBoundary_scene, Scene.mapIncoming_mapIncoming, latches, tuner, tempo]
  simp only [Context.mapStages_mapStages]
  exact congrArg (fun r => s.scenes.scene.mapIncoming fun c => c.mapStages (s.openedStage r)) renders

/-- Some stage of the playing or of the built incoming context moves its offset on line l at the boundary. -/
def State.movesOffset (s : State) (l : Fin 4) : Prop :=
  offsetMoves (s.openedStage s.rendersPlaying) l s.scenes.playing.stages ∨
    ∃ b, s.scenes.scene.built = some b ∧ offsetMoves (s.openedStage s.rendersIncoming) l b.stages

theorem offsetMoves_map {f g : Stage → Stage} (h : ∀ st, (f st).lineOffset = st.lineOffset) (l : Fin 4) (olds : List Stage) :
    offsetMoves g l (olds.map f) ↔ offsetMoves (fun st => g (f st)) l olds := by
  simp [offsetMoves, h]

theorem State.boundary_lines (s : State) (l : Fin 4) :
    (s.movesOffset l ∧ s.closedForBoundary.openBlock.delay.lines[l] = s.delay.lines[l].refetched) ∨
    (¬s.movesOffset l ∧ s.closedForBoundary.openBlock.delay.lines[l] = s.delay.lines[l]) := by
  have lines := s.closedForBoundary.openBlock_lines l
  obtain ⟨latches, tuner, tempo, delay⟩ := s.closedForBoundary_keeps
  obtain ⟨playing, incoming⟩ := s.closedForBoundary_renders
  have kept (st : Stage) : (if s.chain.blockClosed then st else st.closeBlock).lineOffset = st.lineOffset := by
    split
    · rfl
    · exact st.closeBlock_lineOffset
  simp only [State.openedChain] at playing incoming
  simp only [latches, tuner, tempo, delay, s.closedForBoundary_playing, s.closedForBoundary_scene, Scene.built_mapIncoming, playing,
    incoming] at lines
  simp only [Context.mapStages, Option.map_eq_some_iff, offsetMoves_map kept] at lines
  have moves : s.movesOffset l ↔ offsetMoves (s.openedStage s.rendersPlaying) l s.scenes.playing.stages ∨
      ∃ b, (∃ a, s.scenes.scene.built = some a ∧ { a with
          stages := a.stages.map fun st => if s.chain.blockClosed then st else st.closeBlock } = b) ∧
        offsetMoves (fun st => st.openBlock s.rendersIncoming s.latches s.tuner.muting s.tempo.beat) l b.stages := by
    constructor
    · rintro (h | ⟨b, hb, h⟩)
      · exact .inl h
      · exact .inr ⟨_, ⟨b, hb, rfl⟩, (offsetMoves_map kept l b.stages).2 h⟩
    · rintro (h | ⟨_, ⟨b, hb, rfl⟩, h⟩)
      · exact .inl h
      · exact .inr ⟨b, hb, (offsetMoves_map kept l b.stages).1 h⟩
  rw [moves]
  exact lines

end Sys2Proof.Machine
end

section
/-! CORRECTNESS. What BLOCK_BOUNDARY does, in STEADY and during a switch, with the LEVELS report (spec/01 1.3, 1.10, 1.11). -/

namespace Sys2Proof.Machine

/-! ## Lines -/

theorem State.movesOffset_holder {s : State} (ok : s.linesOk) {l : Fin 4} (h : s.movesOffset l) :
    (∃ n st o l' o', s.scenes.playing.stages[n]? = some st ∧ st.lineOffset = some (l, o) ∧
      (s.openedStage s.rendersPlaying st).lineOffset = some (l', o') ∧ o ≠ o' ∧ s.delay.lines[l].holder = .playing n) ∨
    (∃ n c st o l' o', s.scenes.scene.built = some c ∧ c.stages[n]? = some st ∧ st.lineOffset = some (l, o) ∧
      (s.openedStage s.rendersIncoming st).lineOffset = some (l', o') ∧ o ≠ o' ∧ s.delay.lines[l].holder = .incoming n) := by
  obtain ⟨playing, incoming, -⟩ := ok
  rcases h with ⟨st, mem, a, l', b, old, new, ne⟩ | ⟨c, built, st, mem, a, l', b, old, new, ne⟩
  · obtain ⟨n, hn⟩ := List.mem_iff_getElem?.1 mem
    exact .inl ⟨n, st, a, l', b, hn, old, new, ne, (playing l n).2 ⟨st, a, hn, old⟩⟩
  · obtain ⟨n, hn⟩ := List.mem_iff_getElem?.1 mem
    exact .inr ⟨n, c, st, a, l', b, built, hn, old, new, ne, (incoming l n).2 ⟨c, st, a, built, hn, old⟩⟩

/-- The line that a stage of the playing context holds moves with that stage alone. -/
theorem State.boundary_line_playing {s : State} (ok : s.linesOk) {n : Nat} {st : Stage} {l : Fin 4} {o o' : Nat}
    (hn : s.scenes.playing.stages[n]? = some st) (old : st.lineOffset = some (l, o))
    (new : (s.openedStage s.rendersPlaying st).lineOffset = some (l, o')) :
    s.closedForBoundary.openBlock.delay.lines[l] = if o = o' then s.delay.lines[l] else { s.delay.lines[l] with readFifo := [] } := by
  have holder : s.delay.lines[l].holder = .playing n := (ok.1 l n).2 ⟨st, o, hn, old⟩
  rcases s.boundary_lines l with ⟨moves, line⟩ | ⟨stays, line⟩
  · rw [line, if_neg]
    · rfl
    · rintro rfl
      rcases s.movesOffset_holder ok moves with ⟨m, st', a, l', b, hm, old', new', ne, held⟩ | ⟨m, _, _, _, _, _, _, _, _, _, _, held⟩
      · obtain rfl : n = m := Holder.playing.inj (holder.symm.trans held)
        obtain rfl := Option.some.inj (hn.symm.trans hm)
        obtain ⟨-, rfl⟩ := Prod.mk.inj (Option.some.inj (old.symm.trans old'))
        obtain ⟨-, rfl⟩ := Prod.mk.inj (Option.some.inj (new.symm.trans new'))
        exact ne rfl
      · exact Holder.noConfusion (holder.symm.trans held)
  · rw [line, if_pos]
    by_contra ne
    exact stays (.inl ⟨st, List.mem_of_getElem? hn, o, l, o', old, new, ne⟩)

theorem State.boundary_line_incoming {s : State} (ok : s.linesOk) {n : Nat} {c : Context} {st : Stage} {l : Fin 4} {o o' : Nat}
    (hc : s.scenes.scene.built = some c) (hn : c.stages[n]? = some st) (old : st.lineOffset = some (l, o))
    (new : (s.openedStage s.rendersIncoming st).lineOffset = some (l, o')) :
    s.closedForBoundary.openBlock.delay.lines[l] = if o = o' then s.delay.lines[l] else { s.delay.lines[l] with readFifo := [] } := by
  have holder : s.delay.lines[l].holder = .incoming n := (ok.2.1 l n).2 ⟨c, st, o, hc, hn, old⟩
  rcases s.boundary_lines l with ⟨moves, line⟩ | ⟨stays, line⟩
  · rw [line, if_neg]
    · rfl
    · rintro rfl
      rcases s.movesOffset_holder ok moves with ⟨m, _, _, _, _, _, _, _, _, held⟩ | ⟨m, c', st', a, l', b, hc', hm, old', new', ne, held⟩
      · exact Holder.noConfusion (holder.symm.trans held)
      · obtain rfl : n = m := Holder.incoming.inj (holder.symm.trans held)
        obtain rfl := Option.some.inj (hc.symm.trans hc')
        obtain rfl := Option.some.inj (hn.symm.trans hm)
        obtain ⟨-, rfl⟩ := Prod.mk.inj (Option.some.inj (old.symm.trans old'))
        obtain ⟨-, rfl⟩ := Prod.mk.inj (Option.some.inj (new.symm.trans new'))
        exact ne rfl
  · rw [line, if_pos]
    by_contra ne
    exact stays (.inr ⟨c, hc, st, List.mem_of_getElem? hn, o, l, o', old, new, ne⟩)

theorem contextOpened_of {s t : State} {rendered : Bool} {c : Context}
    (lines : ∀ (n : Nat) st l o o', c.stages[n]? = some st → st.lineOffset = some (l, o) →
      (s.openedStage rendered st).lineOffset = some (l, o') →
      t.delay.lines[l] = if o = o' then s.delay.lines[l] else { s.delay.lines[l] with readFifo := [] }) :
    contextOpened s t rendered c (c.mapStages (s.openedStage rendered)) := by
  refine ⟨rfl, List.length_map _, fun i st hi => ⟨s.openedStage rendered st, ?_, stageOpened_openedStage s rendered st,
    fun l o o' => lines i st l o o' hi⟩⟩
  rw [Context.mapStages, List.getElem?_map, hi]
  rfl

theorem contextOpened_playing {s : State} (ok : s.linesOk) : contextOpened s s.closedForBoundary.openBlock s.rendersPlaying
    s.scenes.playing s.closedForBoundary.openBlock.scenes.playing := by
  rw [s.boundary_playing]
  exact contextOpened_of fun _ _ _ _ _ hn old new => State.boundary_line_playing ok hn old new

theorem contextOpened_incoming {s : State} (ok : s.linesOk) {c : Context} (hc : s.scenes.scene.built = some c) :
    contextOpened s s.closedForBoundary.openBlock s.rendersIncoming c (c.mapStages (s.openedStage s.rendersIncoming)) :=
  contextOpened_of fun _ _ _ _ _ hn old new => State.boundary_line_incoming ok hc hn old new

/-! ## The event -/

theorem exec_blockBoundary_due {s : State} (on : s.powered) (counter : s.sampleCounter.toNat % 48 = 0)
    (open_ : s.chain.boundaryTaken = false) (unarmed : s.scenes.scene.unarmed) (goesOn : s.switchEndDue = false)
    (out : s.chain.mixer.outDone = false) : exec .blockBoundary s = .next s.closedForBoundary.openBlock := by
  have due : s.boundaryDue = true := by simp [State.boundaryDue, Config.blockSamples, counter, open_]
  rw [exec_blockBoundary on, State.takeBoundary_unarmed due unarmed goesOn out]
  rfl

theorem exec_blockBoundary_early {s : State} (on : s.powered) (h : s.sampleCounter.toNat % 48 ≠ 0 ∨ s.chain.boundaryTaken = true) :
    exec .blockBoundary s = .next s := by
  have early : s.boundaryDue = false := by
    rcases h with h | h <;> simp [State.boundaryDue, Config.blockSamples, h]
  rw [exec_blockBoundary on, State.takeBoundary_early early]

theorem State.switchEndDue_rendering {s : State} (h : s.chain.mixer.k < s.chain.mixer.length) : s.switchEndDue = false := by
  simp [State.switchEndDue, Mixer.done, h]

theorem Mixer.outDone_rendering {m : Mixer} (h : m.k < m.length) : m.outDone = false := by simp [Mixer.outDone, h]

theorem Mixer.outDone_single {m : Mixer} (h : m.phase = .single) : m.outDone = false := by simp [Mixer.outDone, h]

/-! ## The blocks of the part after a boundary -/

theorem State.boundary_chain (s : State) : s.closedForBoundary.openBlock.chain =
    { s.closedForBoundary.chain with
      hasContext := s.chain.hasContext || s.chain.handover, handover := false, boundaryTaken := true } := by
  obtain ⟨-, context, handover, -⟩ := (s.withTempo { s.tempo with beatDue := false }).closeBlock_chain
  have opened : s.closedForBoundary.openBlock.chain = { s.closedForBoundary.chain with
      hasContext := s.closedForBoundary.chain.hasContext || s.closedForBoundary.chain.handover, handover := false, boundaryTaken := true } :=
    rfl
  rw [opened, State.closedForBoundary, context, handover]
  rfl

theorem State.boundary_mixer (s : State) : s.closedForBoundary.openBlock.chain.mixer = s.chain.mixer := by
  rw [s.boundary_chain]
  exact (State.closeBlock_chain _).1

theorem State.boundary_keeps (s : State) : let t := s.closedForBoundary.openBlock
    t.latches = s.latches ∧ t.tempo = { s.tempo with beatDue := false } ∧ t.tuner = s.tuner ∧ t.cues = s.cues ∧
    t.store = s.store ∧ t.pins = s.pins ∧ t.sampleCounter = s.sampleCounter ∧ t.delay.mem = s.delay.mem := by
  have mem := s.closedForBoundary.openBlock_same.1
  dsimp only
  simp only [State.openBlock_keeps, mem]
  simp [State.closedForBoundary, State.closeBlock_keeps]

/-! ## LEVELS (R22, R23) -/

/-- The thirteen flags as a number. -/
def Chain.flags (c : Chain) : Nat := c.stageClip.toNat + if c.mainClip then 4096 else 0

theorem Chain.anyClip_iff (c : Chain) : c.anyClip = true ↔ c.flags ≠ 0 := by
  have stage : c.stageClip ≠ 0 ↔ c.stageClip.toNat ≠ 0 := by
    rw [ne_eq, BitVec.toNat_eq]
    exact Iff.rfl
  rw [Chain.anyClip, Chain.flags, Bool.or_eq_true, bne_iff_ne, stage]
  cases c.mainClip <;> simp

theorem State.levels_posted {s : State} (h : (s.chain.clipRose = true ∨ s.chain.levelsCatchUp = true) ∧ s.chain.flags ≠ 0 ∧
    s.link.mask.getLsbD 3 = true) :
    s.levels.chain.clipRose = false ∧ s.levels.chain.levelsCatchUp = false ∧ s.levels.chain.stageClip = 0 ∧
    s.levels.chain.mainClip = false ∧
    s.levels.link.levels = some ⟨0x44, 0, 0, [BitVec.ofNat 8 s.chain.flags, BitVec.ofNat 8 (s.chain.flags / 256)]⟩ ∧
    s.levels.link.queue = s.link.queue := by
  obtain ⟨rose, flags, enabled⟩ := h
  have posts : ((s.chain.clipRose || s.chain.levelsCatchUp) && s.chain.anyClip && s.link.enabled .levels) = true := by
    simp only [Bool.and_eq_true, Bool.or_eq_true, Chain.anyClip_iff]
    exact ⟨⟨rose, flags⟩, enabled⟩
  have on : s.link.enabled .levels = true := enabled
  unfold State.levels
  dsimp only
  rw [if_pos posts]
  simp only [State.post, State.withChain_link, Link.post, on, Bool.not_true, Bool.false_eq_true, if_false]
  exact ⟨rfl, rfl, rfl, rfl, rfl, rfl⟩

theorem State.levels_quiet {s : State} (h : ¬((s.chain.clipRose = true ∨ s.chain.levelsCatchUp = true) ∧ s.chain.flags ≠ 0 ∧
    s.link.mask.getLsbD 3 = true)) :
    s.levels = s.withChain { s.chain with clipRose := false, levelsCatchUp := false } := by
  refine if_neg fun posts => h ?_
  simp only [Bool.and_eq_true, Bool.or_eq_true, Chain.anyClip_iff] at posts
  obtain ⟨⟨rose, flags⟩, enabled⟩ := posts
  exact ⟨rose, flags, enabled⟩

theorem State.boundary_levels {s : State} (h : s.chain.blockClosed = false) :
    let c := s.chain
    let posts : Prop := (c.clipRose = true ∨ c.levelsCatchUp = true) ∧ c.flags ≠ 0 ∧ s.link.mask.getLsbD 3 = true
    let t := s.closedForBoundary.openBlock
    t.chain.clipRose = false ∧ t.chain.levelsCatchUp = false ∧
    (posts → t.chain.stageClip = 0 ∧ t.chain.mainClip = false ∧
      t.link.levels = some ⟨0x44, 0, 0, [BitVec.ofNat 8 c.flags, BitVec.ofNat 8 (c.flags / 256)]⟩ ∧ t.link.queue = s.link.queue) ∧
    (¬posts → t.chain.stageClip = c.stageClip ∧ t.chain.mainClip = c.mainClip ∧ t.link = s.link) := by
  have link := s.closedForBoundary.openBlock_keeps.2.2.2.2.2.2.2.2.2.1
  intro c posts t
  obtain ⟨u, closed, chain, same⟩ : ∃ u : State, s.closedForBoundary = u.levels.withChain { u.levels.chain with blockClosed := true } ∧
      u.chain = s.chain ∧ u.link = s.link := ⟨_, if_neg (by exact Bool.eq_false_iff.1 h), rfl, rfl⟩
  have link' : t.link = u.levels.link := link.trans (by rw [closed]; rfl)
  have fields : t.chain.clipRose = u.levels.chain.clipRose ∧ t.chain.levelsCatchUp = u.levels.chain.levelsCatchUp ∧
      t.chain.stageClip = u.levels.chain.stageClip ∧ t.chain.mainClip = u.levels.chain.mainClip := by
    rw [show t.chain = _ from s.boundary_chain, closed]
    exact ⟨rfl, rfl, rfl, rfl⟩
  obtain ⟨rose, catchUp, stage, main⟩ := fields
  rw [rose, catchUp, stage, main, link']
  by_cases p : posts
  · obtain ⟨rose, catchUp, stage, main, levels, queue⟩ := State.levels_posted (s := u) (by rw [chain, same]; exact p)
    rw [chain] at levels
    exact ⟨rose, catchUp, fun _ => ⟨stage, main, levels, by rw [queue, same]⟩, fun no => absurd p no⟩
  · have quiet := State.levels_quiet (s := u) (by rw [chain, same]; exact p)
    rw [quiet]
    exact ⟨rfl, rfl, fun yes => absurd yes p, fun _ => ⟨by rw [State.withChain_chain, chain], by rw [State.withChain_chain, chain], same⟩⟩

theorem Chain.raise_spec (c : Chain) (stages : BitVec 12) (main : Bool) :
    (c.raise stages main).stageClip = c.stageClip ||| stages ∧ (c.raise stages main).mainClip = (c.mainClip || main) ∧
    ((c.raise stages main).clipRose = true ↔ c.clipRose = true ∨
      (∃ i, stages.getLsbD i = true ∧ c.stageClip.getLsbD i = false) ∨ (main = true ∧ c.mainClip = false)) := by
  have grows : c.stageClip ||| stages ≠ c.stageClip ↔ ∃ i, stages.getLsbD i = true ∧ c.stageClip.getLsbD i = false := by
    constructor
    · intro ne
      by_contra none
      refine ne (BitVec.eq_of_getLsbD_eq fun i _ => ?_)
      rw [BitVec.getLsbD_or]
      cases old : c.stageClip.getLsbD i
      · cases new : stages.getLsbD i
        · rfl
        · exact absurd ⟨i, new, old⟩ none
      · rfl
    · rintro ⟨i, new, old⟩ same
      have bit := congrArg (fun v : BitVec 12 => v.getLsbD i) same
      simp [new, old] at bit
  refine ⟨rfl, rfl, ?_⟩
  simp only [Chain.raise, Bool.or_eq_true, bne_iff_ne, grows, Bool.and_eq_true, Bool.not_eq_true', or_assoc]

/-! ## The statement -/

theorem State.rendersPlaying_eq {s : State} (h : s.chain.hasContext = true ∨ s.chain.handover = true) :
    s.rendersPlaying = s.chain.mixer.phase.rendersPlaying := by
  have context : (s.chain.hasContext || s.chain.handover) = true := by simpa using h
  rw [State.rendersPlaying, Chain.blockRendersPlaying, State.openedChain, context, Bool.true_and]

/-- During a switch whose phase has samples left. -/
theorem exec_blockBoundary_switching {s : State} {c : Context} (on : s.powered) (counter : s.sampleCounter.toNat % 48 = 0)
    (open_ : s.chain.boundaryTaken = false) (context : s.chain.hasContext = true) (ok : s.linesOk)
    (rendering : s.chain.mixer.k < s.chain.mixer.length) (unarmed : s.scenes.scene.unarmed) (built : s.scenes.scene.built = some c)
    {playing incoming : Bool} (hp : s.chain.mixer.phase.rendersPlaying = playing) (hi : s.rendersIncoming = incoming) :
    ∃ t c', exec .blockBoundary s = .next t ∧ t.scenes.scene = s.scenes.scene.mapIncoming (fun c => c.mapStages (s.openedStage incoming)) ∧
      c' = c.mapStages (s.openedStage incoming) ∧ t.chain.mixer = s.chain.mixer ∧
      contextOpened s t playing s.scenes.playing t.scenes.playing ∧ contextOpened s t incoming c c' := by
  have first := contextOpened_playing ok
  have second := contextOpened_incoming ok built
  rw [State.rendersPlaying_eq (.inl context), hp] at first
  rw [hi] at second
  refine ⟨_, _, exec_blockBoundary_due on counter open_ unarmed (State.switchEndDue_rendering rendering) (Mixer.outDone_rendering rendering),
    ?_, rfl, s.boundary_mixer, first, second⟩
  rw [s.boundary_scene, hi]

/-- Settles O13. -/
theorem blockBoundaryTakesParametersAndTargets : Obligations.BlockBoundaryTakesParametersAndTargets := by
  unfold Obligations.BlockBoundaryTakesParametersAndTargets
  refine ⟨fun s on => ⟨exec_blockBoundary_early on, fun counter open_ scene phase has => ?_, fun counter open_ closed scene phase => ?_⟩,
    fun s c q on counter open_ context ok rendering => ⟨fun scene phase => ?_, fun scene phase => ?_, fun scene phase => ?_⟩,
    Chain.raise_spec⟩
  · have unarmed : s.scenes.scene.unarmed := by rw [scene]; exact Scene.unarmed_steady
    have renders : s.rendersPlaying = true := by rw [State.rendersPlaying_eq has, phase]; rfl
    refine ⟨_, exec_blockBoundary_due on counter open_ unarmed (State.switchEndDue_steady scene) (Mixer.outDone_single phase),
      by rw [s.boundary_chain], ?_, by rw [s.boundary_chain], fun i st hi => ?_, fun ok => ⟨?_, fun l free => ?_⟩, s.boundary_keeps⟩
    · rw [s.boundary_chain]
      simpa using has
    · have opened := stageOpened_openedStage s true st
      refine ⟨s.openedStage true st, ?_, ?_⟩
      · rw [s.boundary_playing, renders, Context.mapStages, List.getElem?_map, hi]
        rfl
      · obtain ⟨shape, previous, target, run⟩ := opened
        refine ⟨?_, ?_, ?_, previous, ?_, target, shape, previous, target, run⟩ <;> rw [shape]
    · rw [← renders]
      exact contextOpened_playing ok
    · rcases s.boundary_lines l with ⟨moves, -⟩ | ⟨-, line⟩
      · rcases State.movesOffset_holder ok moves with ⟨n, _, _, _, _, _, _, _, _, held⟩ | ⟨_, c, _, _, _, _, built, _⟩
        · exact absurd held (free n)
        · rw [scene] at built
          exact absurd built nofun
      · exact line
  · have unarmed : s.scenes.scene.unarmed := by rw [scene]; exact Scene.unarmed_steady
    exact ⟨_, exec_blockBoundary_due on counter open_ unarmed (State.switchEndDue_steady scene) (Mixer.outDone_single phase),
      State.boundary_levels closed⟩
  · have incoming : s.rendersIncoming = true := by
      rw [State.rendersIncoming, Chain.blockRendersIncoming, State.openedChain, phase]
      rfl
    obtain ⟨t, c', run, scene', rfl, mixer, first, second⟩ := exec_blockBoundary_switching (playing := true) on counter open_ context ok
      rendering (by rw [scene]; rintro _ _ ⟨⟩) (by rw [scene]; rfl) (by rw [phase]; rfl) incoming
    exact ⟨t, _, run, by rw [scene', scene, Scene.mapIncoming], mixer, first, second⟩
  · have incoming : s.rendersIncoming = decide (s.chain.mixer.length - s.chain.mixer.k < 48) := by
      rw [State.rendersIncoming, Chain.blockRendersIncoming, State.openedChain, phase]
      rfl
    obtain ⟨t, c', run, scene', rfl, mixer, first, second⟩ := exec_blockBoundary_switching (playing := true) on counter open_ context ok
      rendering (by rw [scene]; rintro _ _ ⟨⟩) (by rw [scene]; rfl) (by rw [phase]; rfl) incoming
    exact ⟨t, _, run, by rw [scene', scene, Scene.mapIncoming], mixer, first, second⟩
  · have incoming : s.rendersIncoming = true := by
      rw [State.rendersIncoming, Chain.blockRendersIncoming, State.openedChain, phase]
      rfl
    obtain ⟨t, c', run, scene', rfl, mixer, first, second⟩ := exec_blockBoundary_switching (playing := false) on counter open_ context ok
      rendering (by rw [scene]; rintro _ _ ⟨⟩) (by rw [scene]; rfl) (by rw [phase]; rfl) incoming
    exact ⟨t, _, run, by rw [scene', scene, Scene.mapIncoming], mixer, first, second⟩

end Sys2Proof.Machine
end

section
/-! CORRECTNESS. RECALL and CANCEL by scene state (spec/05 5.3, 5.9). -/

namespace Sys2Proof.Machine

/-! ## A request's body that posts reports: the end of a read in progress comes before or after (R176, R180) -/

/-- Ending a read in progress before a report or after it leaves the same link. -/
theorem Link.post_reading (l : Link) (k : ReportKind) (sub : Byte) (payload : List Byte) :
    ({ l with reading := none } : Link).post k sub payload = { l.post k sub payload with reading := none } := by
  have same : Link.enabled { l with reading := none } k = l.enabled k := rfl
  unfold Link.post
  rw [same]
  cases l.enabled k
  · rfl
  · cases k.slot with
    | none => by_cases room : l.queue.length < Config.reportRoom <;> simp [room]
    | some slot => cases slot <;> rfl

theorem State.post_endRead (s : State) (k : ReportKind) (sub : Byte) (payload : List Byte) :
    s.endRead.post k sub payload = (s.post k sub payload).endRead := by
  have link : s.endRead.link.post k sub payload = { s.link.post k sub payload with reading := none } := s.link.post_reading k sub payload
  unfold State.post
  rw [link]
  rfl

theorem Answer.post_endRead (t : State) (status : Status) (payload : List Byte) (kind tag : Byte) :
    Answer.post { state := t.endRead, status := status, payload := payload } kind tag =
      t.replied (kind ||| 0x80) tag status.code payload := Answer.post_eq_replied _ _ _ rfl rfl

/-- A request whose body leaves t, but for the read that the request ends. -/
theorem request_leaves {s t : State} {kind tag : Byte} {p : List Byte} {early : Bool} {fits : Nat → Bool}
    {body : State → List Byte → Answer} {status : Status} {payload : List Byte} (h : s.accepting) (hp : p.length ≤ 250)
    (hf : fits p.length = true) (e : body s.endRead p = { state := t.endRead, status := status, payload := payload }) :
    whilePowered s (fun s => s.request kind (requestFrame tag p) true early fits body) =
      .next (t.replied (kind ||| 0x80) tag status.code payload) := by
  rw [request_body h hp hf, e, Answer.post_endRead]

/-! ## An accepted recall (R82, R84, R85) -/

/-- The recall that a CANCEL ends or another recall replaces. -/
def Scene.cancels : Scene → Option QueuedRecall
  | .steady => none
  | .loading c _ => some c.asQueued
  | .armed c _ => some c.asQueued
  | .crossfade _ q => q
  | .dip _ q => q

/-- The lines that go with it. -/
def Scene.cancelLines : Scene → List (Fin 4)
  | .armed c _ => c.lines
  | _ => []

/-- The scene after a recall that makes the context `inc`. -/
def Scene.afterRecall (inc : Context) (phase : LoadPhase) : Scene → Scene
  | .crossfade c _ => .crossfade c (some inc.asQueued)
  | .dip c _ => .dip c (some inc.asQueued)
  | _ => .loading inc phase

/-- The link after the SUPERSEDED report that a recall numbered n makes of the one it replaces, if any. -/
def Link.superseded (l : Link) (old : Option QueuedRecall) (n : BitVec 8) : Link :=
  match old with
  | some o => l.post .scene 5 [o.number, o.origin.code, o.source.code, n]
  | none => l

/-- The context that an accepted recall creates. -/
def State.recalled (s : State) (source : Source) (origin : Origin) (timing : Option Timing) (fade : Option (BitVec 8)) : Context :=
  newIncoming source origin timing fade (s.scenes.lastRecall + 1)

theorem State.acceptRecall_eq (s : State) (source : Source) (origin : Origin) (timing : Option Timing) (fade : Option (BitVec 8))
    (phase : LoadPhase) : s.acceptRecall source origin timing fade phase = { s with
      scenes := { s.scenes with
        lastRecall := s.scenes.lastRecall + 1
        scene := s.scenes.scene.afterRecall (s.recalled source origin timing fade) phase }
      delay := s.scenes.scene.cancelLines.foldl DelayMemory.release s.delay
      link := s.link.superseded s.scenes.scene.cancels (s.scenes.lastRecall + 1) } := by
  unfold State.acceptRecall
  simp only [State.withScenes_scenes]
  cases s.scenes.scene with
  | steady => rfl
  | loading c p => rfl
  | armed c b => rfl
  | crossfade c q => cases q <;> rfl
  | dip c q => cases q <;> rfl

theorem Link.superseded_reading (l : Link) (old : Option QueuedRecall) (n : BitVec 8) :
    ({ l with reading := none } : Link).superseded old n = { l.superseded old n with reading := none } := by
  cases old with
  | none => rfl
  | some o => exact l.post_reading _ _ _

theorem State.acceptRecall_endRead (s : State) (source : Source) (origin : Origin) (timing : Option Timing) (fade : Option (BitVec 8))
    (phase : LoadPhase) : s.endRead.acceptRecall source origin timing fade phase = (s.acceptRecall source origin timing fade phase).endRead := by
  have link : s.endRead.link.superseded s.endRead.scenes.scene.cancels (s.endRead.scenes.lastRecall + 1) =
      { s.link.superseded s.scenes.scene.cancels (s.scenes.lastRecall + 1) with reading := none } := s.link.superseded_reading _ _
  rw [State.acceptRecall_eq, State.acceptRecall_eq, link]
  rfl

/-- The lines of a dropped context are free and empty, the others as before (R38, R39). -/
theorem DelayMemory.lines_foldl_release (ls : List (Fin 4)) (d : DelayMemory) (l : Fin 4) :
    (ls.foldl DelayMemory.release d).lines[l] =
      if l ∈ ls then { d.lines[l] with holder := .free, readFifo := [], writeFifo := [], window := [] } else d.lines[l] := by
  induction ls generalizing d with
  | nil => simp
  | cons l' ls ih =>
    rw [List.foldl_cons, ih, DelayMemory.lines_release]
    by_cases here : l' = l
    · simp [here]
    · simp [here, Ne.symm here]

theorem DelayMemory.foldl_release_mem (ls : List (Fin 4)) (d : DelayMemory) : (ls.foldl DelayMemory.release d).mem = d.mem := by
  induction ls generalizing d with
  | nil => rfl
  | cons l ls ih => exact ih _

section
variable (s : State) (source : Source) (origin : Origin) (timing : Option Timing) (fade : Option (BitVec 8))

/-- The recall as it waits for the end of a switch. -/
def State.queuedRecall : QueuedRecall := (s.recalled source origin timing fade).asQueued

/-- What an accepted recall leaves alone in every scene state. -/
theorem State.acceptRecall_frame (phase : LoadPhase) : let t := s.acceptRecall source origin timing fade phase
    t.scenes.playing = s.scenes.playing ∧ t.scenes.trails = s.scenes.trails ∧ t.scenes.lastRecall = s.scenes.lastRecall + 1 ∧
    t = { s with scenes := t.scenes, link := t.link, delay := t.delay } ∧ t.delay.mem = s.delay.mem := by
  rw [State.acceptRecall_eq]
  exact ⟨rfl, rfl, rfl, rfl, DelayMemory.foldl_release_mem _ _⟩

/-- An accepted recall releases an armed context's lines. -/
theorem State.acceptRecall_lines (phase : LoadPhase) {c : Context} {b : Bool} (h : s.scenes.scene = .armed c b) :
    let t := s.acceptRecall source origin timing fade phase
    (∀ l ∈ c.lines, t.delay.lines[l] =
      { s.delay.lines[l] with holder := .free, readFifo := [], writeFifo := [], window := [] }) ∧
    (∀ l : Fin 4, l ∉ c.lines → t.delay.lines[l] = s.delay.lines[l]) := by
  rw [State.acceptRecall_eq, h]
  exact ⟨fun l hl => (DelayMemory.lines_foldl_release _ _ l).trans (if_pos hl),
    fun l hl => (DelayMemory.lines_foldl_release _ _ l).trans (if_neg hl)⟩

theorem recallTaken_acceptRecall :
    recallTaken s (s.acceptRecall source origin timing fade .toRead) (s.queuedRecall source origin timing fade) := by
  obtain ⟨playing, trails, last, rest, mem⟩ := s.acceptRecall_frame source origin timing fade .toRead
  refine ⟨playing, trails, last, rest, mem, s.recalled source origin timing fade, rfl, rfl, ?_⟩
  have lines {c : Context} {b : Bool} := s.acceptRecall_lines source origin timing fade .toRead (c := c) (b := b)
  rw [State.acceptRecall_eq] at lines ⊢
  cases h : s.scenes.scene with
  | steady => exact ⟨rfl, rfl, rfl⟩
  | loading c p => exact ⟨rfl, rfl, rfl⟩
  | armed c b =>
    rw [h] at lines
    exact ⟨rfl, rfl, lines rfl⟩
  | crossfade c q => cases q <;> exact ⟨rfl, rfl, rfl⟩
  | dip c q => cases q <;> exact ⟨rfl, rfl, rfl⟩
end

/-! ## RECALL -/

theorem sourceOf_eq_none {n : Nat} (h : 129 < n) : sourceOf n = none := by
  unfold sourceOf
  rw [dif_neg (by omega), if_neg (by omega), if_neg (by omega)]

theorem timingOverrideOf_eq_none {n : Nat} (h : 2 < n) : timingOverrideOf n = none := by
  unfold timingOverrideOf
  split <;> first | omega | rfl

theorem fadeOverrideOf_eq_none {f0 f1 : Byte} (high : f1 ≠ 0) (h : ¬(f0 = 0xFF ∧ f1 = 0xFF)) :
    fadeOverrideOf (f0.toNat + 256 * f1.toNat) = none := by
  have set : f1.toNat ≠ 0 := fun e => high (BitVec.eq_of_toNat_eq e)
  have low := f0.isLt
  have large : ¬f0.toNat + 256 * f1.toNat < 256 := by omega
  have other : f0.toNat + 256 * f1.toNat ≠ 0xFFFF := fun e =>
    h ⟨BitVec.eq_of_toNat_eq (by simp; omega), BitVec.eq_of_toNat_eq (by simp; omega)⟩
  rw [fadeOverrideOf, if_neg large, if_neg other]

theorem fadeOverrideOf_bytes (fade : Option (BitVec 8)) (a b : Byte) : fadeOverrideOf (numAt (a :: b :: fadeBytes fade) 2 2) = some fade := by
  cases fade with
  | none => rfl
  | some f =>
    have small := f.isLt
    simp [fadeBytes, fadeOverrideOf, small]

theorem recallBody_badField (s : State) {p : List Byte} (h : sourceOf (byteAt p 0) = none ∨ timingOverrideOf (byteAt p 1) = none ∨
    fadeOverrideOf (numAt p 2 2) = none) : recallBody s p = s.refuse .badField := by
  unfold recallBody
  split
  next source timing fade hs ht hf => simp [hs, ht, hf] at h
  next => rfl

/-- The payload of a RECALL. -/
def recallPayload (source : Source) (timing : Option Timing) (fade : Option (BitVec 8)) : List Byte :=
  [source.code, timingByte timing] ++ fadeBytes fade

theorem recallPayload_length (source : Source) (timing : Option Timing) (fade : Option (BitVec 8)) :
    (recallPayload source timing fade).length = 4 := by cases fade <;> rfl

/-- A source is at hand: a preset slot must be VALID. -/
def State.sourceValid (s : State) : Source → Bool
  | .slot n => s.store.slotValid n
  | _ => true

theorem recallBody_payload (s : State) (source : Source) (timing : Option Timing) (fade : Option (BitVec 8)) :
    recallBody s (recallPayload source timing fade) =
      if !s.sourceValid source then s.refuse .noSlot
      else
        let t := s.acceptRecall source .link timing fade .toRead
        { state := t, status := .accepted, payload := [t.scenes.lastRecall] } := by
  have first : sourceOf (byteAt (recallPayload source timing fade) 0) = some source := sourceOf_code source
  have second : timingOverrideOf (byteAt (recallPayload source timing fade) 1) = some timing := timingOverrideOf_byte timing
  have third : fadeOverrideOf (numAt (recallPayload source timing fade) 2 2) = some fade := fadeOverrideOf_bytes fade _ _
  unfold recallBody
  rw [first, second, third]
  cases source <;> rfl

theorem exec_recallScene_badField {s : State} (h : s.accepting) (tag src tim f0 f1 : Byte)
    (bad : 129 < src.toNat ∨ 2 < tim.toNat ∨ (f1 ≠ 0 ∧ ¬(f0 = 0xFF ∧ f1 = 0xFF))) :
    exec (.recallScene (requestFrame tag [src, tim, f0, f1])) s = .next (s.replied 0x83 tag 4 []) := by
  refine request_refuses h (by simp) rfl (recallBody_badField _ ?_)
  rcases bad with bad | bad | ⟨high, bad⟩
  · exact .inl (sourceOf_eq_none bad)
  · exact .inr (.inl (timingOverrideOf_eq_none bad))
  · exact .inr (.inr (by rw [numAt_two_two]; exact fadeOverrideOf_eq_none high bad))

theorem exec_recallScene_empty {s : State} (h : s.accepting) (tag : Byte) {n : Fin 128} (timing : Option Timing)
    (fade : Option (BitVec 8)) (empty : s.store.directory[n] = none) :
    exec (.recallScene (requestFrame tag (recallPayload (.slot n) timing fade))) s = .next (s.replied 0x83 tag 6 []) := by
  have invalid : s.endRead.sourceValid (.slot n) = false := by
    change s.store.directory[n].isSome = false
    rw [empty]
    rfl
  have refused : recallBody s.endRead (recallPayload (.slot n) timing fade) = s.endRead.refuse .noSlot := by
    rw [recallBody_payload, invalid]
    rfl
  rw [exec_recallScene h.powered, request_accepting h (by rw [recallPayload_length]; decide) (by rw [recallPayload_length]; rfl), refused,
    refuse_post]
  rfl

theorem exec_recallScene_accepted {s : State} (h : s.accepting) (tag : Byte) {source : Source} (timing : Option Timing)
    (fade : Option (BitVec 8)) (valid : ∀ n, source = .slot n → s.store.directory[n].isSome = true) :
    exec (.recallScene (requestFrame tag (recallPayload source timing fade))) s =
      .next ((s.acceptRecall source .link timing fade .toRead).replied 0x83 tag 1 [s.scenes.lastRecall + 1]) := by
  have ok : s.endRead.sourceValid source = true := by
    cases source with
    | slot n => exact valid n rfl
    | upload => rfl
    | passthrough => rfl
  obtain ⟨-, -, last, -⟩ := s.acceptRecall_frame source .link timing fade .toRead
  have taken : recallBody s.endRead (recallPayload source timing fade) = Answer.mk
      (s.acceptRecall source .link timing fade .toRead).endRead .accepted [s.scenes.lastRecall + 1] := by
    rw [recallBody_payload, ok, ← last, State.acceptRecall_endRead]
    rfl
  rw [exec_recallScene h.powered, request_accepting h (by rw [recallPayload_length]; decide) (by rw [recallPayload_length]; rfl), taken,
    Answer.post_endRead]
  rfl

/-- Settles O27. -/
theorem recallActsBySceneState : Obligations.RecallActsBySceneState := by
  unfold Obligations.RecallActsBySceneState
  refine ⟨fun s tag src tim f0 f1 h => exec_recallScene_badField h tag src tim f0 f1,
    fun s tag n timing fade h => exec_recallScene_empty h tag timing fade, fun s tag source timing fade h valid => ?_⟩
  obtain ⟨playing, trails, last, rest, mem⟩ := s.acceptRecall_frame source .link timing fade .toRead
  refine ⟨_, s.recalled source .link timing fade, exec_recallScene_accepted h tag timing fade valid, rfl, rfl, rfl, playing, trails, last,
    rest, ?_⟩
  have lines {c : Context} {b : Bool} := s.acceptRecall_lines source .link timing fade .toRead (c := c) (b := b)
  rw [State.acceptRecall_eq] at lines mem ⊢
  cases scene : s.scenes.scene with
  | steady => exact ⟨rfl, rfl, rfl⟩
  | loading c p => exact ⟨rfl, rfl, rfl⟩
  | armed c b =>
    rw [scene] at lines mem
    obtain ⟨dropped, others⟩ := lines rfl
    exact ⟨rfl, rfl, dropped, others, mem⟩
  | crossfade c q => cases q <;> exact ⟨rfl, rfl, rfl⟩
  | dip c q => cases q <;> exact ⟨rfl, rfl, rfl⟩

/-! ## CANCEL (R86) -/

/-- The scene that a CANCEL leaves. -/
def Scene.afterCancel : Scene → Scene
  | .crossfade c _ => .crossfade c none
  | .dip c _ => .dip c none
  | _ => .steady

theorem State.cancelRecall_some {s : State} {q : QueuedRecall} (h : s.scenes.scene.cancels = some q) :
    s.cancelRecall = (some q.number,
      (((s.withDelay (s.scenes.scene.cancelLines.foldl DelayMemory.release s.delay)).reportCancelled q.number q.origin q.source).setScene
        s.scenes.scene.afterCancel)) := by
  unfold State.cancelRecall
  cases scene : s.scenes.scene with
  | steady => simp [scene, Scene.cancels] at h
  | loading c p =>
    simp only [scene, Scene.cancels, Option.some.injEq] at h
    subst h
    rfl
  | armed c b =>
    simp only [scene, Scene.cancels, Option.some.injEq] at h
    subst h
    rfl
  | crossfade c old =>
    simp only [scene, Scene.cancels] at h
    subst h
    rfl
  | dip c old =>
    simp only [scene, Scene.cancels] at h
    subst h
    rfl

theorem State.cancelRecall_none {s : State} (h : s.scenes.scene.cancels = none) : s.cancelRecall = (none, s) := by
  unfold State.cancelRecall
  cases scene : s.scenes.scene with
  | steady => rfl
  | loading c p => simp [scene, Scene.cancels] at h
  | armed c b => simp [scene, Scene.cancels] at h
  | crossfade c old =>
    simp only [scene, Scene.cancels] at h
    subst h
    rfl
  | dip c old =>
    simp only [scene, Scene.cancels] at h
    subst h
    rfl

theorem exec_cancel_none {s : State} (h : s.accepting) (tag : Byte) (none_ : s.scenes.scene.cancels = none) :
    exec (.cancel (requestFrame tag [])) s = .next (s.replied 0x84 tag 12 []) := by
  have refused : cancelBody s.endRead [] = s.endRead.refuse .tooLate := by
    rw [cancelBody, State.cancelRecall_none (s := s.endRead) none_]
  exact request_refuses h (Nat.zero_le _) rfl refused

theorem exec_cancel_some {s : State} (h : s.accepting) (tag : Byte) {q : QueuedRecall} (ends : s.scenes.scene.cancels = some q) :
    exec (.cancel (requestFrame tag [])) s = .next (State.replied { s with
      scenes := { s.scenes with scene := s.scenes.scene.afterCancel }
      link := s.link.post .scene 6 [q.number, q.origin.code, q.source.code]
      delay := s.scenes.scene.cancelLines.foldl DelayMemory.release s.delay } 0x84 tag 0 [q.number]) := by
  have report (u : State) : u.endRead.reportCancelled q.number q.origin q.source = (u.reportCancelled q.number q.origin q.source).endRead :=
    u.post_endRead _ _ _
  have taken := congrArg (fun u => State.okay (State.setScene u s.scenes.scene.afterCancel) [q.number])
    (report (s.withDelay (s.scenes.scene.cancelLines.foldl DelayMemory.release s.delay)))
  have body : cancelBody s.endRead [] = Answer.mk (State.endRead { s with
      scenes := { s.scenes with scene := s.scenes.scene.afterCancel }
      link := s.link.post .scene 6 [q.number, q.origin.code, q.source.code]
      delay := s.scenes.scene.cancelLines.foldl DelayMemory.release s.delay }) .ok [q.number] := by
    rw [cancelBody, State.cancelRecall_some (s := s.endRead) ends]
    exact taken
  rw [exec_cancel h.powered, request_accepting h (Nat.zero_le _) rfl, body, Answer.post_endRead]
  rfl

/-- Settles O28. -/
theorem cancelActsBySceneState : Obligations.CancelActsBySceneState := by
  unfold Obligations.CancelActsBySceneState
  intro s tag h
  have some_ {q : QueuedRecall} := exec_cancel_some (q := q) h tag
  have none_ := exec_cancel_none h tag
  cases scene : s.scenes.scene with
  | steady => exact none_ (by rw [scene]; rfl)
  | loading c p =>
    have ends := some_ (q := c.asQueued) (by rw [scene]; rfl)
    rw [scene] at ends
    exact ends
  | armed c b =>
    have ends := some_ (q := c.asQueued) (by rw [scene]; rfl)
    rw [scene] at ends
    refine ⟨_, ends, rfl, fun l hl => ?_, fun l hl => ?_, DelayMemory.foldl_release_mem _ _⟩
    · exact (DelayMemory.lines_foldl_release _ _ l).trans (if_pos hl)
    · exact (DelayMemory.lines_foldl_release _ _ l).trans (if_neg hl)
  | crossfade c q =>
    cases q with
    | none => exact none_ (by rw [scene]; rfl)
    | some q =>
      have ends := some_ (q := q) (by rw [scene]; rfl)
      rw [scene] at ends
      exact ends
  | dip c q =>
    cases q with
    | none => exact none_ (by rw [scene]; rfl)
    | some q =>
      have ends := some_ (q := q) (by rw [scene]; rfl)
      rw [scene] at ends
      exact ends

end Sys2Proof.Machine
end

section
/-! CORRECTNESS. Latch bindings and holds (spec/02 2.2), the filter used for a cue and the handling of the queue's head (spec/07
7.5..7.8). -/

namespace Sys2Proof.Machine

/-! ## Latches (R28, R29) -/

theorem Latch.bind_eq (l : Latch) (mode : LatchMode) (c : Cue) : l.bind mode c =
    (if c.kind = .switchDown then
      (match mode with
       | .toggle => { value := !l.value, hold := none }
       | .momentary => { value := true, hold := some { source := c.source, index := c.index } }
       | .set => { value := true, hold := none }
       | .clear => { value := false, hold := none }
       | .threshold => l)
     else if c.kind = .control ∧ mode = .threshold then { value := decide (512 ≤ c.value.toNat), hold := none }
     else l) := by
  obtain ⟨source, kind, index, value, stamp⟩ := c
  cases kind <;> cases mode <;> rfl

theorem releaseHolds_getElem (ls : Vector Latch 8) (c : Cue) (i : Fin 8) :
    (releaseHolds ls c)[i] = if c.kind = .switchUp ∧ ls[i].hold = some { source := c.source, index := c.index } then
      { value := false, hold := none } else ls[i] := by
  by_cases up : c.kind = .switchUp
  · simp only [releaseHolds, up, if_true, true_and, Fin.getElem_fin, Vector.getElem_ofFn, Latch.release]
  · simp only [releaseHolds, up, if_false, false_and]

/-- Settles O23. -/
theorem latchBindingsAndHoldReleases : Obligations.LatchBindingsAndHoldReleases := by
  unfold Obligations.LatchBindingsAndHoldReleases
  exact ⟨Latch.bind_eq, releaseHolds_getElem⟩

/-! ## The filter used (R136) -/

theorem find?_finRange_eq_some {k : Nat} {p : Fin k → Bool} {n : Fin k} :
    (List.finRange k).find? p = some n ↔ p n = true ∧ ∀ m < n, p m = false := by
  rw [List.find?_eq_some_iff_getElem]
  refine and_congr_right fun _ => ⟨?_, fun before => ⟨n.val, by simp, by simp, fun j hj => ?_⟩⟩
  · rintro ⟨i, hi, at_, before⟩ m hm
    have index : i = n.val := by simpa using congrArg Fin.val at_
    have first := before m.val (index ▸ hm)
    simpa using first
  · have first := before ⟨j, hj.trans n.isLt⟩ hj
    simpa using first

/-- An enabled filter's masked identifier agrees with the cue's. -/
def CueUnit.hits (u : CueUnit) (c : Cue) (n : Fin 24) : Prop :=
  u.filters[n].enable = true ∧
    (BitVec.ofNat 16 (c.source.toNat * 4096 + c.kind.code * 256 + c.index.toNat) ^^^ u.filters[n].identifier) &&&
      (match u.filters[n].mask with
       | .mask i => u.masks[i]
       | .exact => 0xFFFF) = 0

theorem CueUnit.takes_iff (u : CueUnit) (c : Cue) (n : Fin 24) : u.takes u.filters[n] c = true ↔ u.hits c n := by
  rw [CueUnit.takes, Bool.and_eq_true, beq_iff_eq, CueUnit.hits]
  cases u.filters[n].mask <;> exact Iff.rfl

theorem CueUnit.matching_eq_some (u : CueUnit) (c : Cue) (n : Fin 24) :
    u.matching c = some n ↔ u.hits c n ∧ ∀ m : Fin 24, m < n → ¬u.hits c m := by
  rw [CueUnit.matching, find?_finRange_eq_some]
  simp only [← u.takes_iff, Bool.not_eq_true]

theorem CueUnit.matching_eq_none (u : CueUnit) (c : Cue) : u.matching c = none ↔ ∀ n, ¬u.hits c n := by
  rw [CueUnit.matching, List.find?_eq_none]
  simp only [List.mem_finRange, true_implies, u.takes_iff]

/-! ## The cue FIFO (R142, R144) -/

theorem State.copyCue_room {s : State} (room : s.cues.fifo.length < 32) (c : Cue) (n : Fin 24) :
    let s' : State := { s with cues := { s.cues with fifo := s.cues.fifo ++ [{ cue := c, filter := n }] } }
    s.copyCue c n = if s.cues.fifo.length + 1 = s.cues.watermark then
      s'.post .cues 0 [BitVec.ofNat 8 (s.cues.fifo.length + 1), flagByte s.cues.overflow] else s' := by
  have grown : (s.cues.fifo ++ [FifoEntry.mk c n]).length = s.cues.fifo.length + 1 := List.length_append
  have joins : s.copyCue c n = _ := if_pos room
  rw [joins]
  simp only [State.reportCuesIf, State.reportCues, State.withCues_cues, grown, beq_iff_eq]
  rfl

theorem State.copyCue_full {s : State} (full : 32 ≤ s.cues.fifo.length) (c : Cue) (n : Fin 24) :
    s.copyCue c n = { s with cues := { s.cues with overflow := true } } := if_neg (Nat.not_lt.2 full)

/-! ## The head of the queue (R135) -/

/-- The head has left the queue and released its holds. -/
def State.headTaken (s : State) (c : Cue) (rest : List Cue) : State :=
  { s with latches := releaseHolds s.latches c, cues := { s.cues with queue := rest } }

theorem State.handleCue_unmatched {s : State} {c : Cue} (h : s.cues.matching c = none) :
    s.handleCue c = s.withLatches (releaseHolds s.latches c) := by
  simp only [State.handleCue, State.withLatches_cues, h]

theorem State.handleCue_matched {s : State} {c : Cue} {n : Fin 24} (h : s.cues.matching c = some n) :
    let u := (s.withLatches (releaseHolds s.latches c)).act s.cues.filters[n].action c
    s.handleCue c = if s.cues.filters[n].copy then u.copyCue c n else u := by
  unfold State.handleCue
  dsimp only
  rw [State.withLatches_cues, h]

section
variable {s : State} {c : Cue} {rest : List Cue} (on : s.powered) (queue : s.cues.queue = c :: rest)
include on queue

theorem exec_cueTaken_head : exec .cueTaken s = .next ((s.withCues { s.cues with queue := rest }).handleCue c) := by
  rw [exec_cueTaken on, State.takeCue, queue]

theorem exec_cueTaken_unmatched (unmatched : s.cues.matching c = none) : exec .cueTaken s = .next (s.headTaken c rest) := by
  rw [exec_cueTaken_head on queue, State.handleCue_unmatched (by exact unmatched)]
  rfl

theorem exec_cueTaken_matched {n : Fin 24} (matched : s.cues.matching c = some n) : exec .cueTaken s =
    .next (if s.cues.filters[n].copy then ((s.headTaken c rest).act s.cues.filters[n].action c).copyCue c n
      else (s.headTaken c rest).act s.cues.filters[n].action c) := by
  rw [exec_cueTaken_head on queue, State.handleCue_matched (by exact matched)]
  rfl

theorem exec_cueTaken_uncopied {n : Fin 24} (matched : s.cues.matching c = some n) (copy : s.cues.filters[n].copy = false) :
    exec .cueTaken s = .next ((s.headTaken c rest).act s.cues.filters[n].action c) := by
  rw [exec_cueTaken_matched on queue matched, copy]
  rfl

/-- A cue that is copied joins the FIFO after its action. -/
theorem exec_cueTaken_copied {n : Fin 24} (matched : s.cues.matching c = some n) (copy : s.cues.filters[n].copy = true)
    (room : s.cues.fifo.length < 32) :
    let u := (s.headTaken c rest).act s.cues.filters[n].action c
    let u' : State := { u with cues := { u.cues with fifo := s.cues.fifo ++ [{ cue := c, filter := n }] } }
    exec .cueTaken s = .next (if s.cues.fifo.length + 1 = s.cues.watermark then
      u'.post .cues 0 [BitVec.ofNat 8 (s.cues.fifo.length + 1), flagByte s.cues.overflow] else u') := by
  obtain ⟨-, -, -, -, -, -, cues, -⟩ := (s.headTaken c rest).act_keeps s.cues.filters[n].action c
  have same : ((s.headTaken c rest).act s.cues.filters[n].action c).cues.fifo = s.cues.fifo :=
    (congrArg CueUnit.fifo cues).trans rfl
  have mark : ((s.headTaken c rest).act s.cues.filters[n].action c).cues.watermark = s.cues.watermark :=
    (congrArg CueUnit.watermark cues).trans rfl
  have flag : ((s.headTaken c rest).act s.cues.filters[n].action c).cues.overflow = s.cues.overflow :=
    (congrArg CueUnit.overflow cues).trans rfl
  rw [exec_cueTaken_matched on queue matched, copy, if_pos rfl, State.copyCue_room (by rw [same]; exact room), same, mark, flag]

theorem exec_cueTaken_overflow {n : Fin 24} (matched : s.cues.matching c = some n) (copy : s.cues.filters[n].copy = true)
    (full : 32 ≤ s.cues.fifo.length) :
    let u := (s.headTaken c rest).act s.cues.filters[n].action c
    exec .cueTaken s = .next { u with cues := { u.cues with overflow := true } } := by
  obtain ⟨-, -, -, -, -, -, cues, -⟩ := (s.headTaken c rest).act_keeps s.cues.filters[n].action c
  have same : ((s.headTaken c rest).act s.cues.filters[n].action c).cues.fifo = s.cues.fifo :=
    (congrArg CueUnit.fifo cues).trans rfl
  rw [exec_cueTaken_matched on queue matched, copy, if_pos rfl, State.copyCue_full (by rw [same]; exact full)]

end

/-- Settles O24. -/
theorem cueTakenHandlesTheHead : Obligations.CueTakenHandlesTheHead := by
  unfold Obligations.CueTakenHandlesTheHead
  refine ⟨fun s c rest on queue => ⟨exec_cueTaken_unmatched on queue, fun n matched action copy => ?_,
    fun n matched action copy room => ?_, fun n matched action copy full => ?_⟩,
    fun u c => ⟨u.matching_eq_some c, u.matching_eq_none c⟩⟩
  · have done := exec_cueTaken_uncopied on queue matched copy
    rw [action] at done
    exact done
  · have done := exec_cueTaken_copied on queue matched copy room
    rw [action] at done
    exact done
  · have done := exec_cueTaken_overflow on queue matched copy full
    rw [action] at done
    exact done

end Sys2Proof.Machine
end

section
/-! CORRECTNESS. The actions of the cue unit: bindings, recalls, taps, clocks and the tuner's toggle (spec/07 7.7, spec/08 8.2, 8.3). -/

namespace Sys2Proof.Machine

/-! ## Bindings (R28, R139, R14) -/

theorem State.runBinding_idle {s : State} {c : Cue} (h : c.kind = .switchHold ∨ c.kind = .program ∨ c.kind = .clock ∨ c.kind = .tap)
    (stage id : Nat) (low high : Int) : s.runBinding c (.param stage id low high) = s := by
  have none_ : c.paramInput = none := by
    rcases h with h | h | h | h <;> rw [Cue.paramInput, h]
  rw [State.runBinding, none_]

/-- The value that a cue gives a PARAM target. -/
def Cue.gives (c : Cue) (low high p : Int) : Prop :=
  (c.kind = .switchDown ∧ p = high) ∨ (c.kind = .switchUp ∧ p = low) ∨
    (c.kind = .control ∧ p = low + (2 * ((high - low) * c.value.toNat) + 1023) / 2046)

theorem State.runBinding_param {s : State} {c : Cue} {low high p : Int} (h : c.gives low high p) (stage id : Nat) :
    s.runBinding c (.param stage id low high) = s.withScenes (s.scenes.writeParam stage id p) := by
  have written (v : Int) (input : c.paramInput = some v) (value : mapParam low high v = p) :
      s.runBinding c (.param stage id low high) = s.withScenes (s.scenes.writeParam stage id p) := by
    rw [← value]
    simp only [State.runBinding, input]
  rcases h with ⟨kind, rfl⟩ | ⟨kind, rfl⟩ | ⟨kind, rfl⟩
  · refine written 1023 (by rw [Cue.paramInput, kind]) ?_
    simp only [mapParam, divHalfUp]
    omega
  · refine written 0 (by rw [Cue.paramInput, kind]) ?_
    simp [mapParam, divHalfUp]
  · exact written c.value.toNat (by rw [Cue.paramInput, kind]) rfl

theorem SceneManager.writeParam_stage {m : SceneManager} {stage : Nat} {st : Stage} (h : m.editContext.stages[stage]? = some st)
    (id : Nat) (v : Int) : m.writeParam stage id v =
      m.setEdit { m.editContext with stages := m.editContext.stages.set stage (st.write id v) } := by
  rw [SceneManager.writeParam, h]

/-- What a write to the edit context leaves alone. -/
theorem SceneManager.setEdit_frame (m : SceneManager) (c : Context) :
    (m.setEdit c).scene.built.getD (m.setEdit c).playing = c ∧ (m.setEdit c).trails = m.trails ∧
    (m.setEdit c).lastRecall = m.lastRecall ∧
    (m.scene.built.isSome = true → (m.setEdit c).playing = m.playing ∧ (m.setEdit c).scene.built.isSome = true) ∧
    (m.scene.built = none → (m.setEdit c).scene = m.scene) := by
  refine ⟨m.editContext_setEdit c, m.setEdit_trails c, ?_,
    fun built => ⟨m.setEdit_playing built c, by rw [m.setEdit_built_isSome, built]⟩, fun none_ => m.setEdit_scene none_ c⟩
  cases h : m.scene.built with
  | none => rw [m.setEdit_of_not_built c h]
  | some b => rw [m.setEdit_of_built c h]

theorem gateRule_length (kind : StageKind) (id : Nat) (params : List Int) : (gateRule kind id params).length = params.length := by
  unfold gateRule
  split
  · exact List.length_set
  · rfl

/-- A stage after a write of one of its parameters (R14, R63). -/
theorem Stage.write_spec {st : Stage} {id : Nat} (own : id < (paramSpecs st.kind).length)
    (whole : st.params.length = (paramSpecs st.kind).length) (p : Int) :
    st.write id p = { st with params := (st.write id p).params } ∧ (st.write id p).params.length = st.params.length ∧
    (∀ spec, (paramSpecs st.kind)[id]? = some spec →
      let v := max spec.lo (min spec.hi p)
      if st.kind = .gate ∧ id = 0 then
        (st.write id p).params.getD 0 0 = v ∧ (st.write id p).params.getD 1 0 = min (st.params.getD 1 0) v ∧
          ∀ i, 2 ≤ i → (st.write id p).params.getD i 0 = st.params.getD i 0
      else if st.kind = .gate ∧ id = 1 then
        (st.write id p).params.getD 1 0 = min (st.params.getD 0 0) v ∧ ∀ i, i ≠ 1 → (st.write id p).params.getD i 0 = st.params.getD i 0
      else (st.write id p).params = st.params.set id v) := by
  have written {spec : ParamSpec} (h : (paramSpecs st.kind)[id]? = some spec) := Stage.write_param h p
  obtain ⟨spec, hspec⟩ : ∃ spec, (paramSpecs st.kind)[id]? = some spec := ⟨_, List.getElem?_eq_getElem own⟩
  refine ⟨by rw [written hspec], ?_, fun spec hspec => ?_⟩
  · rw [written hspec, gateRule_length, List.length_set]
  · rw [written hspec]
    dsimp only
    by_cases gate : st.kind = .gate
    · have two : 2 ≤ st.params.length := by
        rw [whole, gate]
        decide
      obtain ⟨opn, cls, rest, list⟩ : ∃ opn cls rest, st.params = opn :: cls :: rest := by
        match h : st.params, two with
        | a :: b :: r, _ => exact ⟨a, b, r, rfl⟩
      rw [list, gate]
      by_cases first : id = 0
      · subst first
        rw [if_pos ⟨rfl, rfl⟩, List.set_cons_zero, gateRule_threshold (.inl rfl)]
        refine ⟨rfl, min_comm _ _, fun i hi => ?_⟩
        obtain ⟨k, rfl⟩ := Nat.exists_eq_add_of_le' hi
        rfl
      · rw [if_neg fun h => first h.2]
        by_cases second : id = 1
        · subst second
          rw [if_pos ⟨rfl, rfl⟩, List.set_cons_succ, List.set_cons_zero, gateRule_threshold (.inr rfl)]
          refine ⟨rfl, fun i hi => ?_⟩
          match i, hi with
          | 0, _ => rfl
          | k + 2, _ => rfl
        · rw [if_neg fun h => second h.2, gateRule_of_not_threshold fun _ => by omega]
          rfl
    · rw [if_neg fun h => gate h.1, if_neg fun h => gate h.1, gateRule_of_not_threshold fun h => absurd h gate]
      rfl

theorem State.runBinding_writes {s : State} {c : Cue} {low high p : Int} (h : c.gives low high p) {stage id : Nat} {st : Stage}
    (hst : s.scenes.editContext.stages[stage]? = some st) :
    s.runBinding c (.param stage id low high) = s.withScenes (s.scenes.setEdit { s.scenes.editContext with
      stages := s.scenes.editContext.stages.set stage (st.write id p) }) := by
  rw [State.runBinding_param h, SceneManager.writeParam_stage hst]

/-! ## Taps and clocks (R149..R152) -/

theorem Tempo.tap_source (t : Tempo) (stamp : Stamp) :
    (t.tap stamp).locked = t.locked ∧ ((t.tap stamp).source = t.source ∨ (t.locked = false ∧ (t.tap stamp).source = .tap)) := by
  unfold Tempo.tap
  split
  · exact ⟨rfl, .inl rfl⟩
  next unlocked =>
    split
    · exact ⟨rfl, .inl rfl⟩
    · dsimp only
      split
      · exact ⟨rfl, .inl rfl⟩
      · split
        · exact ⟨rfl, .inl rfl⟩
        · exact ⟨rfl, .inr ⟨by simpa using unlocked, rfl⟩⟩

theorem State.takeTap_spec (s : State) (stamp : Stamp) : let t := s.takeTap stamp
    t.tempo = s.tempo.tap stamp ∧ t = { s with tempo := t.tempo, link := t.link } ∧
    t.link = if t.tempo.source = s.tempo.source then s.link else s.link.post .tempo 0 (bytesLE 4 t.tempo.beat ++ [2, 0]) := by
  obtain ⟨locked, source⟩ := s.tempo.tap_source stamp
  unfold State.takeTap State.changeTempo
  by_cases same : (s.tempo.tap stamp).source = s.tempo.source
  · rw [if_pos ⟨same, locked⟩]
    exact ⟨rfl, rfl, (if_pos same).symm⟩
  · obtain ⟨unlocked, tap⟩ := source.resolve_left same
    rw [if_neg fun h => same h.1]
    refine ⟨rfl, rfl, ?_⟩
    have payload : (s.tempo.tap stamp).payload = bytesLE 4 (s.tempo.tap stamp).beat ++ [2, 0] := by
      rw [Tempo.payload, tap, locked, unlocked]
      rfl
    have post : (s.withTempo (s.tempo.tap stamp)).reportTempo.link = s.link.post .tempo 0 (s.tempo.tap stamp).payload := rfl
    rw [payload] at post
    exact post.trans (if_neg same).symm

theorem Tempo.joinClock_keeps (t : Tempo) (i : Nat) : (t.joinClock i).loss = t.loss ∧ (t.joinClock i).beat = t.beat ∧
    (t.joinClock i).position = t.position ∧ (t.joinClock i).locked = t.locked ∧ (t.joinClock i).source = t.source ∧
    (t.joinClock i).tapRun = t.tapRun := by
  unfold Tempo.joinClock
  split
  · exact ⟨rfl, rfl, rfl, rfl, rfl, rfl⟩
  · split <;> exact ⟨rfl, rfl, rfl, rfl, rfl, rfl⟩

theorem Tempo.joinClock_second {t : Tempo} (h : t.clockFirst = none) (i : Nat) :
    t.joinClock i = { t with clockFirst := some i, clockRun := [i], clockCount := 1 } := by
  rw [Tempo.joinClock, h]

/-- The clock run with an interval more, the oldest of eight discarded. -/
def Tempo.runWith (t : Tempo) (i : Nat) : List Nat := (if 8 ≤ t.clockRun.length then t.clockRun.drop 1 else t.clockRun) ++ [i]

theorem Tempo.joinClock_inTolerance {t : Tempo} {p i : Nat} (h : t.clockFirst = some p) (near : max i p - min i p ≤ p / 16) :
    t.joinClock i = { t with clockRun := t.runWith i, clockCount := t.clockCount + 1 } := by
  rw [Tempo.joinClock, h]
  exact if_pos near

theorem Tempo.joinClock_outOfTolerance {t : Tempo} {p i : Nat} (h : t.clockFirst = some p) (far : p / 16 < max i p - min i p) :
    t.joinClock i = { t with clockFirst := some i, clockRun := [i], clockCount := 1 } := by
  rw [Tempo.joinClock, h]
  exact if_neg (Nat.not_le.2 far)

theorem Tempo.clock_first {t : Tempo} (h : t.clockLast = none) (stamp : Stamp) : t.clock stamp =
    { t with loss := some 24000, clockLast := some stamp, clockFirst := none, clockRun := [], clockCount := 0 } := by
  simp only [Tempo.clock, h]
  rfl

/-- The tempo unit when an interval has joined its clock run. -/
def Tempo.clocked (t : Tempo) (i : Nat) (stamp : Stamp) : Tempo := { Tempo.joinClock { t with loss := some 24000 } i with clockLast := some stamp }

/-- Eight intervals whose sum makes no beat discard the run of an unlocked unit. -/
theorem Tempo.clock_later {t : Tempo} {last : Stamp} (h : t.clockLast = some last) (stamp : Stamp) :
    let u := t.clocked (stamp - last).toNat stamp
    t.clock stamp = if u.clockCount = 8 ∧ !u.locked ∧ !beatInRange u.clockRun.sum then u.discardClock else u := by
  obtain ⟨beat, position, restart, source, locked, tapLast, tapRun, clockLast, clockFirst, clockRun, clockCount, loss, beatDue⟩ := t
  subst h
  rfl

theorem Tempo.clocked_keeps (t : Tempo) (i : Nat) (stamp : Stamp) : let u := t.clocked i stamp
    u.loss = some 24000 ∧ u.clockLast = some stamp ∧ u.beat = t.beat ∧ u.position = t.position ∧ u.locked = t.locked ∧
    u.source = t.source ∧ u.tapRun = t.tapRun := by
  obtain ⟨loss, beat, position, locked, source, tapRun⟩ := Tempo.joinClock_keeps { t with loss := some 24000 } i
  exact ⟨loss, rfl, beat, position, locked, source, tapRun⟩

theorem Tempo.clock_keeps (t : Tempo) (stamp : Stamp) : (t.clock stamp).loss = some 24000 ∧ (t.clock stamp).clockLast = some stamp ∧
    (t.clock stamp).beat = t.beat ∧ (t.clock stamp).position = t.position ∧ (t.clock stamp).locked = t.locked ∧
    (t.clock stamp).source = t.source ∧ (t.clock stamp).tapRun = t.tapRun := by
  cases h : t.clockLast with
  | none =>
    rw [Tempo.clock_first h]
    exact ⟨rfl, rfl, rfl, rfl, rfl, rfl, rfl⟩
  | some last =>
    have kept := t.clocked_keeps (stamp - last).toNat stamp
    rw [Tempo.clock_later h]
    split <;> exact kept

/-- A run of one interval waits for more. -/
theorem Tempo.clock_restarts {t : Tempo} {last stamp : Stamp} (h : t.clockLast = some last)
    (joined : ∀ u : Tempo, u.clockFirst = t.clockFirst → u.joinClock (stamp - last).toNat =
      { u with clockFirst := some (stamp - last).toNat, clockRun := [(stamp - last).toNat], clockCount := 1 }) :
    (t.clock stamp).clockRun = [(stamp - last).toNat] ∧ (t.clock stamp).clockFirst = some (stamp - last).toNat ∧
    (t.clock stamp).clockCount = 1 := by
  have run := joined { t with loss := some 24000 } rfl
  rw [Tempo.clock_later h, Tempo.clocked, run]
  exact ⟨rfl, rfl, rfl⟩

theorem Tempo.clock_second {t : Tempo} {last : Stamp} (h : t.clockLast = some last) (first : t.clockFirst = none) (stamp : Stamp) :
    (t.clock stamp).clockRun = [(stamp - last).toNat] ∧ (t.clock stamp).clockFirst = some (stamp - last).toNat ∧
    (t.clock stamp).clockCount = 1 :=
  Tempo.clock_restarts h fun _ same => Tempo.joinClock_second (same.trans first) _

theorem Tempo.clock_outOfTolerance {t : Tempo} {last stamp : Stamp} {p : Nat} (h : t.clockLast = some last) (first : t.clockFirst = some p)
    (far : p / 16 < max (stamp - last).toNat p - min (stamp - last).toNat p) :
    (t.clock stamp).clockRun = [(stamp - last).toNat] ∧ (t.clock stamp).clockFirst = some (stamp - last).toNat ∧
    (t.clock stamp).clockCount = 1 :=
  Tempo.clock_restarts h fun _ same => Tempo.joinClock_outOfTolerance (same.trans first) far

theorem Tempo.clock_inTolerance {t : Tempo} {last stamp : Stamp} {p : Nat} (h : t.clockLast = some last) (first : t.clockFirst = some p)
    (near : max (stamp - last).toNat p - min (stamp - last).toNat p ≤ p / 16) :
    let run := t.runWith (stamp - last).toNat
    (t.clockCount < 7 ∨ t.locked = true ∨ beatOk run.sum →
      (t.clock stamp).clockRun = run ∧ (t.clock stamp).clockFirst = some p ∧ (t.clock stamp).clockCount = t.clockCount + 1) ∧
    (t.clockCount = 7 → t.locked = false → ¬beatOk run.sum →
      (t.clock stamp).clockRun = [] ∧ (t.clock stamp).clockFirst = none ∧ (t.clock stamp).clockCount = 0) := by
  intro run
  have joined : t.clocked (stamp - last).toNat stamp =
      { t with loss := some 24000, clockLast := some stamp, clockRun := run, clockCount := t.clockCount + 1 } := by
    rw [Tempo.clocked, Tempo.joinClock_inTolerance (t := { t with loss := some 24000 }) first near]
    rfl
  rw [Tempo.clock_later h, joined]
  refine ⟨fun waits => ?_, fun seven unlocked noBeat => ?_⟩
  · rw [if_neg]
    · exact ⟨rfl, first, rfl⟩
    · rintro ⟨count, unlocked, noBeat⟩
      have count : t.clockCount + 1 = 8 := count
      rcases waits with waits | waits | waits
      · omega
      · simp [waits] at unlocked
      · simp [(beatInRange_iff run.sum).2 waits] at noBeat
  · rw [if_pos ⟨by rw [seven], by rw [unlocked]; rfl, by simpa [← beatInRange_iff] using noBeat⟩]
    exact ⟨rfl, rfl, rfl⟩

theorem State.takeClock_spec {s : State} (few : s.tempo.clockCount < 8) (stamp : Stamp) :
    s.takeClock stamp = { s with tempo := s.tempo.clock stamp } := by
  obtain ⟨-, -, -, -, locked, source, -⟩ := s.tempo.clock_keeps stamp
  have lock : s.takeClockLock = s := if_neg (by simp [Tempo.lockDue, few.ne])
  have update : s.takeClockUpdate = s := if_neg (by simp [Tempo.updateDue, few.ne])
  rw [State.takeClock, lock, update, State.changeTempo, if_pos ⟨source, locked⟩]
  rfl

/-! ## Recalls (R140) -/

theorem recallSlot_eq (arg : Fin 128) (c : Cue) :
    recallSlot arg c = arg.val + if c.kind = .program ∨ c.kind = .control then c.value.toNat else 0 := by
  obtain ⟨source, kind, index, value, stamp⟩ := c
  cases kind <;> rfl

theorem State.act_recall_none (s : State) {arg : Fin 128} {c : Cue} (h : 127 < recallSlot arg c) : s.act (.startRecall arg) c = s :=
  dif_neg (by omega)

theorem State.act_recall (s : State) {arg : Fin 128} {c : Cue} {k : Fin 128} (h : k.val = recallSlot arg c) :
    s.act (.startRecall arg) c = s.cueRecall k c := by
  have small : recallSlot arg c < 128 := h ▸ k.isLt
  have slot : (⟨recallSlot arg c, small⟩ : Fin 128) = k := Fin.ext h.symm
  rw [← slot]
  exact dif_pos small

theorem Tuner.toggled_spec (t : Tuner) :
    t.toggled.settings = t.settings ∧ t.toggled.mode = if t.mode = .off then t.settings.toggle else .off := by
  have set (m : TunerMode) : (t.setMode m).settings = t.settings ∧ (t.setMode m).mode = m := by
    unfold Tuner.setMode
    split
    · exact ⟨rfl, rfl⟩
    · split <;> exact ⟨rfl, rfl⟩
  exact set _

theorem State.act_bind (s : State) (k : Fin 16) (c : Cue) : s.act (.bind k) c =
    (s.scenes.editContext.bindings.filter fun b => b.number = k.val).foldl (fun u b => u.runBinding c b.target) s := by
  rw [State.act, State.runBindings]
  congr 1

/-- Settles O25. -/
theorem cueActionsAreCarriedOut : Obligations.CueActionsAreCarriedOut := by
  unfold Obligations.CueActionsAreCarriedOut
  refine ⟨fun s c rest n on queue matched => ⟨exec_cueTaken_uncopied on queue matched, exec_cueTaken_copied on queue matched,
    exec_cueTaken_overflow on queue matched⟩, State.act_bind, fun s c l mode => rfl,
    fun s c stage id low high => ⟨fun idle => State.runBinding_idle idle stage id low high, fun st p hst own whole gives => ?_⟩,
    fun s c rest n on queue matched copy => ?_⟩
  · obtain ⟨context, trails, last, built, none_⟩ := s.scenes.setEdit_frame { s.scenes.editContext with
      stages := s.scenes.editContext.stages.set stage (st.write id p) }
    obtain ⟨shape, length, value⟩ := Stage.write_spec own whole p
    exact ⟨_, st.write id p, State.runBinding_writes gives hst, rfl, context, trails, last, built, none_, shape, length, value⟩
  · intro s' edit
    have done : exec .cueTaken s = .next (s'.act s.cues.filters[n].action c) := exec_cueTaken_uncopied on queue matched copy
    refine ⟨fun arg action => ?_, fun action => ?_, fun action few => ?_, fun action => ?_, fun k action => ?_⟩
    · rw [← recallSlot_eq, done, action]
      refine ⟨fun beyond => by rw [State.act_recall_none s' beyond], fun k slot empty => ?_, fun k slot valid => ?_, fun k slot valid steady => ?_⟩
      · rw [State.act_recall s' slot, ← slot]
        exact congrArg Host.Outcome.next (if_neg (by simp [s', Store.slotValid, empty]))
      · rw [State.act_recall s' slot, State.cueRecall, if_pos (show s'.store.slotValid k = true from valid)]
        exact ⟨_, rfl, recallTaken_acceptRecall _ _ _ _ _⟩
      · rw [State.act_recall s' slot, State.cueRecall, if_pos (show s'.store.slotValid k = true from valid),
          State.acceptRecall_steady (s := s') steady]
        exact ⟨newIncoming (.slot k) .cue none none (s.scenes.lastRecall + 1), rfl, rfl⟩
    · rw [done, action]
      exact ⟨_, rfl, s'.takeTap_spec c.stamp⟩
    · rw [done, action]
      obtain ⟨loss, last, beat, position, locked, source, tapRun⟩ := s.tempo.clock_keeps c.stamp
      refine ⟨_, rfl, ?_⟩
      rw [State.act, State.takeClock_spec (s := s') few]
      refine ⟨rfl, loss, last, beat, position, locked, source, tapRun, fun first => ?_, fun last last_ => ⟨fun second =>
        Tempo.clock_second last_ second _, fun p first => ⟨Tempo.clock_inTolerance last_ first, Tempo.clock_outOfTolerance last_ first⟩⟩⟩
      have begun := Tempo.clock_first first c.stamp
      simp only [begun, s', and_self]
    · rw [done, action]
      exact ⟨_, rfl, rfl, s.tuner.toggled_spec⟩
    · rw [done, action, State.act_bind]
      have one (target : Target) (h : edit.bindings = [⟨k.val, target⟩]) :
          ((edit.bindings.filter fun b => b.number = k.val).foldl (fun u b => u.runBinding c b.target) s') = s'.runBinding c target := by
        rw [h]
        simp
      refine ⟨fun none_ => ?_, fun l mode h => congrArg Host.Outcome.next (one _ h), fun stage id low high h => ⟨fun idle => ?_,
        fun st spec p hst hspec kind gives => ?_⟩⟩
      · rw [List.filter_eq_nil_iff.2 fun b hb => by simpa using none_ b hb]
        rfl
      · exact congrArg Host.Outcome.next ((one _ h).trans (State.runBinding_idle idle stage id low high))
      · have written : st.write id p = { st with params := st.params.set id (max spec.lo (min spec.hi p)) } := by
          rw [Stage.write_param hspec, gateRule_of_not_threshold fun h => absurd h kind]
          rfl
        obtain ⟨context, trails, -, -, -⟩ := s.scenes.setEdit_frame { edit with stages := edit.stages.set stage (st.write id p) }
        rw [← written]
        exact ⟨_, congrArg Host.Outcome.next ((one _ h).trans (State.runBinding_writes (s := s') gives hst)), rfl, context, trails,
          s.scenes.setEdit_built_isSome _⟩

end Sys2Proof.Machine
end

section
/-! CORRECTNESS. The switch scanner: readings, SWITCH_DEBOUNCE and SWITCH_HOLD (spec/07 7.2). -/

namespace Sys2Proof.Machine

/-! ## What a cue leaves of the scanners -/

theorem CueUnit.enqueue_scanners (u : CueUnit) (c : Cue) :
    (u.enqueue c).switches = u.switches ∧ (u.enqueue c).pedals = u.pedals ∧ (u.enqueue c).fifo = u.fifo := by
  rcases u.enqueue_cases c with ⟨-, e⟩ | ⟨-, -, q, -, e⟩ | ⟨-, e⟩ <;> rw [e] <;> exact ⟨rfl, rfl, rfl⟩

theorem CueUnit.enqueue_room {u : CueUnit} (h : u.queue.length < 16) (c : Cue) : u.enqueue c = { u with queue := u.queue ++ [c] } :=
  if_pos h

theorem CueUnit.enqueue_lost {u : CueUnit} (full : 16 ≤ u.queue.length) {c : Cue} (other : c.source ≠ sourcePedals) :
    u.enqueue c = { u with lost := true } :=
  (if_neg (Nat.not_lt.2 full)).trans (if_neg other)

/-- A switch's cue in the queue. -/
def switchCueAt (now : Stamp) (i : Fin 8) (kind : CueKind) (value : BitVec 10) : Cue := ⟨0, kind, BitVec.ofNat 8 i.val, value, now⟩

/-- What a switch's cue does to the queue. -/
theorem CueUnit.enqueue_switchCue (u : CueUnit) (now : Stamp) (i : Fin 8) (kind : CueKind) (value : BitVec 10) :
    let v := u.enqueue (switchCueAt now i kind value)
    (u.queue.length < 16 → v.queue = u.queue ++ [switchCueAt now i kind value]) ∧
    (16 ≤ u.queue.length → v.queue = u.queue ∧ v.lost = true) := by
  refine ⟨fun room => by rw [CueUnit.enqueue_room room], fun full => ?_⟩
  rw [CueUnit.enqueue_lost full (c := switchCueAt now i kind value) (show (0 : BitVec 4) ≠ 1 by decide)]
  exact ⟨rfl, rfl⟩

/-! ## SWITCH_DEBOUNCE and SWITCH_HOLD (R121, R122) -/

theorem State.debounce_early {s : State} {i : Fin 8} (h : s.cues.switches[i].debounceDue = false) : s.debounce i = s :=
  if_neg (by rw [h]; decide)

theorem State.holdCue_early {s : State} {i : Fin 8} (h : s.cues.switches[i].holdDue = false) : s.holdCue i = s :=
  if_neg (by rw [h]; decide)

theorem State.foldl_idle {α : Type} {f : State → α → State} {as : List α} {s : State} (h : ∀ a ∈ as, f s a = s) : as.foldl f s = s := by
  induction as with
  | nil => rfl
  | cons a as ih =>
    rw [List.foldl_cons, h a (List.mem_cons_self ..)]
    exact ih fun b hb => h b (List.mem_cons_of_mem _ hb)

/-- No cue of a switch below number n waits. -/
theorem State.settleSwitches_quiet {s : State} {n : Nat}
    (h : ∀ j : Fin 8, j.val < n → s.cues.switches[j].debounceDue = false ∧ s.cues.switches[j].holdDue = false) :
    s.settleSwitches n = s := by
  refine State.foldl_idle fun j below => ?_
  obtain ⟨debounce, hold⟩ := h j (by simpa using (List.mem_filter.1 below).2)
  rw [State.debounce_early debounce, State.holdCue_early hold]

/-- The cue unit with a switch replaced. -/
def CueUnit.setSwitch (u : CueUnit) (i : Fin 8) (sw : Switch) : CueUnit := { u with switches := u.switches.set i sw }

theorem CueUnit.setSwitch_same (u : CueUnit) (i : Fin 8) (sw : Switch) : (u.setSwitch i sw).switches[i] = sw := Vector.getElem_set_self ..

theorem CueUnit.setSwitch_other (u : CueUnit) {i j : Fin 8} (h : j ≠ i) (sw : Switch) : (u.setSwitch i sw).switches[j] = u.switches[j] :=
  Vector.getElem_set_ne i.isLt j.isLt fun same => h (Fin.ext same.symm)

theorem State.debounce_due {s : State} {i : Fin 8} (due : s.cues.switches[i].debounceDue = true) :
    let u := s.cues.setSwitch i s.cues.switches[i].settle
    (s.cues.switches[i].debounceCue = none → s.debounce i = s.withCues u) ∧
    ∀ kind value, s.cues.switches[i].debounceCue = some (kind, value) →
      s.debounce i = s.withCues (u.enqueue (switchCueAt s.sampleCounter i kind value)) := by
  refine ⟨fun cue => ?_, fun kind value cue => ?_⟩
  all_goals
    simp only [State.debounce, due, cue]
    rfl

/-- The switch as a completed debounce leaves it, and the cue unit apart from the queue. -/
theorem State.debounce_frame {s : State} {i : Fin 8} (due : s.cues.switches[i].debounceDue = true) :
    (s.debounce i).cues.switches = (s.cues.setSwitch i s.cues.switches[i].settle).switches ∧
    s.debounce i = { s with cues := (s.debounce i).cues } ∧ (s.debounce i).cues.pedals = s.cues.pedals ∧
    (s.debounce i).cues.fifo = s.cues.fifo := by
  obtain ⟨quiet, made⟩ := State.debounce_due due
  cases cue : s.cues.switches[i].debounceCue with
  | none =>
    rw [quiet cue]
    exact ⟨rfl, rfl, rfl, rfl⟩
  | some c =>
    rw [made c.1 c.2 cue]
    obtain ⟨switches, pedals, fifo⟩ := CueUnit.enqueue_scanners (s.cues.setSwitch i s.cues.switches[i].settle)
      (switchCueAt s.sampleCounter i c.1 c.2)
    exact ⟨switches, rfl, pedals, fifo⟩

/-- What a completed debounce makes of the queue. -/
theorem State.debounce_queue {s : State} {i : Fin 8} (due : s.cues.switches[i].debounceDue = true) :
    (s.cues.switches[i].debounceCue = none → (s.debounce i).cues.queue = s.cues.queue) ∧
    ∀ kind value, s.cues.switches[i].debounceCue = some (kind, value) →
      (s.cues.queue.length < 16 → (s.debounce i).cues.queue = s.cues.queue ++ [switchCueAt s.sampleCounter i kind value]) ∧
      (16 ≤ s.cues.queue.length → (s.debounce i).cues.queue = s.cues.queue ∧ (s.debounce i).cues.lost = true) := by
  obtain ⟨quiet, made⟩ := State.debounce_due due
  refine ⟨fun cue => by rw [quiet cue]; rfl, fun kind value cue => ?_⟩
  rw [made kind value cue]
  exact CueUnit.enqueue_switchCue (s.cues.setSwitch i s.cues.switches[i].settle) s.sampleCounter i kind value

theorem Switch.settle_eq (sw : Switch) : sw.settle.state = (if sw.last = some true then .pressed else .released) ∧
    (sw.state = .released → sw.last = some true → sw.settle.hold = 0 ∧ sw.settle.holdRunning = true) := by
  refine ⟨?_, fun released pressed => ?_⟩
  · rw [Switch.settle]
    exact if_congr beq_iff_eq rfl rfl
  · simp [Switch.settle, released, pressed]

theorem Switch.debounceCue_isSome {sw : Switch} (h : sw.state ≠ .unknown) : ∃ c, sw.debounceCue = some c := by
  unfold Switch.debounceCue
  cases state : sw.state with
  | unknown => exact absurd state h
  | released => exact ⟨_, rfl⟩
  | pressed => exact ⟨_, rfl⟩

/-! ## A reading of the switches (R120, R121, R122) -/

theorem Switch.read_spec (sw : Switch) (pressed : Bool) (debounce hold : Nat) : let r := sw.read pressed debounce hold
    r.state = sw.state ∧ r.holdRunning = sw.holdRunning ∧ r.last = some pressed ∧
    (sw.state = .unknown → r.count = if sw.last = some pressed then sw.count + 1 else 1) ∧
    (sw.state = .pressed → r.count = if pressed = true then 0 else sw.count + 1) ∧
    (sw.state = .released → r.count = if pressed = true then sw.count + 1 else 0) ∧
    r.hold = (if sw.holdRunning = true then sw.hold + 1 else sw.hold) ∧
    (r.debounceDue = true ↔ 0 < r.count ∧ debounce ≤ r.count) ∧
    (r.holdDue = true ↔ sw.holdRunning = true ∧ hold ≤ r.hold) := by
  refine ⟨rfl, rfl, rfl, fun state => ?_, fun state => ?_, fun state => ?_, rfl, ?_, ?_⟩
  · simp only [Switch.read, state]
  · simp only [Switch.read, state]
  · simp only [Switch.read, state]
  · simp only [Switch.read, Bool.and_eq_true, decide_eq_true_iff]
  · simp only [Switch.read, Bool.and_eq_true, decide_eq_true_iff]

section
variable (s : State)

theorem State.makeCue_switches (src : BitVec 4) (k : CueKind) (i : BitVec 8) (v : BitVec 10) :
    (s.makeCue src k i v).cues.switches = s.cues.switches := (CueUnit.enqueue_scanners _ _).1

theorem State.scanPedals_switches (l : List (Fin 4)) : (s.scanPedals l).cues.switches = s.cues.switches := by
  induction l generalizing s with
  | nil => rfl
  | cons i l ih =>
    unfold State.scanPedals
    dsimp only
    split
    · exact ih s
    · split
      · rfl
      · split
        · exact (ih _).trans (State.makeCue_switches _ _ _ _ _)
        · exact ih _

theorem State.takeUnplug_switches (i : Fin 4) : (s.takeUnplug i).cues.switches = s.cues.switches := by
  unfold State.takeUnplug
  dsimp only
  split
  · exact State.scanPedals_switches _ _
  · rfl

theorem State.takePlug_switches (i : Fin 4) : (s.takePlug i).cues.switches = s.cues.switches := by
  unfold State.takePlug
  dsimp only
  split
  · split
    · exact State.scanPedals_switches _ _
    · exact (State.scanPedals_switches _ _).trans (State.makeCue_switches _ _ _ _ _)
  · rfl

theorem State.settlePlugs_switches (n : Nat) : (s.settlePlugs n).cues.switches = s.cues.switches := by
  induction n generalizing s with
  | zero => rfl
  | succ n ih =>
    unfold State.settlePlugs
    split
    · exact (ih _).trans ((State.takePlug_switches _ _).trans (s.takeUnplug_switches _))
    · rfl

theorem State.takePedalScan_switches : s.takePedalScan.cues.switches = s.cues.switches := by
  unfold State.takePedalScan
  split
  · exact (State.scanPedals_switches _ _).trans (s.settlePlugs_switches 4)
  · rfl

theorem State.settle_cues : s.settle.cues = s.scanned.cues := by
  rw [State.settle_eq, State.timed]
  simp [State.takeTrailOwnEnds_keeps, State.takeGateHoldEnds_keeps, State.takeBoundary_keeps, State.takeSwitchEnd_keeps,
    State.completeLoadIfDue_keeps, State.takeTrailFadeEnds_keeps, State.takeDipIn_keeps, State.takeClockLoss_keeps,
    State.takeClockUpdate_keeps, State.takeClockLock_keeps, State.takeBeat_keeps]
end

theorem State.scanned_switches {s : State} (quiet : ∀ i : Fin 8, s.cues.switches[i].debounceDue = false ∧ s.cues.switches[i].holdDue = false) :
    s.scanned.cues.switches = s.cues.switches := by
  rw [State.scanned, State.settleSwitches_quiet fun j _ => quiet j]
  simp only [State.takeTunerLoss_keeps, State.takeTunerRun_keeps, State.settlePlugs_switches, State.takePedalScan_switches]

/-- A frame reads the contacts with the debounce and hold times that stand (R120). -/
theorem State.takeFrame_switches {s : State} (running : s.startUp.phase = .running) (f : FrameInputs) (i : Fin 8) :
    (s.takeFrame f).cues.switches[i] =
      s.settle.cues.switches[i].read (!f.contacts.getLsbD i.val) (s.cues.debounceMs * 48) (s.cues.holdMs * 48) := by
  have counted : ((s.settle.frameRender f).frameCount f).cues = s.settle.cues := by
    simp only [State.frameCount_keeps, State.frameRender_keeps]
  have ready : ((s.settle.frameRender f).frameCount f).ready = true := by
    simp [State.ready, State.frameCount_keeps, State.frameRender_keeps, State.settle_keeps, running]
  have standing : s.settle.cues.standing = s.cues.standing := by
    have := s.settle_standing
    simp only [State.standing, Prod.mk.injEq] at this
    exact this.2.2.2.1
  simp only [CueUnit.standing, Prod.mk.injEq] at standing
  obtain ⟨-, -, -, -, -, debounce, hold, -, -, -⟩ := standing
  rw [State.takeFrame, State.frameScan, ready]
  simp [counted, CueUnit.readSwitches, debounce, hold]

/-- Settles O26. -/
theorem switchEventsMakeTheirCues : Obligations.SwitchEventsMakeTheirCues := by
  unfold Obligations.SwitchEventsMakeTheirCues
  refine ⟨Switch.read_spec, fun s f running quiet => ?_, fun s i on due quiet => ?_, fun s i on due quiet => ?_, fun s i on => ⟨?_, ?_⟩⟩
  · have powered : s.powered := by simp [State.powered, running]
    refine ⟨_, exec_audioFrame powered f, fun i => ?_⟩
    rw [State.takeFrame_switches running f i, s.settle_cues, State.scanned_switches quiet]
  · obtain ⟨switches, rest, pedals, fifo⟩ := State.debounce_frame due
    obtain ⟨quietQueue, queue⟩ := State.debounce_queue due
    obtain ⟨state, hold⟩ := s.cues.switches[i].settle_eq
    have own : (s.debounce i).cues.switches[i] = s.cues.switches[i].settle := by
      rw [switches, CueUnit.setSwitch_same]
    intro sw
    refine ⟨s.debounce i, ?_, by rw [own]; exact state, by rw [own]; rfl, by rw [own]; rfl, fun j other => ?_, by rw [own]; exact hold,
      fun unknown => quietQueue (by rw [Switch.debounceCue, unknown]),
      fun released room => (queue .switchDown 1023 (by rw [Switch.debounceCue, released])).1 room,
      fun pressed room => (queue .switchUp 0 (by rw [Switch.debounceCue, pressed])).1 room, fun known full => ?_, rest, pedals, fifo⟩
    · rw [exec_switchDebounce on, due, State.settleSwitches_quiet quiet]
      rfl
    · rw [switches, CueUnit.setSwitch_other _ other]
    · obtain ⟨⟨kind, value⟩, cue⟩ := Switch.debounceCue_isSome known
      exact (queue kind value cue).2 full
  · let u := s.cues.setSwitch i { s.cues.switches[i] with holdRunning := false, holdDue := false }
    have held : s.holdCue i = s.withCues (u.enqueue (switchCueAt s.sampleCounter i .switchHold 1023)) := by
      simp only [State.holdCue, due]
      rfl
    obtain ⟨switches, pedals, fifo⟩ := u.enqueue_scanners (switchCueAt s.sampleCounter i .switchHold 1023)
    obtain ⟨room, full⟩ := u.enqueue_switchCue s.sampleCounter i .switchHold 1023
    refine ⟨s.holdCue i, ?_, ?_⟩
    · rw [exec_switchHold on, due, State.settleSwitches_quiet quiet]
      rfl
    · rw [held]
      exact ⟨switches, room, full, rfl, pedals, fifo⟩
  · intro early
    rw [exec_switchDebounce on, early]
    rfl
  · intro early
    rw [exec_switchHold on, early]
    rfl

end Sys2Proof.Machine
end

section
/-! CORRECTNESS. Cutting trails for lines or for the budget, and LOAD_READ (spec/05 5.4, 5.8, spec/06 6.4). -/

namespace Sys2Proof.Machine

/-! ## What cutting trails may change (R100) -/

/-- From `s` to `t` trails were cut, and nothing else happened. -/
structure State.Cuts (s t : State) : Prop where
  frame : t = { s with scenes := { s.scenes with trails := t.scenes.trails }, delay := t.delay }
  names : t.scenes.trails.map Trail.line = s.scenes.trails.map Trail.line
  mem : t.delay.mem = s.delay.mem
  present : t.delay.present = s.delay.present
  lines : ∀ l : Fin 4, t.delay.lines[l] = s.delay.lines[l] ∨ t.delay.lines[l] = { s.delay.lines[l] with holder := .cutting }

theorem State.Cuts.refl (s : State) : s.Cuts s := ⟨rfl, rfl, rfl, rfl, fun _ => .inl rfl⟩

theorem State.Cuts.trans {s t u : State} (h : s.Cuts t) (h' : t.Cuts u) : s.Cuts u where
  frame := by
    have second := h'.frame
    rw [h.frame] at second
    exact second
  names := h'.names.trans h.names
  mem := h'.mem.trans h.mem
  present := h'.present.trans h.present
  lines l := by
    rcases h'.lines l with e | e <;> rw [e] <;> rcases h.lines l with e' | e' <;> rw [e']
    · exact .inl rfl
    · exact .inr rfl
    · exact .inr rfl
    · exact .inr rfl

theorem cutFirst_eq_none {as : TrailState} {ts : List Trail} : cutFirst as ts = none ↔ runningTrails ts = 0 := by
  induction ts with
  | nil => exact ⟨fun _ => rfl, fun _ => rfl⟩
  | cons t rest ih =>
    by_cases h : t.state = .running
    · simp [cutFirst, runningTrails, h]
    · simpa [cutFirst, runningTrails, h] using ih

/-- The oldest running trail, its line, and the trail list once it is cut. -/
theorem State.cutOldest_running {s : State} (h : 0 < runningTrails s.scenes.trails) (as : TrailState) : ∃ pre t post,
    s.scenes.trails = pre ++ t :: post ∧ t.state = .running ∧ cutFirst as s.scenes.trails = some (t.line, pre ++ { t with state := as } :: post) ∧
    s.cutOldest as = (s.withScenes { s.scenes with trails := pre ++ { t with state := as } :: post }).withDelay
      (s.delay.hold t.line .cutting) := by
  cases first : cutFirst as s.scenes.trails with
  | none => rw [cutFirst_eq_none.1 first] at h; cases h
  | some p =>
    obtain ⟨line, trails⟩ := p
    obtain ⟨pre, t, post, list, rfl, rfl, running⟩ := cutFirst_eq_some first
    refine ⟨pre, t, post, list, running, rfl, ?_⟩
    rw [State.cutOldest, first]

theorem State.cutOldest_none {s : State} (h : runningTrails s.scenes.trails = 0) (as : TrailState) : s.cutOldest as = s := by
  rw [State.cutOldest, cutFirst_eq_none.2 h]

theorem State.cutOldest_cuts (s : State) (as : TrailState) : s.Cuts (s.cutOldest as) := by
  rcases Nat.eq_zero_or_pos (runningTrails s.scenes.trails) with none_ | some_
  · rw [State.cutOldest_none none_]
    exact .refl s
  · obtain ⟨pre, t, post, list, -, -, cut⟩ := State.cutOldest_running some_ as
    rw [cut]
    refine ⟨rfl, by simp [list], rfl, rfl, fun l => ?_⟩
    rw [State.withDelay_delay, DelayMemory.lines_hold]
    by_cases same : t.line = l
    · rw [if_pos same, same]
      exact .inr rfl
    · exact .inl (if_neg same)

theorem State.cutForLines_cuts (s : State) (need n : Nat) : s.Cuts (s.cutForLines need n) := by
  induction n generalizing s with
  | zero => exact .refl s
  | succ n ih =>
    unfold State.cutForLines
    split
    · exact (s.cutOldest_cuts .cutWait).trans (ih _)
    · exact .refl s

theorem State.cutForBudget_cuts (s : State) (cost n : Nat) : s.Cuts (s.cutForBudget cost n) := by
  induction n generalizing s with
  | zero => exact .refl s
  | succ n ih =>
    unfold State.cutForBudget
    split
    · exact (s.cutOldest_cuts (.cutting 0)).trans (ih _)
    · exact .refl s

/-- Each line of a cut trail is CUTTING, and no other line changes. -/
theorem State.Cuts.line {s t : State} (h : s.Cuts t) (ok : t.linesOk) (l : Fin 4) :
    ((∃ u ∈ t.scenes.trails, u.line = l ∧ u.state ≠ .running) → t.delay.lines[l] = { s.delay.lines[l] with holder := .cutting }) ∧
    ((¬∃ u ∈ t.scenes.trails, u.line = l ∧ u.state ≠ .running) → t.delay.lines[l] = s.delay.lines[l]) := by
  obtain ⟨-, -, -, cutting, -⟩ := ok
  refine ⟨fun cut => ?_, fun whole => ?_⟩
  · have holder := (cutting l).2 cut
    rcases h.lines l with e | e
    · rw [e] at holder ⊢
      rw [← holder]
    · exact e
  · rcases h.lines l with e | e
    · exact e
    · exact absurd ((cutting l).1 (by rw [e])) whole

/-! ## Counting lines (R89) -/

theorem DelayMemory.countHolders_eq (d : DelayMemory) (p : Holder → Bool) : d.countHolders p =
    (if p d.lines[(0 : Fin 4)].holder then 1 else 0) + (if p d.lines[(1 : Fin 4)].holder then 1 else 0) +
    (if p d.lines[(2 : Fin 4)].holder then 1 else 0) + if p d.lines[(3 : Fin 4)].holder then 1 else 0 := by
  rw [DelayMemory.countHolders, ← List.countP_eq_length_filter]
  simp [List.finRange_succ, List.countP_cons]
  omega

theorem DelayMemory.countHolders_hold (d : DelayMemory) (l : Fin 4) (h : Holder) (p : Holder → Bool) :
    (d.hold l h).countHolders p + (if p d.lines[l].holder then 1 else 0) = d.countHolders p + if p h then 1 else 0 := by
  rw [DelayMemory.countHolders_eq, DelayMemory.countHolders_eq]
  simp only [DelayMemory.lines_hold]
  fin_cases l <;> simp <;> omega

theorem DelayMemory.lines_cutTrail {d : DelayMemory} {l : Fin 4} (h : d.lines[l].holder = .trail) :
    (d.hold l .cutting).freeLines = d.freeLines ∧ (d.hold l .cutting).cuttingLines = d.cuttingLines + 1 := by
  have free := d.countHolders_hold l .cutting (· == .free)
  have cutting := d.countHolders_hold l .cutting (· == .cutting)
  rw [h] at free cutting
  exact ⟨by simpa [DelayMemory.freeLines] using free, by simpa [DelayMemory.cuttingLines] using cutting⟩

theorem runningTrails_append (ts us : List Trail) : runningTrails (ts ++ us) = runningTrails ts + runningTrails us := by
  simp [runningTrails]

theorem runningTrails_cons (t : Trail) (ts : List Trail) : runningTrails (t :: ts) = (if t.state = .running then 1 else 0) + runningTrails ts := by
  by_cases h : t.state = .running <;> simp [runningTrails, h, Nat.add_comm]

theorem cutOldestTrails_none {ts : List Trail} (h : runningTrails ts = 0) (n : Nat) : cutOldestTrails n ts = ts := by
  induction ts generalizing n with
  | nil => cases n <;> rfl
  | cons t ts ih =>
    rw [runningTrails_cons] at h
    cases n with
    | zero => rfl
    | succ n =>
      by_cases running : t.state = .running
      · rw [if_pos running] at h
        omega
      · rw [cutOldestTrails, if_neg running, ih (by omega)]

/-- Cutting one trail more is cutting the oldest and then the rest. -/
theorem cutOldestTrails_succ {ts ts' : List Trail} {l : Fin 4} (h : cutFirst .cutWait ts = some (l, ts')) (n : Nat) :
    cutOldestTrails (n + 1) ts = cutOldestTrails n ts' := by
  have skip (t : Trail) (ts : List Trail) (whole : t.state ≠ .running) (n : Nat) :
      cutOldestTrails n (t :: ts) = t :: cutOldestTrails n ts := by
    cases n with
    | zero => cases ts <;> rfl
    | succ n => rw [cutOldestTrails, if_neg whole]
  induction ts generalizing ts' with
  | nil => cases h
  | cons t ts ih =>
    unfold cutFirst at h
    split at h
    next running =>
      cases h
      rw [cutOldestTrails, if_pos running, skip _ _ (by rintro ⟨⟩)]
    next whole =>
      obtain ⟨⟨l', rest⟩, hrest, e⟩ := Option.map_eq_some_iff.1 h
      cases e
      rw [skip _ _ whole, ih hrest, skip _ _ whole]

/-- The trails that a load with too few lines cuts; at most n of them run. -/
theorem State.cutForLines_trails {s : State} {need n : Nat} (ok : s.linesOk) (few : runningTrails s.scenes.trails ≤ n) :
    (s.cutForLines need n).scenes.trails =
      cutOldestTrails (need - (s.delay.freeLines + s.delay.cuttingLines)) s.scenes.trails := by
  induction n generalizing s with
  | zero => exact (cutOldestTrails_none (Nat.le_zero.1 few) _).symm
  | succ n ih =>
    unfold State.cutForLines
    by_cases more : s.delay.freeLines + s.delay.cuttingLines < need ∧ 0 < runningTrails s.scenes.trails
    · obtain ⟨lacking, running⟩ := more
      obtain ⟨pre, t, post, list, runs, first, cut⟩ := State.cutOldest_running running .cutWait
      have held : s.delay.lines[t.line].holder = .trail := by
        obtain ⟨-, -, trail, -, -⟩ := ok
        exact (trail t.line).2 ⟨t, by simp [list], rfl, runs⟩
      obtain ⟨free, cutting⟩ := DelayMemory.lines_cutTrail held
      have fewer : runningTrails (s.cutOldest .cutWait).scenes.trails ≤ n := by
        rw [list, runningTrails_append, runningTrails_cons, if_pos runs] at few
        rw [cut, State.withDelay_scenes, State.withScenes_scenes, runningTrails_append, runningTrails_cons, if_neg (by rintro ⟨⟩)]
        omega
      rw [if_pos ⟨lacking, running⟩, ih ((s.cutOldest_works (by rintro ⟨⟩)).lines ok) fewer, cut]
      obtain ⟨k, hk⟩ : ∃ k, need - (s.delay.freeLines + s.delay.cuttingLines) = k + 1 :=
        ⟨need - (s.delay.freeLines + s.delay.cuttingLines) - 1, by omega⟩
      rw [hk, cutOldestTrails_succ first]
      congr 1
      rw [State.withDelay_delay, free, cutting]
      omega
    · rw [if_neg more]
      rcases Nat.eq_zero_or_pos (runningTrails s.scenes.trails) with none_ | some_
      · exact (cutOldestTrails_none none_ _).symm
      · rw [Nat.sub_eq_zero_of_le (by omega)]
        cases s.scenes.trails <;> rfl

/-- Four lines hold at most four trails. -/
theorem State.linesOk.trails_length {s : State} (ok : s.linesOk) : s.scenes.trails.length ≤ 4 := by
  obtain ⟨-, -, -, -, once⟩ := ok
  have nodup : (s.scenes.trails.map Trail.line).Nodup := List.pairwise_map.2 once
  simpa using nodup.length_le_card

theorem runningTrails_le_length (ts : List Trail) : runningTrails ts ≤ ts.length := List.length_filter_le _ _

/-! ## LOAD_READ (R87..R89, R113) -/

theorem Store.readForLoad_empty {st : Store} {n : Fin 128} (h : st.directory[n] = none) : st.readForLoad n = .empty :=
  if_pos (by simp [Store.slotValid, h])

theorem State.readSource_waits {s : State} {n : Fin 128} (h : s.loadWaits n) : s.readSource (.slot n) = .wait := by
  obtain ⟨valid, op, phase, image, engine, other, bank⟩ := h
  simp only [Fin.getElem_fin] at valid
  simp [State.readSource, Store.readForLoad, Store.slotValid, valid, engine, other, bank, slotBank]

theorem State.readSource_reads {s : State} {source : Source} {bs : List Byte} (h : s.loadReads source bs) :
    s.readSource source = .bytes bs := by
  cases source with
  | upload => rw [show bs = s.upload from h]; rfl
  | passthrough => rw [show bs = writeRecord passthroughRecord from h]; rfl
  | slot n =>
    obtain ⟨valid, read⟩ := h
    simp only [Fin.getElem_fin] at valid
    cases engine : s.store.engine with
    | idle =>
      rw [engine] at read
      simp [State.readSource, Store.readForLoad, Store.slotValid, valid, engine, read]
    | writing op phase image =>
      rw [engine] at read
      by_cases own : op = .store n
      · simp only [own, if_true] at read
        simp [State.readSource, Store.readForLoad, Store.slotValid, valid, engine, own, read]
      · simp only [own, if_false] at read
        simp [State.readSource, Store.readForLoad, Store.slotValid, valid, engine, own, read.1, read.2, slotBank]

section
/-! A load that reads: at its first read, or where it waited for the flash. -/
variable {s : State} {c : Context} {phase : LoadPhase} (h : s.scenes.scene = .loading c phase)
  (reads : phase = .toRead ∨ phase = .waiting)
include h reads

theorem State.takeLoadRead_empty (read : s.readSource c.source = .empty) : s.takeLoadRead = s.failLoad c .noSlot 0 := by
  rcases reads with rfl | rfl <;> simp only [State.takeLoadRead, h, read]

theorem State.takeLoadRead_wait (read : s.readSource c.source = .wait) : s.takeLoadRead = s.setScene (.loading c .waiting) := by
  rcases reads with rfl | rfl <;> simp only [State.takeLoadRead, h, read]

theorem State.takeLoadRead_bad {bs : List Byte} {reason : Reason} {offset : Nat} (read : s.readSource c.source = .bytes bs)
    (bad : validate bs = .bad reason offset) : s.takeLoadRead = s.failLoad c reason offset := by
  rcases reads with rfl | rfl <;> simp only [State.takeLoadRead, h, read, bad]

theorem State.takeLoadRead_ok {bs : List Byte} {cost delays : Nat} (read : s.readSource c.source = .bytes bs)
    (ok : validate bs = .ok cost delays) :
    let u := s.setScene (.loading (c.takeRecord (Machine.readRecord bs) cost delays) (.lines (Machine.readRecord bs)))
    s.takeLoadRead = if u.delay.enough delays then u else u.cutForLines delays 4 := by
  rcases reads with rfl | rfl <;> simp only [State.takeLoadRead, h, read, ok]
end

theorem DelayMemory.enough_iff (d : DelayMemory) (n : Nat) : d.enough n = true ↔ n = 0 ∨ d.present = false ∨ n ≤ d.freeLines := by
  simp [DelayMemory.enough, or_assoc]

/-- Settles O29. -/
theorem loadReadValidatesItsRecord : Obligations.LoadReadValidatesItsRecord := by
  unfold Obligations.LoadReadValidatesItsRecord
  intro s c phase on loading reads failed
  rw [exec_loadRead on]
  have failLoad (reason : Reason) (offset : Nat) : s.failLoad c reason offset = failed reason.code offset := rfl
  refine ⟨fun n source empty => ?_, fun n source waits => ?_, fun bs reason offset read bad => ?_, fun bs cost delays read ok => ?_⟩
  · rw [State.takeLoadRead_empty loading reads (by rw [source]; exact Store.readForLoad_empty empty), failLoad]
    rfl
  · rw [State.takeLoadRead_wait loading reads (by rw [source]; exact State.readSource_waits waits)]
    rfl
  · rw [State.takeLoadRead_bad loading reads (State.readSource_reads read) bad, failLoad]
  · intro r c'
    let u := s.setScene (.loading c' (.lines r))
    have taken : s.takeLoadRead = if s.delay.enough delays then u else u.cutForLines delays 4 :=
      State.takeLoadRead_ok loading reads (State.readSource_reads read) ok
    refine ⟨fun enough => ?_, fun some_ present lacking => ?_⟩
    · rw [taken, if_pos ((s.delay.enough_iff delays).2 enough)]
      rfl
    · have short : ¬s.delay.enough delays = true := by
        rw [DelayMemory.enough_iff]
        rintro (h | h | h)
        · exact some_ h
        · simp [present] at h
        · omega
      rw [taken, if_neg short]
      have cuts := u.cutForLines_cuts delays 4
      have frame := cuts.frame
      have follows : s.linesOk → u.linesOk := fun ok => by
        have built : u.scenes.scene.built = s.scenes.scene.built := by
          rw [loading]
          rfl
        obtain ⟨playing, incoming, rest⟩ := ok
        refine ⟨playing, ?_, rest⟩
        rw [built]
        exact incoming
      refine ⟨_, rfl, by rw [frame]; rfl, by rw [frame]; rfl, fun whole => ?_, fun ok => ?_, cuts.names, cuts.mem⟩
      · have stop : ¬(u.delay.freeLines + u.delay.cuttingLines < delays ∧ 0 < runningTrails u.scenes.trails) := by
          rintro ⟨more, running⟩
          rcases whole with h | h
          · exact absurd h (Nat.pos_iff_ne_zero.1 running)
          · exact absurd h (Nat.not_le.2 more)
        rw [State.cutForLines, if_neg stop]
        exact ⟨rfl, rfl⟩
      · have fewTrails := (runningTrails_le_length _).trans (follows ok).trails_length
        refine ⟨State.cutForLines_trails (follows ok) fewTrails, fun l => ?_⟩
        obtain ⟨cut, whole⟩ := cuts.line ((u.cutForLines_works delays 4).lines (follows ok)) l
        split
        next h => exact cut h
        next h => exact whole h

end Sys2Proof.Machine
end

section
/-! CORRECTNESS. LOAD_COMPLETE: the stages built and the lines allocated (spec/05 5.4, spec/03 3.1). -/

namespace Sys2Proof.Machine

/-! ## Allocation (R38) -/

/-- A line as its allocation for stage n of the incoming context leaves it. -/
def Line.allocated (ln : Line) (n : Nat) : Line :=
  { ln with holder := .incoming n, wp := 0, span := 0, readFifo := [], writeFifo := [], window := [] }

theorem DelayMemory.lowestFree_eq (d : DelayMemory) : d.lowestFree = d.freeList.head? := by
  rw [DelayMemory.freeList, List.head?_filter]
  rfl

theorem DelayMemory.freeList_nodup (d : DelayMemory) : d.freeList.Nodup := (List.nodup_finRange 4).filter _

theorem DelayMemory.allocate_free {d : DelayMemory} {l : Fin 4} {rest : List (Fin 4)} (h : d.freeList = l :: rest) (n : Nat) :
    d.allocate n = (some l, d.setLine l (d.lines[l].allocated n)) := by
  rw [DelayMemory.allocate, DelayMemory.lowestFree_eq, h]
  rfl

theorem DelayMemory.allocate_memory (d : DelayMemory) (n : Nat) : (d.allocate n).2.mem = d.mem ∧ (d.allocate n).2.present = d.present := by
  unfold DelayMemory.allocate
  split <;> exact ⟨rfl, rfl⟩

theorem DelayMemory.freeList_allocated {d : DelayMemory} {l : Fin 4} {rest : List (Fin 4)} (h : d.freeList = l :: rest) (n : Nat) :
    (d.setLine l (d.lines[l].allocated n)).freeList = rest := by
  have nodup := d.freeList_nodup
  rw [h, List.nodup_cons] at nodup
  have filtered : (d.setLine l (d.lines[l].allocated n)).freeList = d.freeList.filter fun l' => l' ≠ l := by
    rw [DelayMemory.freeList, DelayMemory.freeList, List.filter_filter]
    refine List.filter_congr fun l' _ => ?_
    rw [DelayMemory.lines_setLine]
    by_cases same : l = l'
    · simp [same, Line.allocated]
    · simp [same, Ne.symm same]
  rw [filtered, h, List.filter_cons_of_neg (by simp), List.filter_eq_self]
  exact fun l' hl => decide_eq_true (fun same : l' = l => nodup.1 (same ▸ hl))

/-! ## Building stages in list order (R90) -/

section
variable (beat : Nat)

theorem buildStages_unlined {e : StageEntry} {d : DelayMemory} (h : e.kind ≠ .delay ∨ d.present = false) (rest : List StageEntry) (n : Nat) :
    buildStages beat (e :: rest) n d = (e.build none beat :: (buildStages beat rest (n + 1) d).1, (buildStages beat rest (n + 1) d).2) := by
  have no : ¬(e.kind = .delay ∧ d.present = true) := by
    rintro ⟨kind, present⟩
    rcases h with h | h
    · exact h kind
    · simp [h] at present
  rw [buildStages, if_neg no]

theorem buildStages_lined {e : StageEntry} {d : DelayMemory} (kind : e.kind = .delay) (present : d.present = true) (rest : List StageEntry)
    (n : Nat) : buildStages beat (e :: rest) n d = (e.build (d.allocate n).1 beat :: (buildStages beat rest (n + 1) (d.allocate n).2).1,
      (buildStages beat rest (n + 1) (d.allocate n).2).2) := by
  rw [buildStages, if_pos ⟨kind, present⟩]

/-- A stage list is built entry by entry, and building reaches no byte of the memory. -/
theorem buildStages_entries (es : List StageEntry) (n : Nat) (d : DelayMemory) :
    (buildStages beat es n d).1.length = es.length ∧ (buildStages beat es n d).2.mem = d.mem ∧
    ∀ (i : Nat) (e : StageEntry), es[i]? = some e →
      ∃ line, (buildStages beat es n d).1[i]? = some (e.build line beat) ∧ (d.present = false → line = none) := by
  induction es generalizing n d with
  | nil => exact ⟨rfl, rfl, fun i e h => by simp at h⟩
  | cons e es ih =>
    have step (line : Option (Fin 4)) (d' : DelayMemory) (present : d'.present = d.present) (given : d.present = false → line = none)
        (mem : d'.mem = d.mem) (h : buildStages beat (e :: es) n d =
          (e.build line beat :: (buildStages beat es (n + 1) d').1, (buildStages beat es (n + 1) d').2)) :
        (buildStages beat (e :: es) n d).1.length = (e :: es).length ∧ (buildStages beat (e :: es) n d).2.mem = d.mem ∧
        ∀ (i : Nat) (e' : StageEntry), (e :: es)[i]? = some e' →
          ∃ line, (buildStages beat (e :: es) n d).1[i]? = some (e'.build line beat) ∧ (d.present = false → line = none) := by
      obtain ⟨length, mem', entries⟩ := ih (n + 1) d'
      rw [h]
      refine ⟨congrArg Nat.succ length, mem'.trans mem, fun i e' hi => ?_⟩
      cases i with
      | zero =>
        obtain rfl : e = e' := by simpa using hi
        exact ⟨line, rfl, given⟩
      | succ i =>
        obtain ⟨line, got, absent⟩ := entries i e' hi
        exact ⟨line, got, fun gone => absent (present.trans gone)⟩
    by_cases lined : e.kind = .delay ∧ d.present = true
    · obtain ⟨mem, present⟩ := d.allocate_memory n
      exact step _ _ present (fun absent => by simp [absent] at lined) mem (buildStages_lined beat lined.1 lined.2 es n)
    · have unlined : e.kind ≠ .delay ∨ d.present = false := by
        rw [← Bool.not_eq_true]
        exact not_and_or.1 lined
      exact step none d rfl (fun _ => rfl) rfl (buildStages_unlined beat unlined es n)

theorem buildStages_no_delay {es : List StageEntry} (h : ∀ e ∈ es, e.kind ≠ .delay) (n : Nat) (d : DelayMemory) :
    (buildStages beat es n d).2 = d := by
  induction es generalizing n with
  | nil => rfl
  | cons e es ih =>
    rw [buildStages_unlined beat (.inl (h e (List.mem_cons_self ..)))]
    exact ih (fun e he => h e (List.mem_cons_of_mem _ he)) (n + 1)

/-- With lines enough each DELAY stage in list order takes the lowest-numbered line that is still FREE. -/
theorem buildStages_allocates {es : List StageEntry} {d : DelayMemory} (present : d.present = true)
    (enough : (es.filter fun e => e.kind = .delay).length ≤ d.freeList.length) (n : Nat) :
    (buildStages beat es n d).1.filterMap Stage.line = d.freeList.take (es.filter fun e => e.kind = .delay).length ∧
    (∀ (i : Nat) (st : Stage) (l : Fin 4), (buildStages beat es n d).1[i]? = some st → st.line = some l →
      (buildStages beat es n d).2.lines[l] = d.lines[l].allocated (n + i)) ∧
    (∀ l : Fin 4, l ∉ (buildStages beat es n d).1.filterMap Stage.line → (buildStages beat es n d).2.lines[l] = d.lines[l]) := by
  induction es generalizing n d with
  | nil => exact ⟨by simp [buildStages], fun i st l h => by simp [buildStages] at h, fun _ _ => rfl⟩
  | cons e es ih =>
    by_cases kind : e.kind = .delay
    · rw [List.filter_cons_of_pos (by simpa using kind)] at enough ⊢
      obtain ⟨l₀, rest, free⟩ : ∃ l₀ rest, d.freeList = l₀ :: rest := List.exists_cons_of_length_pos (by simp at enough; omega)
      have nodup := d.freeList_nodup
      rw [free, List.nodup_cons] at nodup
      let d' := d.setLine l₀ (d.lines[l₀].allocated n)
      have rest_ : d'.freeList = rest := DelayMemory.freeList_allocated free n
      obtain ⟨taken, given, others⟩ := ih (d := d') present (by rw [rest_]; simpa [free] using enough) (n + 1)
      rw [buildStages_lined beat kind present, DelayMemory.allocate_free free]
      have own : (e.build (some l₀) beat).line = some l₀ := e.build_line (.inl kind) beat
      have apart (l : Fin 4) (h : l ∈ (buildStages beat es (n + 1) d').1.filterMap Stage.line) : l₀ ≠ l := by
        rintro rfl
        rw [taken, rest_] at h
        exact nodup.1 (List.mem_of_mem_take h)
      have else_ {l : Fin 4} (h : l₀ ≠ l) : d'.lines[l] = d.lines[l] := (d.lines_setLine l₀ l _).trans (if_neg h)
      refine ⟨?_, fun i st l hi line => ?_, fun l hl => ?_⟩
      · rw [List.filterMap_cons_some own, taken, rest_, free]
        rfl
      · cases i with
        | zero =>
          obtain rfl : e.build (some l₀) beat = st := by simpa using hi
          obtain rfl : l₀ = l := by simpa using own.symm.trans line
          refine (others l₀ fun h => apart l₀ h rfl).trans ((d.lines_setLine l₀ l₀ _).trans (if_pos rfl))
        | succ i =>
          have mem : l ∈ (buildStages beat es (n + 1) d').1.filterMap Stage.line :=
            List.mem_filterMap.2 ⟨st, List.mem_of_getElem? hi, line⟩
          refine (given i st l hi line).trans ?_
          rw [else_ (apart l mem), Nat.add_right_comm, Nat.add_assoc]
      · rw [List.filterMap_cons_some own, List.mem_cons, not_or] at hl
        exact (others l hl.2).trans (else_ (Ne.symm hl.1))
    · rw [List.filter_cons_of_neg (by simpa using kind)] at enough ⊢
      obtain ⟨taken, given, others⟩ := ih present enough (n + 1)
      have own : (e.build none beat).line = none := e.build_line (.inr rfl) beat
      rw [buildStages_unlined beat (.inl kind), List.filterMap_cons_none own]
      refine ⟨taken, fun i st l hi line => ?_, others⟩
      cases i with
      | zero =>
        obtain rfl : e.build none beat = st := by simpa using hi
        simp [own] at line
      | succ i => rw [given i st l hi line, Nat.add_right_comm, Nat.add_assoc]
end

/-! ## LOAD_COMPLETE (R89, R90) -/

/-- Settles O30. -/
theorem loadCompleteArmsTheContext : Obligations.LoadCompleteArmsTheContext := by
  unfold Obligations.LoadCompleteArmsTheContext
  intro s c r on loading
  rw [exec_loadComplete on, State.takeLoadComplete, loading]
  refine ⟨fun some_ present lacking => ?_, fun enough => ?_⟩
  · have short : ¬s.delay.enough c.delays = true := by
      rw [DelayMemory.enough_iff]
      rintro (h | h | h)
      · exact some_ h
      · simp [present] at h
      · omega
    simp only [if_neg short]
  · obtain ⟨length, mem, entries⟩ := buildStages_entries s.tempo.beat r.stages 0 s.delay
    simp only [if_pos ((s.delay.enough_iff c.delays).2 enough)]
    refine ⟨_, { c with stages := (buildStages s.tempo.beat r.stages 0 s.delay).1, bindings := r.bindings, edited := false }, rfl, rfl, rfl,
      length, fun i e hi => ?_, rfl, rfl, mem, fun none_ => buildStages_no_delay _ none_ 0 _, fun i e st hi hst => ?_, fun present count => ?_⟩
    · obtain ⟨line, built, -⟩ := entries i e hi
      exact ⟨_, built, rfl, rfl, rfl, rfl, rfl, rfl, rfl⟩
    · obtain ⟨line, built, absent⟩ := entries i e hi
      obtain rfl : e.build line s.tempo.beat = st := by simpa using built.symm.trans hst
      refine ⟨fun kind => ?_, fun kind => ⟨gateAtFloor (e.params.getD 5 0), ?_, rfl, rfl, rfl⟩, fun kind => ⟨line, ?_⟩⟩
      · rw [StageEntry.build, kind]
        rfl
      · rw [StageEntry.build, kind]
        rfl
      · simp only [← divisionRatio_eq]
        refine ⟨?_, absent⟩
        rw [StageEntry.build, kind]
        rfl
    · have some_ : (r.stages.filter fun e => e.kind = .delay).length ≤ s.delay.freeList.length := by
        rw [← count]
        rcases enough with h | h | h
        · omega
        · simp [present] at h
        · exact h
      obtain ⟨taken, given, others⟩ := buildStages_allocates s.tempo.beat present some_ 0
      refine ⟨by rw [count]; exact taken, fun i st l o hi hl => ?_, fun l hl => others l hl⟩
      exact (given i st l hi (by simp [Stage.line, hl])).trans (by rw [Nat.zero_add]; rfl)

end Sys2Proof.Machine
end

section
/-! CORRECTNESS. The end of a switch: trails made, lines handed over, and SWITCH_END (spec/05 5.7, 5.9, spec/03 3.3). -/

namespace Sys2Proof.Machine

/-! ## Retiring the old context's stages (R46, R98) -/

/-- The trail that an old stage becomes, if it holds a line and its trail bit is 1. -/
def Stage.newTrail (gains : Int × Int) (st : Stage) : Option Trail :=
  match st.run with
  | .delay dr => if st.value 8 = 1 then dr.line.map fun l => dr.toTrail l st.params gains.1 gains.2 else none
  | _ => none

theorem Stage.newTrail_of_line {gains : Int × Int} {st : Stage} {dr : DelayRun} {l : Fin 4} (run : st.run = .delay dr) (line : dr.line = some l) :
    st.newTrail gains = if st.value 8 = 1 then some (dr.toTrail l st.params gains.1 gains.2) else none := by
  simp only [Stage.newTrail, run, line]
  rfl

theorem Stage.newTrail_none {gains : Int × Int} {st : Stage} (h : st.line = none) : st.newTrail gains = none := by
  unfold Stage.newTrail
  split
  next dr run =>
    rw [Stage.line_of_run run] at h
    rw [h, Option.map_none, ite_self]
  next => rfl

theorem Stage.run_of_line {st : Stage} {l : Fin 4} (h : st.line = some l) : ∃ dr, st.run = .delay dr ∧ dr.line = some l := by
  cases run : st.run with
  | delay dr => exact ⟨dr, rfl, (Stage.line_of_run run).symm.trans h⟩
  | none => exact absurd (h.symm.trans (Stage.line_of_no_delay (by simp [run]))) nofun
  | biquad b => exact absurd (h.symm.trans (Stage.line_of_no_delay (by simp [run]))) nofun
  | gate g => exact absurd (h.symm.trans (Stage.line_of_no_delay (by simp [run]))) nofun

theorem retireStages_trails (gains : Int × Int) (sts : List Stage) (d : DelayMemory) :
    (retireStages gains sts d).1 = sts.filterMap (Stage.newTrail gains) := by
  induction sts generalizing d with
  | nil => rfl
  | cons st rest ih =>
    cases line : st.line with
    | none => rw [retireStages_none line, List.filterMap_cons_none (Stage.newTrail_none line), ih]
    | some l =>
      obtain ⟨dr, run, held⟩ := Stage.run_of_line line
      have made := Stage.newTrail_of_line (gains := gains) run held
      by_cases trail : st.value 8 = 1
      · rw [if_pos trail] at made
        rw [List.filterMap_cons_some made, retireStages]
        simp only [run, held, trail, if_true, ih]
      · rw [if_neg trail] at made
        rw [List.filterMap_cons_none made, retireStages_release line trail, ih]

/-- The line of an old stage becomes its trail's or is given up; no other line changes. -/
theorem retireStages_line (gains : Int × Int) {sts : List Stage} (once : (sts.filterMap Stage.line).Nodup) (d : DelayMemory) :
    (∀ l : Fin 4, l ∉ sts.filterMap Stage.line → (retireStages gains sts d).2.lines[l] = d.lines[l]) ∧
    ∀ st ∈ sts, ∀ l, st.line = some l → (retireStages gains sts d).2.lines[l] = if st.value 8 = 1 then { d.lines[l] with holder := .trail }
      else { d.lines[l] with holder := .free, readFifo := [], writeFifo := [], window := [] } := by
  induction sts generalizing d with
  | nil => exact ⟨fun _ _ => rfl, fun st h => by simp at h⟩
  | cons st rest ih =>
    cases line : st.line with
    | none =>
      rw [List.filterMap_cons_none line] at once ⊢
      rw [retireStages_none line]
      obtain ⟨others, own⟩ := ih once d
      refine ⟨others, fun st' mem l hl => ?_⟩
      rcases List.mem_cons.1 mem with rfl | mem
      · simp [line] at hl
      · exact own st' mem l hl
    | some l₀ =>
      rw [List.filterMap_cons_some line, List.nodup_cons] at once
      obtain ⟨out, once⟩ := once
      have step (d' : DelayMemory) (ln : Line) (first : ∀ l, d'.lines[l] = if l₀ = l then ln else d.lines[l])
          (same : (retireStages gains (st :: rest) d).2 = (retireStages gains rest d').2)
          (value : ln = if st.value 8 = 1 then { d.lines[l₀] with holder := .trail }
            else { d.lines[l₀] with holder := .free, readFifo := [], writeFifo := [], window := [] }) :
          (∀ l : Fin 4, l ∉ (st :: rest).filterMap Stage.line → (retireStages gains (st :: rest) d).2.lines[l] = d.lines[l]) ∧
          ∀ st' ∈ st :: rest, ∀ l, st'.line = some l → (retireStages gains (st :: rest) d).2.lines[l] =
            if st'.value 8 = 1 then { d.lines[l] with holder := .trail }
            else { d.lines[l] with holder := .free, readFifo := [], writeFifo := [], window := [] } := by
        obtain ⟨others, own⟩ := ih once d'
        rw [List.filterMap_cons_some line, same]
        refine ⟨fun l away => ?_, fun st' mem l hl => ?_⟩
        · rw [List.mem_cons, not_or] at away
          rw [others l away.2, first, if_neg (Ne.symm away.1)]
        · rcases List.mem_cons.1 mem with rfl | mem
          · obtain rfl : l₀ = l := Option.some.inj (line.symm.trans hl)
            rw [others l₀ out, first, if_pos rfl, value]
          · have apart : l₀ ≠ l := by
              rintro rfl
              exact out (List.mem_filterMap.2 ⟨st', mem, hl⟩)
            rw [own st' mem l hl, first, if_neg apart]
      by_cases trail : st.value 8 = 1
      · obtain ⟨t, -, e⟩ := retireStages_trail (gains := gains) line trail rest d
        exact step (d.hold l₀ .trail) _ (fun l => d.lines_hold l₀ l .trail) (by rw [e]) (if_pos trail).symm
      · exact step (d.release l₀) _ (fun l => d.lines_release l₀ l) (by rw [retireStages_release line trail]) (if_neg trail).symm

theorem DelayMemory.lines_promote (d : DelayMemory) (l : Fin 4) :
    (∀ n, d.lines[l].holder = .incoming n → d.promote.lines[l].holder = .playing n) ∧
    ((∀ n, d.lines[l].holder ≠ .incoming n) → d.promote.lines[l] = d.lines[l]) := by
  simp only [DelayMemory.promote, Fin.getElem_fin, Vector.getElem_ofFn]
  refine ⟨fun n h => by simp only [h], fun h => ?_⟩
  cases holder : d.lines[l.val].holder with
  | incoming n => exact absurd holder (h n)
  | free => rfl
  | playing n => rfl
  | trail => rfl
  | cutting => rfl

/-! ## The end of a switch (R98, R99) -/

theorem State.endSwitch_eq (s : State) (c : Context) (q : Option QueuedRecall) :
    let d := retireStages s.scenes.playing.outputGains s.scenes.playing.stages s.delay
    let trails := s.scenes.trails ++ d.1
    s.endSwitch c q = { s with
      scenes := { s.scenes with
        playing := c
        trails := trails
        scene := (q.map fun r => Scene.loading (newIncoming r.source r.origin r.timingOverride r.fadeOverride r.number) .toRead).getD .steady }
      delay := d.2.promote
      chain := { s.chain with stageClip := 0, mixer := { phase := .single, k := 0, length := 0 } }
      link := s.link.post .scene 3 [c.number, c.origin.code, c.source.code, byteOf d.1.length, byteOf (runningTrails trails)] } := by
  cases q <;> rfl

theorem Stage.line_iff (st : Stage) (l : Fin 4) : st.line = some l ↔ ∃ o, st.lineOffset = some (l, o) := by
  simp [Stage.line]

theorem newTrail_isSome (gains : Int × Int) (st : Stage) : (st.newTrail gains).isSome = (st.lineOffset.isSome && st.value 8 == 1) := by
  cases line : st.line with
  | none =>
    have none_ : st.lineOffset = none := by simpa [Stage.line] using line
    rw [Stage.newTrail_none line, none_]
    rfl
  | some l =>
    obtain ⟨o, some_⟩ := (st.line_iff l).1 line
    obtain ⟨dr, run, held⟩ := Stage.run_of_line line
    rw [Stage.newTrail_of_line run held, some_]
    by_cases trail : st.value 8 = 1 <;> simp [trail]

theorem State.newTrails_length (s : State) (gains : Int × Int) :
    (s.scenes.playing.stages.filterMap (Stage.newTrail gains)).length = s.trailsMade := by
  rw [List.length_filterMap_eq_countP, State.trailsMade, ← List.countP_eq_length_filter]
  simp only [newTrail_isSome]

theorem newTrail_running {gains : Int × Int} {st : Stage} {t : Trail} (h : st.newTrail gains = some t) : t.state = .running := by
  unfold Stage.newTrail at h
  split at h
  · split at h
    · obtain ⟨l, -, rfl⟩ := Option.map_eq_some_iff.1 h
      rfl
    · cases h
  · cases h

theorem runningTrails_newTrails (gains : Int × Int) (sts : List Stage) :
    runningTrails (sts.filterMap (Stage.newTrail gains)) = (sts.filterMap (Stage.newTrail gains)).length := by
  refine congrArg List.length (List.filter_eq_self.2 fun t mem => ?_)
  obtain ⟨st, -, made⟩ := List.mem_filterMap.1 mem
  rw [newTrail_running made]
  rfl

/-- DONE tells the trails made and those that run then. -/
theorem State.endSwitch_link (s : State) (c : Context) (q : Option QueuedRecall) : (s.endSwitch c q).link =
    s.link.post .scene 3 [c.number, c.origin.code, c.source.code, BitVec.ofNat 8 s.trailsMade,
      BitVec.ofNat 8 (runningTrails s.scenes.trails + s.trailsMade)] := by
  have shape := congrArg State.link (s.endSwitch_eq c q)
  dsimp only at shape
  rw [shape, runningTrails_append, retireStages_trails, runningTrails_newTrails, s.newTrails_length]
  rfl

theorem State.endSwitch_scenes (s : State) (c : Context) (q : Option QueuedRecall) : let t := s.endSwitch c q
    t.scenes.playing = c ∧ (q = none → t.scenes.scene = .steady) ∧
    (∀ r, q = some r → ∃ inc, t.scenes.scene = .loading inc .toRead ∧ inc.asQueued = r) ∧
    t.chain = { s.chain with stageClip := 0, mixer := { phase := .single, k := 0, length := 0 } } := by
  rw [s.endSwitch_eq c q]
  refine ⟨rfl, ?_, ?_, rfl⟩
  · rintro rfl
    rfl
  · rintro r rfl
    exact ⟨_, rfl, rfl⟩

theorem State.linesOk.playing_once {s : State} (ok : s.linesOk) : (s.scenes.playing.stages.filterMap Stage.line).Nodup := by
  simpa [SceneManager.holdings, Context.stageLines, List.filterMap_map] using ((State.linesOk_iff s).1 ok).playing_once

theorem Context.outputGains_last {c : Context} {pre : List Stage} {out : Stage} (h : c.stages = pre ++ [out]) (kind : out.kind = .output)
    (others : ∀ x ∈ pre, x.kind ≠ .output) : c.outputGains = (out.params.getD 0 0, out.params.getD 1 0) := by
  have found : c.stages.find? (fun st => st.kind == .output) = some out := by
    rw [h, List.find?_append, List.find?_eq_none.2 (by simpa using others)]
    simp [kind]
  rw [Context.outputGains, found]
  rfl

theorem State.endSwitch_handsOver {s : State} (ok : s.linesOk) (c : Context) (q : Option QueuedRecall) : linesHandedOver s (s.endSwitch c q) := by
  have once := ok.playing_once
  obtain ⟨playing, incoming, -, -, -⟩ := ok
  obtain ⟨others, own⟩ := retireStages_line s.scenes.playing.outputGains once s.delay
  rw [State.endSwitch_eq]
  unfold linesHandedOver
  dsimp only
  rw [retireStages_trails]
  generalize (retireStages s.scenes.playing.outputGains s.scenes.playing.stages s.delay).2 = d at others own
  refine ⟨fun l n holds => ?_, fun st mem l o held => ?_, fun u mem => ⟨u, List.mem_append_left _ mem, rfl, rfl⟩, ?_⟩
  · have away : l ∉ s.scenes.playing.stages.filterMap Stage.line := fun mem => by
      obtain ⟨st, stMem, line⟩ := List.mem_filterMap.1 mem
      obtain ⟨o, offset⟩ := (st.line_iff l).1 line
      obtain ⟨k, hk⟩ := List.mem_iff_getElem?.1 stMem
      have := (playing l k).2 ⟨st, o, hk, offset⟩
      rw [holds] at this
      cases this
    exact (d.lines_promote l).1 n (by rw [others l away, holds])
  · have line : st.line = some l := (st.line_iff l).2 ⟨o, held⟩
    have now := own st mem l line
    obtain ⟨dr, run, drLine⟩ := Stage.run_of_line line
    have made := Stage.newTrail_of_line (gains := s.scenes.playing.outputGains) run drLine
    refine ⟨fun trail => ?_, fun noTrail => ?_⟩
    · rw [if_pos trail] at now made
      have kept := (d.lines_promote l).2 (by rw [now]; simp)
      refine ⟨by rw [kept, now], _, List.mem_append_right _ (List.mem_filterMap.2 ⟨st, mem, made⟩), rfl, ?_, rfl, rfl, rfl, rfl, rfl, rfl,
        fun dr' run' => ?_, fun pre out list kind first => ?_⟩
      · have offset : st.lineOffset = some (l, dr.offset) := by simp only [Stage.lineOffset, run, drLine, Option.map_some]
        exact (Prod.mk.inj (Option.some.inj (offset.symm.trans held))).2
      · obtain rfl : dr = dr' := Running.delay.inj (run.symm.trans run')
        exact ⟨rfl, rfl⟩
      · rw [Context.outputGains_last list kind first]
        exact ⟨rfl, rfl⟩
    · rw [if_neg noTrail] at now
      have kept := (d.lines_promote l).2 (by rw [now]; simp)
      rw [kept, now]
      exact ⟨rfl, rfl, rfl, rfl⟩
  · rw [List.length_append, s.newTrails_length]

/-! ## What the account of a block leaves of stages and trails -/

/-- From `m` to `n` only what a GATE and a trail count has changed. -/
def SceneManager.Alike (m n : SceneManager) : Prop := ∃ (f : Stage → Stage) (g : Trail → Trail),
  n = { m with
    playing := m.playing.mapStages f
    scene := m.scene.mapIncoming fun c => c.mapStages f
    trails := m.trails.map g } ∧
  (∀ st, (f st).entry = st.entry ∧ (f st).lineOffset = st.lineOffset ∧ ((f st).m = st.m) ∧ ∀ dr, st.run = .delay dr → (f st).run = .delay dr) ∧
  ∀ t, (g t).line = t.line ∧ (g t).state = t.state

theorem SceneManager.Alike.refl (m : SceneManager) : m.Alike m := by
  refine ⟨id, id, ?_, fun st => ⟨rfl, rfl, rfl, fun _ h => h⟩, fun t => ⟨rfl, rfl⟩⟩
  obtain ⟨playing, scene, trails, last⟩ := m
  cases scene <;> simp [Context.mapStages, Scene.mapIncoming]

theorem Stage.closeBlock_alike (st : Stage) : st.closeBlock.entry = st.entry ∧ st.closeBlock.lineOffset = st.lineOffset ∧
    st.closeBlock.m = st.m ∧ ∀ dr, st.run = .delay dr → st.closeBlock.run = .delay dr := by
  refine ⟨?_, Stage.closeBlock_lineOffset st, ?_, fun dr h => ?_⟩
  · unfold Stage.closeBlock
    split <;> rfl
  · unfold Stage.closeBlock
    split <;> rfl
  · simp only [Stage.closeBlock, h]

theorem Trail.closeBlock_alike (t : Trail) : t.closeBlock.line = t.line ∧ t.closeBlock.state = t.state := by
  unfold Trail.closeBlock
  split
  all_goals exact ⟨rfl, rfl⟩

theorem State.closeBlock_alike (s : State) : s.scenes.Alike s.closeBlock.scenes := by
  rw [s.closeBlock_scenes]
  split
  · exact .refl _
  · exact ⟨Stage.closeBlock, Trail.closeBlock, rfl, Stage.closeBlock_alike, Trail.closeBlock_alike⟩

theorem runningTrails_map {g : Trail → Trail} (h : ∀ t, (g t).line = t.line ∧ (g t).state = t.state) (ts : List Trail) :
    runningTrails (ts.map g) = runningTrails ts := by
  simp only [runningTrails, List.filter_map, List.length_map, Function.comp_def, fun t => (h t).2]

theorem Stage.value_of_entry {st st' : Stage} (h : st'.entry = st.entry) (id : Nat) : st'.value id = st.value id := by
  simp only [Stage.entry, StageEntry.mk.injEq] at h
  obtain ⟨-, engage, latch, default, params⟩ := h
  rw [Stage.value, Stage.value, engage, latch, default, params]

theorem SceneManager.Alike.trailsMade {s u : State} (h : s.scenes.Alike u.scenes) : u.trailsMade = s.trailsMade := by
  obtain ⟨f, g, scenes, stage, -⟩ := h
  rw [State.trailsMade, State.trailsMade, scenes]
  simp only [Context.mapStages, List.filter_map, List.length_map, Function.comp_def, fun st => (stage st).2.1,
    fun st => Stage.value_of_entry (stage st).1]

theorem SceneManager.Alike.runningTrails {m n : SceneManager} (h : m.Alike n) : runningTrails n.trails = Machine.runningTrails m.trails := by
  obtain ⟨f, g, rfl, -, trail⟩ := h
  exact runningTrails_map trail m.trails

/-- Lines are handed over from a state and from the account of its block alike. -/
theorem SceneManager.Alike.handsOver {s u t : State} (h : s.scenes.Alike u.scenes) (lines : u.delay.lines = s.delay.lines)
    (handed : linesHandedOver u t) : linesHandedOver s t := by
  have made := h.trailsMade
  obtain ⟨f, g, scenes, stage, trail⟩ := h
  unfold linesHandedOver at handed ⊢
  rw [made, scenes, lines] at handed
  obtain ⟨incoming, old, stay, length⟩ := handed
  refine ⟨incoming, fun st mem l o held => ?_, fun v mem => ?_, by simpa using length⟩
  · obtain ⟨entry, offset, -, run⟩ := stage st
    have value := Stage.value_of_entry entry
    have was := old (f st) (List.mem_map_of_mem mem) l o (offset.trans held)
    rw [value, value, value, value] at was
    obtain ⟨made, gone⟩ := was
    refine ⟨fun bit => ?_, gone⟩
    obtain ⟨holder, v, vMem, line, vo, state, age, quiet, feedback, tone, wet, running, gains⟩ := made bit
    refine ⟨holder, v, vMem, line, vo, state, age, quiet, feedback, tone, wet, fun dr hdr => running dr (run dr hdr),
      fun pre out list kind first => ?_⟩
    have fields (x : Stage) : (f x).kind = x.kind ∧ (f x).params = x.params := by
      have := (stage x).1
      simp only [Stage.entry, StageEntry.mk.injEq] at this
      exact ⟨this.1, this.2.2.2.2⟩
    rw [← (fields out).2]
    refine gains (pre.map f) (f out) (by simp [Context.mapStages, list]) ((fields out).1.trans kind) fun x hx => ?_
    obtain ⟨y, yMem, rfl⟩ := List.mem_map.1 hx
    rw [(fields y).1]
    exact first y yMem
  · obtain ⟨v', mem', line, state⟩ := stay (g v) (List.mem_map_of_mem mem)
    exact ⟨v', mem', line.trans (trail v).1, state.trans (trail v).2⟩

/-- The arbiter moves no line from holder to holder. -/
theorem linesHandedOver.arbitrate {s t : State} (h : linesHandedOver s t) : linesHandedOver s t.arbitrate := by
  unfold linesHandedOver at h ⊢
  rw [State.arbitrate_lines, (State.arbitrate_keeps t).2.2.2.2.2.1]
  exact h

/-! ## SWITCH_END -/

theorem State.finishSwitch_done {s : State} {c : Context} {q : Option QueuedRecall} (done : s.chain.mixer.done = true)
    (scene : s.scenes.scene = .crossfade c q ∨ s.scenes.scene = .dip c q) : s.finishSwitch = s.endSwitch c q := by
  rcases scene with scene | scene <;> simp only [State.finishSwitch, done, scene, if_true]

/-- Settles O32. -/
theorem switchEndHandsOverToTheIncomingContext : Obligations.SwitchEndHandsOverToTheIncomingContext := by
  unfold Obligations.SwitchEndHandsOverToTheIncomingContext
  intro s c q on scene phase last ok
  have done : s.chain.mixer.done = true := by
    rw [Mixer.done, Bool.and_eq_true, Bool.or_eq_true, beq_iff_eq, beq_iff_eq]
    exact ⟨phase, decide_eq_true last⟩
  have due : s.switchEndDue = true := by
    rw [State.switchEndDue, done]
    rcases scene with h | h <;> rw [h] <;> rfl
  have alike := s.closeBlock_alike
  obtain ⟨f, g, scenes, stage, trail⟩ := alike
  have closed : s.closeBlock.scenes.scene = .crossfade (c.mapStages f) q ∨ s.closeBlock.scenes.scene = .dip (c.mapStages f) q := by
    rw [scenes]
    exact scene.imp (fun h => by rw [h]; rfl) fun h => by rw [h]; rfl
  have taken : s.takeSwitchEnd = s.closeBlock.endSwitch (c.mapStages f) q :=
    (if_pos due).trans (State.finishSwitch_done (by rw [s.closeBlock_chain.1, done]) closed)
  have handed := s.closeBlock_alike.handsOver (by rw [s.closeBlock_keeps.2.2.2.2.1]) (State.endSwitch_handsOver (s.closeBlock_works.lines ok)
    (c.mapStages f) q)
  have link := s.closeBlock.endSwitch_link (c.mapStages f) q
  rw [s.closeBlock_alike.trailsMade, s.closeBlock_alike.runningTrails] at link
  obtain ⟨playing, steady, loading, chain⟩ := s.closeBlock.endSwitch_scenes (c.mapStages f) q
  have mem : s.takeSwitchEnd.delay.mem = s.delay.mem := s.takeSwitchEnd_same.1
  obtain ⟨-, -, -, latches, store, -, cues, tempo, tuner, -⟩ := s.takeSwitchEnd_keeps
  rw [taken] at mem latches store cues tempo tuner
  obtain ⟨-, -, -, chain', latches', scenes', store', -, cues', tempo', tuner', link', -⟩ :=
    (s.closeBlock.endSwitch (c.mapStages f) q).arbitrate_keeps
  refine ⟨(s.closeBlock.endSwitch (c.mapStages f) q).arbitrate, by rw [exec_switchEnd on, if_pos due, taken], ?_⟩
  rw [scenes', chain', link', State.arbitrate_mem, playing, chain]
  refine ⟨rfl, rfl, rfl, rfl, ?_, rfl, rfl, steady, loading, handed.arbitrate, link, latches'.trans latches, tempo'.trans tempo,
    tuner'.trans tuner, cues'.trans cues, store'.trans store, mem⟩
  simp only [Context.mapStages, List.map_map, Function.comp_def, fun st => (stage st).1]

end Sys2Proof.Machine
end

section
/-! CORRECTNESS. SWITCH_POINT: inheritance, the mode of a switch and its three beginnings (spec/05 5.5, 5.7). -/

namespace Sys2Proof.Machine

/-! ## The three modes (R95) -/

/-- The context that a switch brings in: its input select resolved and its ramp positions set (R93, R94). -/
def State.entered (s : State) (c : Context) : Context :=
  (s.inherit c).2.mapStages (Stage.setRamp (s.inherit c).1.latches (s.inherit c).1.tuner.muting)

/-- The state once SWITCH_BEGUN is posted and the mixer has its mode. -/
def State.begun (s : State) (c : Context) (mode : SwitchMode) (cut : Byte) : State :=
  (s.reportScene 2 c.number c.origin c.source [mode.code, c.fade, cut]).withChain { s.chain with mixer := switchMixer mode c.fade }

theorem switchMode_cut {fade : BitVec 8} (h : fade = 0) (a b : Nat) : switchMode fade a b = .cut := if_pos h

theorem switchMode_crossfade {fade : BitVec 8} (h : fade ≠ 0) {a b : Nat} (fits : a + b ≤ 128) : switchMode fade a b = .crossfade :=
  (if_neg h).trans (if_pos fits)

theorem switchMode_dip {fade : BitVec 8} (h : fade ≠ 0) {a b : Nat} (over_ : 128 < a + b) : switchMode fade a b = .dip :=
  (if_neg h).trans (if_neg (Nat.not_le.2 over_))

section
variable (s : State) (c : Context)

theorem State.switchTo_cut (h : c.fade = 0) : s.switchTo c = ((s.inherit c).1.begun c .cut 0).endSwitch (s.entered c) none := by
  unfold State.switchTo
  dsimp only
  generalize e : switchMode _ _ _ = mode
  obtain rfl : mode = .cut := e.symm.trans (switchMode_cut h _ _)
  dsimp only
  rw [Nat.sub_self]
  rfl

theorem State.switchTo_crossfade (h : c.fade ≠ 0) (fits : s.scenes.playing.cost + c.cost ≤ 128) : s.switchTo c =
    let v := (s.inherit c).1.cutForBudget (s.scenes.playing.cost + c.cost) 4
    (v.begun c .crossfade (byteOf (runningTrails s.scenes.trails - runningTrails v.scenes.trails))).setScene
      (.crossfade (s.entered c) none) := by
  have scenes : (s.inherit c).1.scenes = s.scenes := (s.inherit_keeps c).2.2.2.2.2.1
  unfold State.switchTo
  dsimp only
  rw [scenes]
  generalize e : switchMode _ _ _ = mode
  obtain rfl : mode = .crossfade := e.symm.trans (switchMode_crossfade h fits)
  rfl

theorem State.switchTo_dip (h : c.fade ≠ 0) (over_ : 128 < s.scenes.playing.cost + c.cost) : s.switchTo c =
    ((s.inherit c).1.begun c .dip 0).setScene (.dip (s.entered c) none) := by
  have scenes : (s.inherit c).1.scenes = s.scenes := (s.inherit_keeps c).2.2.2.2.2.1
  unfold State.switchTo
  dsimp only
  rw [scenes]
  generalize e : switchMode _ _ _ = mode
  obtain rfl : mode = .dip := e.symm.trans (switchMode_dip h over_)
  dsimp only
  rw [scenes, Nat.sub_self]
  rfl

/-- What inheritance makes of the beat (R93, R154). -/
theorem State.inherit_tempo : (∀ v, c.parts.tempo = some v → (s.inherit c).1.tempo = s.tempo.preset v) ∧
    (c.parts.tempo = none → (s.inherit c).1.tempo = s.tempo) := by
  have latched (u : State) : (match c.parts.latches with
      | some f => u.withLatches (applyLatchField u.latches f)
      | none => u).tempo = u.tempo := by
    cases c.parts.latches <;> rfl
  have changed (v : Nat) : (s.changeTempo (s.tempo.preset v)).tempo = s.tempo.preset v := by
    unfold State.changeTempo
    split <;> rfl
  unfold State.inherit
  refine ⟨fun v h => ?_, fun h => ?_⟩
  · rw [h]
    exact (latched _).trans (changed v)
  · rw [h]
    exact latched s

/-- What inheritance makes of the latches (R30, R93). -/
theorem State.inherit_latches : (∀ f, c.parts.latches = some f → ∀ i : Fin 8, (s.inherit c).1.latches[i] =
      if f.mask.getLsbD i.val then { value := f.values.getLsbD i.val, hold := none } else s.latches[i]) ∧
    (c.parts.latches = none → (s.inherit c).1.latches = s.latches) := by
  have tempo : (match c.parts.tempo with
      | some v => s.changeTempo (s.tempo.preset v)
      | none => s).latches = s.latches := by
    cases c.parts.tempo with
    | none => rfl
    | some v => exact (s.changeTempo_keeps _).2.2.2.2.1
  unfold State.inherit
  refine ⟨fun f h i => ?_, fun h => ?_⟩
  · rw [h]
    simp only [State.withLatches_latches, applyLatchField, Fin.getElem_fin, Vector.getElem_ofFn]
    refine if_congr Iff.rfl rfl ?_
    exact congrArg (fun (ls : Vector Latch 8) => ls[i]) tempo
  · rw [h]
    exact tempo

theorem State.inherit_absent (tempo : c.parts.tempo = none) (latches : c.parts.latches = none) : (s.inherit c).1 = s := by
  rw [State.inherit, tempo, latches]

/-- The tempo and the latches after a switch point are those inherited, and no context is armed. -/
theorem State.switchTo_inherits : (s.switchTo c).tempo = (s.inherit c).1.tempo ∧ (s.switchTo c).latches = (s.inherit c).1.latches ∧
    ∀ inc b, (s.switchTo c).scenes.scene ≠ .armed inc b := by
  by_cases fade : c.fade = 0
  · rw [s.switchTo_cut c fade]
    obtain ⟨-, -, -, latches, -, -, -, tempo, -, -⟩ := ((s.inherit c).1.begun c .cut 0).endSwitch_keeps (s.entered c) none
    refine ⟨tempo, latches, fun inc b => ?_⟩
    rw [(State.endSwitch_scenes _ _ _).2.1 rfl]
    rintro ⟨⟩
  · by_cases fits : s.scenes.playing.cost + c.cost ≤ 128
    · rw [s.switchTo_crossfade c fade fits]
      obtain ⟨-, -, -, -, latches, -, -, -, tempo, -, -, -⟩ := (s.inherit c).1.cutForBudget_keeps (s.scenes.playing.cost + c.cost) 4
      dsimp only
      generalize (s.inherit c).1.cutForBudget (s.scenes.playing.cost + c.cost) 4 = v at tempo latches ⊢
      exact ⟨tempo, latches, fun inc b => by simp [State.setScene]⟩
    · rw [s.switchTo_dip c fade (Nat.not_le.1 fits)]
      exact ⟨rfl, rfl, fun inc b => by simp [State.setScene]⟩
end

/-! ## The boundary at which an armed context's timing has come (R92) -/

/-- The state with another scene, and no beat event waiting. -/
def State.beatTaken (s : State) (sc : Scene) : State :=
  { s with tempo := { s.tempo with beatDue := false }, scenes := { s.scenes with scene := sc } }

theorem State.takeBeat_armed {s : State} {c : Context} {beat : Bool} (armed : s.scenes.scene = .armed c beat)
    (ready : c.timing = .now ∨ beat = true ∨ s.tempo.beatDue = true) :
    ∃ b : Bool, s.takeBeat = s.beatTaken (.armed c b) ∧ (c.timing == .now || b) = true := by
  cases due : s.tempo.beatDue with
  | true =>
    refine ⟨beat || c.timing == .beat, ?_, ?_⟩
    · simp only [State.takeBeat, due, if_true, State.withTempo_scenes, armed]
      rfl
    · cases c.timing <;> simp
  | false =>
    refine ⟨beat, ?_, by simpa [due] using ready⟩
    have idle : s.takeBeat = s := if_neg (by rw [due]; decide)
    rw [idle, State.beatTaken, ← due, ← armed]

theorem State.levels_congr {s u : State} (chain : u.chain = s.chain) (link : u.link = s.link) :
    u.levels.chain = s.levels.chain ∧ u.levels.link = s.levels.link := by
  unfold State.levels
  dsimp only
  rw [chain, link]
  split
  · refine ⟨rfl, ?_⟩
    rw [State.post_link, State.post_link, State.withChain_link, State.withChain_link, link]
  · exact ⟨rfl, link⟩

/-- The account of a block does not depend on the scene state or on the beat. -/
theorem State.closeBlock_beatTaken (s : State) (sc : Scene) :
    (s.beatTaken sc).closeBlock.link = s.closeBlock.link ∧ (s.beatTaken sc).closeBlock.chain = s.closeBlock.chain ∧
    (s.beatTaken sc).closeBlock.scenes.playing = s.closeBlock.scenes.playing ∧
    (s.beatTaken sc).closeBlock.scenes.trails = s.closeBlock.scenes.trails := by
  have scenes := (s.beatTaken sc).closeBlock_scenes
  have own := s.closeBlock_scenes
  have account : (s.beatTaken sc).closeBlock.link = s.closeBlock.link ∧ (s.beatTaken sc).closeBlock.chain = s.closeBlock.chain := by
    unfold State.closeBlock
    rw [show (s.beatTaken sc).chain.blockClosed = s.chain.blockClosed from rfl]
    split
    · exact ⟨rfl, rfl⟩
    · dsimp only
      generalize hu : State.withScenes s _ = u
      generalize hv : State.withScenes (s.beatTaken sc) _ = v
      obtain ⟨chain, link⟩ := State.levels_congr (s := u) (u := v) (by rw [← hu, ← hv]; rfl) (by rw [← hu, ← hv]; rfl)
      exact ⟨by rw [State.withChain_link, State.withChain_link, link], by rw [State.withChain_chain, State.withChain_chain, chain]⟩
  refine ⟨account.1, account.2, ?_, ?_⟩
  all_goals
    rw [scenes, own, show (s.beatTaken sc).chain.blockClosed = s.chain.blockClosed from rfl]
    split <;> rfl

/-- The state in which the switch of an armed context begins: the beat handed over and the block closed. -/
def State.atSwitch (s : State) (c : Context) (b : Bool) : State := (s.beatTaken (.armed c b)).closeBlock

section
variable {s : State} {c : Context} {beat : Bool} (on : s.powered) (armed : s.scenes.scene = .armed c beat)
  (ready : c.timing = .now ∨ beat = true ∨ s.tempo.beatDue = true) (boundary : s.sampleCounter.toNat % 48 = 0)
  (untaken : s.chain.boundaryTaken = false)
include on armed ready boundary untaken

theorem State.switchPoint_taken : ∃ (b : Bool) (f : Stage → Stage) (g : Trail → Trail), let u := s.atSwitch c b
    exec .switchPoint s = .next s.takeSwitchPoint.arbitrate ∧ s.takeSwitchPoint = u.switchTo (c.mapStages f) ∧
    u.scenes = { s.scenes with
      playing := s.scenes.playing.mapStages f
      scene := .armed (c.mapStages f) b
      trails := s.scenes.trails.map g } ∧
    (∀ st, (f st).entry = st.entry ∧ (f st).lineOffset = st.lineOffset ∧ ((f st).m = st.m) ∧
      ∀ dr, st.run = .delay dr → (f st).run = .delay dr) ∧
    ∀ t, (g t).line = t.line ∧ (g t).state = t.state := by
  obtain ⟨b, beatTaken, switches⟩ := State.takeBeat_armed armed ready
  obtain ⟨f, g, scenes, stage, trail⟩ := (s.beatTaken (.armed c b)).closeBlock_alike
  have due : s.switchDue = true := by
    have stands : s.boundaryDue = true := by simp [State.boundaryDue, Config.blockSamples, boundary, untaken]
    rw [State.switchDue, stands, beatTaken]
    exact switches
  refine ⟨b, f, g, by rw [exec_switchPoint on, if_pos due], ?_, scenes, stage, trail⟩
  rw [State.takeSwitchPoint, if_pos due, beatTaken, State.performSwitch, scenes]
  exact if_pos switches
end

theorem State.atSwitch_keeps (s : State) (c : Context) (b : Bool) : let u := s.atSwitch c b
    u.latches = s.latches ∧ u.tuner = s.tuner ∧ u.delay = s.delay ∧ u.tempo = { s.tempo with beatDue := false } ∧
    u.link = s.closeBlock.link ∧ u.scenes.playing = s.closeBlock.scenes.playing ∧ u.scenes.trails = s.closeBlock.scenes.trails := by
  obtain ⟨link, -, playing, trails⟩ := s.closeBlock_beatTaken (.armed c b)
  obtain ⟨-, -, -, latches, delay, -, -, -, tempo, tuner, -⟩ := (s.beatTaken (.armed c b)).closeBlock_keeps
  exact ⟨latches, tuner, delay, tempo, link, playing, trails⟩

/-! ## Cutting trails for the budget (R95 step 3) -/

theorem State.cutForBudget_fits {s : State} {cost : Nat} (h : cost + 6 * runningTrails s.scenes.trails ≤ 128) (n : Nat) :
    s.cutForBudget cost n = s := by
  cases n with
  | zero => rfl
  | succ n => exact if_neg fun more => absurd more.1 (Nat.not_lt.2 h)

theorem State.cutForBudget_makes_room {s : State} {cost n : Nat} (h : cost ≤ 128) (few : runningTrails s.scenes.trails ≤ n) :
    cost + 6 * runningTrails (s.cutForBudget cost n).scenes.trails ≤ 128 := by
  induction n generalizing s with
  | zero =>
    rw [State.cutForBudget, Nat.le_zero.1 few]
    exact h
  | succ n ih =>
    unfold State.cutForBudget
    split
    next more =>
      obtain ⟨pre, t, post, list, runs, -, cut⟩ := State.cutOldest_running more.2 (.cutting 0)
      refine ih ?_
      rw [list, runningTrails_append, runningTrails_cons, if_pos runs] at few
      rw [cut, State.withDelay_scenes, State.withScenes_scenes, runningTrails_append, runningTrails_cons, if_neg (by rintro ⟨⟩)]
      omega
    next fits =>
      rcases Nat.eq_zero_or_pos (runningTrails s.scenes.trails) with none_ | some_
      · rw [none_]
        exact h
      · exact Nat.not_lt.1 fun more => fits ⟨more, some_⟩

/-! ## SWITCH_POINT -/

theorem State.frame_of_switch {s t : State} (h : t.sampleCounter = s.sampleCounter ∧ t.startUp = s.startUp ∧ t.pins = s.pins ∧
    t.store = s.store ∧ t.upload = s.upload ∧ t.cues = s.cues ∧ t.tuner = s.tuner ∧ t.pending = s.pending) :
    t = { s with scenes := t.scenes, chain := t.chain, delay := t.delay, tempo := t.tempo, latches := t.latches, link := t.link } := by
  obtain ⟨counter, startUp, pins, store, upload, cues, tuner, pending⟩ := h
  rw [← counter, ← startUp, ← pins, ← store, ← upload, ← cues, ← tuner, ← pending]

theorem Stage.engaged_of_entry {st st' : Stage} (h : st'.entry = st.entry) (latches : Vector Latch 8) (muting : Bool) :
    st'.engaged latches muting = st.engaged latches muting := by
  simp only [Stage.entry, StageEntry.mk.injEq] at h
  obtain ⟨-, engage, latch, default, -⟩ := h
  simp only [Stage.engaged, engage, latch, default]

/-- Settles O31. -/
theorem switchPointChoosesTheMode : Obligations.SwitchPointChoosesTheMode := by
  unfold Obligations.SwitchPointChoosesTheMode
  refine ⟨fun s c on armed timing quiet => ?_, fun s c beat on armed ready boundary untaken => ?_,
    fun s c beat on armed ready boundary untaken noTempo noLatches => ?_⟩
  · have early : s.switchDue = false := by
      have idle : s.takeBeat = s := if_neg (by rw [quiet]; decide)
      rw [State.switchDue, idle, armed, Scene.switchReady, timing]
      exact Bool.and_false _
    rw [exec_switchPoint on, early]
    rfl
  · obtain ⟨b, f, g, run, taken, scenes, -, -⟩ := State.switchPoint_taken on armed ready boundary untaken
    obtain ⟨latches, -, -, tempo, -, -, -⟩ := s.atSwitch_keeps c b
    obtain ⟨tempo', latches', notArmed⟩ := (s.atSwitch c b).switchTo_inherits (c.mapStages f)
    obtain ⟨tempoSome, tempoNone⟩ := (s.atSwitch c b).inherit_tempo (c.mapStages f)
    obtain ⟨latchSome, latchNone⟩ := (s.atSwitch c b).inherit_latches (c.mapStages f)
    have kept := s.takeSwitchPoint_keeps
    have mem := s.takeSwitchPoint_same.1
    intro tempoNow
    refine ⟨_, run, ?_⟩
    obtain ⟨counter, startUp, pins, chain, latches₁, scenes₁, store, upload, cues, tempo₁, tuner, link, pending⟩ :=
      s.takeSwitchPoint.arbitrate_keeps
    refine ⟨?_, ?_, fun i => ?_, State.frame_of_switch (by rw [counter, startUp, pins, store, upload, cues, tuner, pending]; exact kept),
      (State.arbitrate_mem _).trans mem⟩
    · rw [scenes₁, taken]
      exact notArmed
    · rw [tempo₁, taken, tempo']
      cases parts : c.parts.tempo with
      | none => exact (tempoNone parts).trans tempo
      | some v =>
        rw [tempoSome v parts, tempo]
        rfl
    · rw [latches₁, taken, latches']
      cases parts : c.parts.latches with
      | none => rw [latchNone parts, latches]
      | some l => rw [latchSome l parts i, latches]
  · obtain ⟨b, f, g, run, taken, scenes, stage, trail⟩ := State.switchPoint_taken on armed ready boundary untaken
    obtain ⟨latches, tuner, delay, tempo, link, playing, trails⟩ := s.atSwitch_keeps c b
    obtain ⟨tempo', latches', -⟩ := (s.atSwitch c b).switchTo_inherits (c.mapStages f)
    have absent : ((s.atSwitch c b).inherit (c.mapStages f)).1 = s.atSwitch c b :=
      (s.atSwitch c b).inherit_absent (c.mapStages f) noTempo noLatches
    obtain ⟨-, -, -, chain₁, latches₁, scenes₁, -, -, -, tempo₁, -, link₁, -⟩ := s.takeSwitchPoint.arbitrate_keeps
    have cost : (s.atSwitch c b).scenes.playing.cost = s.scenes.playing.cost := by rw [scenes]; rfl
    have running : runningTrails (s.atSwitch c b).scenes.trails = runningTrails s.scenes.trails := by
      rw [scenes]
      exact runningTrails_map trail _
    have input : ((s.atSwitch c b).entered (c.mapStages f)).input = c.parts.input.getD s.scenes.playing.input := by
      have resolved : ((s.atSwitch c b).entered (c.mapStages f)).input =
          c.parts.input.getD ((s.atSwitch c b).inherit (c.mapStages f)).1.scenes.playing.input := rfl
      rw [resolved, absent, scenes]
      rfl
    have stages : ((s.atSwitch c b).entered (c.mapStages f)).stages =
        c.stages.map fun st => (f st).setRamp s.latches s.tuner.muting := by
      rw [State.entered, absent, latches, tuner]
      exact List.map_map
    have alike : s.trailsMade = (s.atSwitch c b).trailsMade := by
      have : (s.beatTaken (.armed c b)).scenes.Alike (s.atSwitch c b).scenes := (s.beatTaken (.armed c b)).closeBlock_alike
      exact this.trailsMade.symm
    intro closed costs begun
    refine ⟨_, (s.atSwitch c b).entered (c.mapStages f), run, rfl, rfl, rfl, rfl, input, by rw [stages, List.length_map], fun i st hi => ?_,
      ?_, ?_, fun cut => ?_, fun fade fits => ?_, fun fade fits few => ?_, fun fade high => ?_⟩
    · refine ⟨(f st).setRamp s.latches s.tuner.muting, by rw [stages, List.getElem?_map, hi]; rfl, ?_, ?_⟩
      · have entry := (stage st).1
        simp only [Stage.entry, StageEntry.mk.injEq] at entry
        exact entry.2.2.2.2
      · rw [← Stage.engaged_of_entry (stage st).1]
        rfl
    · rw [tempo₁, taken, tempo', absent, tempo]
    · rw [latches₁, taken, latches', absent, latches]
    · rw [scenes₁, chain₁, link₁, taken, State.switchTo_cut _ _ (show (c.mapStages f).fade = 0 from cut), absent]
      obtain ⟨play, steady, -, chain⟩ := ((s.atSwitch c b).begun (c.mapStages f) .cut 0).endSwitch_scenes
        ((s.atSwitch c b).entered (c.mapStages f)) none
      refine ⟨steady rfl, play, by rw [chain], by rw [chain], fun ok => ?_, ?_⟩
      · have armedOk : (s.beatTaken (.armed c b)).linesOk := by
          obtain ⟨playing, incoming, rest⟩ := ok
          rw [armed] at incoming
          exact ⟨playing, incoming, rest⟩
        have begunOk : ((s.atSwitch c b).begun (c.mapStages f) .cut 0).linesOk := (State.closeBlock_works _).lines armedOk
        have like : (s.beatTaken (.armed c b)).scenes.Alike ((s.atSwitch c b).begun (c.mapStages f) .cut 0).scenes :=
          (s.beatTaken (.armed c b)).closeBlock_alike
        have handed : linesHandedOver (s.beatTaken (.armed c b)) _ := like.handsOver (congrArg DelayMemory.lines delay)
          (State.endSwitch_handsOver begunOk ((s.atSwitch c b).entered (c.mapStages f)) none)
        exact linesHandedOver.arbitrate (s := s) handed
      · rw [State.endSwitch_link]
        have first : ((s.atSwitch c b).begun (c.mapStages f) .cut 0).link = begun 0 0 :=
          congrArg (fun (l : Link) => l.post .scene 2 [c.number, c.origin.code, c.source.code, 0, c.fade, 0]) link
        have made : ((s.atSwitch c b).begun (c.mapStages f) .cut 0).trailsMade = s.trailsMade := alike.symm
        have runs : runningTrails ((s.atSwitch c b).begun (c.mapStages f) .cut 0).scenes.trails = runningTrails s.scenes.trails := running
        rw [first, made, runs]
        rfl
    · rw [scenes₁, chain₁, link₁, taken, State.switchTo_crossfade _ _ (show (c.mapStages f).fade ≠ 0 from fade)
        (by rw [cost]; exact (Nat.le_add_right _ _).trans fits), absent]
      have whole := State.cutForBudget_fits (s := s.atSwitch c b) (cost := (s.atSwitch c b).scenes.playing.cost + c.cost)
        (by rw [cost, running]; exact fits) 4
      have whole' : (s.atSwitch c b).cutForBudget ((s.atSwitch c b).scenes.playing.cost + (c.mapStages f).cost) 4 = s.atSwitch c b := whole
      dsimp only
      rw [whole', Nat.sub_self]
      exact ⟨rfl, playing, trails, rfl, congrArg (fun (l : Link) => l.post .scene 2 [c.number, c.origin.code, c.source.code, 1, c.fade, 0]) link⟩
    · rw [scenes₁, chain₁, link₁, taken, State.switchTo_crossfade _ _ (show (c.mapStages f).fade ≠ 0 from fade)
        (by rw [cost]; exact fits), absent]
      have cuts := (s.atSwitch c b).cutForBudget_cuts ((s.atSwitch c b).scenes.playing.cost + (c.mapStages f).cost) 4
      have room := State.cutForBudget_makes_room (s := s.atSwitch c b) (cost := (s.atSwitch c b).scenes.playing.cost + (c.mapStages f).cost)
        (n := 4) (by rw [cost]; exact fits) (by rw [running]; exact (runningTrails_le_length _).trans few)
      generalize (s.atSwitch c b).cutForBudget ((s.atSwitch c b).scenes.playing.cost + (c.mapStages f).cost) 4 = v at cuts room ⊢
      have frame := cuts.frame
      have kept : v.scenes.playing = (s.atSwitch c b).scenes.playing := by rw [frame]
      have linked : v.link = (s.atSwitch c b).link := by rw [frame]
      rw [cost] at room
      refine ⟨rfl, kept.trans playing, rfl, room, ?_⟩
      rw [running]
      exact congrArg (fun (l : Link) => l.post .scene 2 [c.number, c.origin.code, c.source.code, 1, c.fade,
        BitVec.ofNat 8 (runningTrails s.scenes.trails - runningTrails v.scenes.trails)]) (linked.trans link)
    · rw [scenes₁, chain₁, link₁, taken, State.switchTo_dip _ _ (show (c.mapStages f).fade ≠ 0 from fade) (by rw [cost]; exact high), absent]
      exact ⟨rfl, playing, trails, rfl, congrArg (fun (l : Link) => l.post .scene 2 [c.number, c.origin.code, c.source.code, 2, c.fade, 0]) link⟩

end Sys2Proof.Machine
end

section
/-! CORRECTNESS. The preset store's requests: ERASE, TABLE_SAVE, SETUP_SAVE, STORE, and the upload buffer (spec/06 6.3, spec/04 4.7). -/

namespace Sys2Proof.Machine

theorem Store.idle_of_engine {st : Store} : (st.engine = .idle → st.idle = true) ∧ (st.engine ≠ .idle → st.idle = false) :=
  ⟨fun h => by rw [Store.idle, h]; rfl, fun h => beq_eq_false_iff_ne.2 h⟩

/-! ## ERASE, TABLE_SAVE and SETUP_SAVE (R110, R111, R107) -/

section
variable (s : State) {p : List Byte}

theorem eraseBody_badField (h : 127 < byteAt p 0) : eraseBody s p = s.refuse .badField := dif_neg (by omega)

theorem eraseBody_busy (h : byteAt p 0 ≤ 127) (busy : s.store.idle = false) : eraseBody s p = s.refuse .busy := by
  rw [eraseBody, dif_pos (by omega), busy]
  rfl

theorem eraseBody_accepted {n : Fin 128} (h : byteAt p 0 = n.val) (idle : s.store.idle = true) :
    eraseBody s p = (s.withStore ((s.store.setEntry n none).startWrite (.erase n) .empty)).accept := by
  obtain ⟨n, small⟩ := n
  subst h
  rw [eraseBody, dif_pos small, idle]
  rfl

theorem tableSaveBody_badField (h : 7 < byteAt p 0) : tableSaveBody s p = s.refuse .badField := dif_neg (by omega)

theorem tableSaveBody_busy (h : byteAt p 0 ≤ 7) (busy : s.store.idle = false) : tableSaveBody s p = s.refuse .busy := by
  rw [tableSaveBody, dif_pos (by omega), busy]
  rfl

theorem tableSaveBody_accepted {n : Fin 8} (h : byteAt p 0 = n.val) (idle : s.store.idle = true) :
    tableSaveBody s p = (s.withStore (s.store.startWrite (.tableSave n) (.table s.chain.banks[n]))).accept := by
  obtain ⟨n, small⟩ := n
  obtain rfl : byteAt p 0 = n := h
  rw [tableSaveBody, dif_pos small, idle]
  rfl

theorem powerOnOf_bad {b : Nat} (h : 127 < b) (other : b ≠ 255) : powerOnOf b = none := by
  rw [powerOnOf, dif_neg (by omega), if_neg other]

theorem powerOnOf_good {b : Nat} (h : b ≤ 127 ∨ b = 255) : ∃ preset, powerOnOf b = some preset := by
  by_cases small : b < 128
  · exact ⟨_, dif_pos small⟩
  · exact ⟨none, (dif_neg small).trans (if_pos (by omega))⟩

theorem powerOnOf_presetByte (preset : Option (Fin 128)) : powerOnOf (presetByte preset).toNat = some preset := by
  cases preset with
  | none => rfl
  | some n =>
    have same : (presetByte (some n)).toNat = n.val := Nat.mod_eq_of_lt (by omega)
    rw [same, powerOnOf, dif_pos n.isLt]

theorem setupSaveBody_badField (h : powerOnOf (byteAt p 0) = none) : setupSaveBody s p = s.refuse .badField := by
  rw [setupSaveBody, h]

theorem setupSaveBody_busy {preset : Option (Fin 128)} (h : powerOnOf (byteAt p 0) = some preset) (busy : s.store.idle = false) :
    setupSaveBody s p = s.refuse .busy := by
  rw [setupSaveBody, h]
  exact if_pos (by rw [busy]; rfl)

theorem setupSaveBody_accepted {preset : Option (Fin 128)} (h : powerOnOf (byteAt p 0) = some preset) (idle : s.store.idle = true) :
    setupSaveBody s p = (s.withStore (s.store.startWrite .setupSave (.setup { powerOn := preset, settings := s.settings }))).accept := by
  rw [setupSaveBody, h]
  exact if_neg (by rw [idle]; decide)
end

/-- Settles O35. -/
theorem eraseAndSavesStartTheirWrites : Obligations.EraseAndSavesStartTheirWrites := by
  unfold Obligations.EraseAndSavesStartTheirWrites
  intro s tag b on
  refine ⟨fun bad => request_refuses on (by simp) rfl (eraseBody_badField (p := [b]) _ bad),
    fun bad => request_refuses on (by simp) rfl (tableSaveBody_badField (p := [b]) _ bad),
    fun bad other => request_refuses on (by simp) rfl (setupSaveBody_badField (p := [b]) _ (powerOnOf_bad bad fun h => other (BitVec.eq_of_toNat_eq h))),
    fun writing => ?_, fun idle => ?_⟩
  · have busy : s.endRead.store.idle = false := Store.idle_of_engine.2 writing
    refine ⟨fun small => request_refuses on (by simp) rfl (eraseBody_busy (p := [b]) _ small busy),
      fun small => request_refuses on (by simp) rfl (tableSaveBody_busy (p := [b]) _ small busy), fun good => ?_⟩
    obtain ⟨preset, read⟩ := powerOnOf_good (b := b.toNat) (good.imp_right fun h => by rw [h]; rfl)
    exact request_refuses on (by simp) rfl (setupSaveBody_busy (p := [b]) _ read busy)
  · have free : s.endRead.store.idle = true := Store.idle_of_engine.1 idle
    refine ⟨fun n slot => ?_, fun n slot => ?_, fun preset byte => ?_⟩
    · have number : byteAt [b] 0 = n.val := by rw [slot]; exact Nat.mod_eq_of_lt (by omega)
      exact request_answers on (by simp) rfl (eraseBody_accepted _ number free) rfl rfl
    · have number : byteAt [b] 0 = n.val := by rw [slot]; exact Nat.mod_eq_of_lt (by omega)
      exact request_answers on (by simp) rfl (tableSaveBody_accepted _ number free) rfl rfl
    · have read : powerOnOf (byteAt [b] 0) = some preset := by rw [byte]; exact powerOnOf_presetByte preset
      exact request_answers on (by simp) rfl (setupSaveBody_accepted _ read free) rfl rfl

/-! ## The upload buffer (R71..R73) -/

theorem uploadDataBody_fits {s : State} {p : List Byte} (h : s.upload.length + p.length ≤ 1024) :
    uploadDataBody s p = (s.withUpload (s.upload ++ p)).okay (bytesLE 2 (s.upload ++ p).length) := if_pos h

theorem uploadDataBody_long {s : State} {p : List Byte} (h : 1024 < s.upload.length + p.length) :
    uploadDataBody s p = { state := s, status := .badLength, payload := bytesLE 2 s.upload.length } := if_neg (Nat.not_le.2 h)

/-- Settles O39. -/
theorem uploadBufferRequests : Obligations.UploadBufferRequests := by
  unfold Obligations.UploadBufferRequests
  refine ⟨fun s tag on => request_answers on (by simp) rfl rfl rfl rfl, fun s tag data on small => ⟨fun fits => ?_, fun long => ?_⟩,
    fun s tag on => ⟨fun cost delays ok => ?_, fun reason offset bad => ?_⟩⟩
  · rw [exec_uploadData on.powered, request_accepting on small (decide_eq_true small), uploadDataBody_fits (s := s.endRead) fits,
      Answer.post_eq_replied _ _ _ rfl rfl, List.length_append]
    rfl
  · rw [exec_uploadData on.powered, request_accepting on small (decide_eq_true small), uploadDataBody_long (s := s.endRead) long,
      Answer.post_eq_replied _ _ _ rfl rfl]
    rfl
  · have body : uploadCheckBody s.endRead [] = s.endRead.okay [byteOf cost, byteOf delays] := by
      rw [uploadCheckBody, show validate s.endRead.upload = .ok cost delays from ok]
    exact request_answers on (by simp) rfl body rfl rfl
  · have body : uploadCheckBody s.endRead [] = s.endRead.invalid reason offset := by
      rw [uploadCheckBody, show validate s.endRead.upload = .bad reason offset from bad]
    exact request_answers on (by simp) rfl body rfl rfl

/-! ## STORE (R108, R109) -/

section
variable {s : State} {p : List Byte}

theorem storeBody_badField (h : 127 < byteAt p 0 ∨ 1 < byteAt p 1) : storeBody s p = s.refuse .badField := dif_neg (by omega)

theorem storeBody_busy (slot : byteAt p 0 ≤ 127) (src : byteAt p 1 ≤ 1) (busy : s.store.idle = false) :
    storeBody s p = s.refuse .busy := by
  rw [storeBody, dif_pos ⟨by omega, by omega⟩, busy]
  rfl

theorem storeBody_invalid {reason : Reason} {offset : Nat} (slot : byteAt p 0 ≤ 127) (src : byteAt p 1 ≤ 1) (idle : s.store.idle = true)
    (bad : validate (s.storeRecord (byteAt p 1 == 0)) = .bad reason offset) : storeBody s p = s.invalid reason offset := by
  simp only [storeBody, dif_pos (show byteAt p 0 < 128 ∧ byteAt p 1 < 2 by omega), idle, bad]
  rfl

theorem storeBody_accepted {n : Fin 128} (slot : byteAt p 0 = n.val) (src : byteAt p 1 ≤ 1) (idle : s.store.idle = true)
    (ok : (validate (s.storeRecord (byteAt p 1 == 0))).isOk = true) :
    storeBody s p = (s.startStore n (byteAt p 1 == 0) (s.storeRecord (byteAt p 1 == 0))).accept := by
  obtain ⟨n, small⟩ := n
  obtain rfl : byteAt p 0 = n := slot
  cases v : validate (s.storeRecord (byteAt p 1 == 0)) with
  | bad reason offset =>
    rw [v] at ok
    cases ok
  | ok cost delays =>
    simp only [storeBody, dif_pos (show byteAt p 0 < 128 ∧ byteAt p 1 < 2 by omega), idle, v]
    rfl
end

/-- Settles O34. -/
theorem storeFixesTheRecordAndStartsTheWrite : Obligations.StoreFixesTheRecordAndStartsTheWrite := by
  unfold Obligations.StoreFixesTheRecordAndStartsTheWrite
  intro s tag slot src on
  refine ⟨fun bad => request_refuses on (by simp) rfl (storeBody_badField (p := [slot, src]) bad), fun small one writing =>
    request_refuses on (by simp) rfl (storeBody_busy (p := [slot, src]) small one (Store.idle_of_engine.2 writing)),
    fun n bs number idle record => ?_⟩
  have free : s.endRead.store.idle = true := Store.idle_of_engine.1 idle
  have at0 : byteAt [slot, src] 0 = n.val := by rw [number]; exact Nat.mod_eq_of_lt (by omega)
  have at1 : byteAt [slot, src] 1 ≤ 1 := by
    rcases record with ⟨rfl, -⟩ | ⟨rfl, -⟩
    · exact Nat.le_refl 1
    · exact Nat.zero_le 1
  have stored : s.endRead.storeRecord (byteAt [slot, src] 1 == 0) = bs := by
    rcases record with ⟨rfl, rfl⟩ | ⟨rfl, rfl⟩ <;> rfl
  refine ⟨fun reason offset bad => ?_, fun ok => ?_⟩
  · have body := storeBody_invalid (s := s.endRead) (p := [slot, src]) (by omega) at1 free (by rw [stored]; exact bad)
    exact request_answers on (by simp) rfl body rfl rfl
  · intro f e st
    have body := storeBody_accepted (s := s.endRead) (p := [slot, src]) at0 at1 free (by rw [stored]; exact ok)
    rw [stored] at body
    obtain ⟨context, trails, last, play, -⟩ := s.scenes.setEdit_frame
      { s.scenes.editContext with source := .slot n, edited := false }
    rcases record with ⟨rfl, -⟩ | ⟨rfl, -⟩
    · exact ⟨{ s with store := st }, request_answers on (by simp) rfl body rfl rfl, rfl, fun _ => rfl, fun h => absurd h (by decide)⟩
    · exact ⟨{ s with store := st, scenes := s.scenes.storedFrom n }, request_answers on (by simp) rfl body rfl rfl, rfl, fun h => absurd h (by decide),
        fun _ => ⟨context, trails, last, fun built => (play built).1⟩⟩

end Sys2Proof.Machine
end

section
/-! CORRECTNESS. The flash completions, READ_SLOT and LIST (spec/06 6.3, 6.4). -/

namespace Sys2Proof.Machine

/-! ## ERASE_COMPLETE and WRITE_COMPLETE (R112, R113) -/

theorem State.resumeLoad_idle {s : State} (h : ∀ c, s.scenes.scene ≠ .loading c .waiting) : s.resumeLoad = s := by
  unfold State.resumeLoad
  split
  next c waiting => exact absurd waiting (h c)
  next => rfl

theorem State.resumeLoad_waiting {s : State} {c : Context} (h : s.scenes.scene = .loading c .waiting) : s.resumeLoad = s.takeLoadRead := by
  rw [State.resumeLoad, h]

/-- The state once a write has ended, before a load that waited for it reads. -/
def State.writeEnded (s : State) (st : Store) (op : StoreOp) (verified : Bool) : State :=
  { s with store := { st with engine := .idle }, link := s.link.post .storeDone 0 [op.codes.1, op.codes.2, flagByte (!verified)] }

theorem State.completeWrite_eq (s : State) (st : Store) (op : StoreOp) (verified : Bool) :
    s.completeWrite st op verified = (s.writeEnded st op verified).resumeLoad := rfl

theorem State.completeWrite_idle {s : State} (h : ∀ c, s.scenes.scene ≠ .loading c .waiting) (st : Store) (op : StoreOp) (verified : Bool) :
    s.completeWrite st op verified = s.writeEnded st op verified := State.resumeLoad_idle h

theorem State.takeEraseComplete_erase {s : State} {n : Fin 128} {image : WriteImage} (h : s.store.engine = .writing (.erase n) .erasing image) :
    s.takeEraseComplete = s.completeWrite (s.store.eraseSector (.erase n)) (.erase n) true := by
  rw [State.takeEraseComplete, h]

theorem State.takeEraseComplete_other {s : State} {op : StoreOp} {image : WriteImage} (h : s.store.engine = .writing op .erasing image)
    (other : ∀ n, op ≠ .erase n) :
    s.takeEraseComplete = s.withStore { s.store.eraseSector op with engine := .writing op .programming image } := by
  rw [State.takeEraseComplete, h]
  cases op with
  | erase n => exact absurd rfl (other n)
  | store n => rfl
  | tableSave n => rfl
  | setupSave => rfl

/-- The store once an image is programmed: a STORE that did not verify leaves its slot EMPTY. -/
def Store.written (st : Store) (op : StoreOp) (image : WriteImage) (verified : Bool) : Store :=
  match op, verified with
  | .store n, false => (st.program op image verified).setEntry n none
  | _, _ => st.program op image verified

theorem State.takeWriteComplete_eq {s : State} {op : StoreOp} {image : WriteImage} (h : s.store.engine = .writing op .programming image)
    (verified : Bool) : s.takeWriteComplete verified = s.completeWrite (s.store.written op image verified) op verified := by
  rw [State.takeWriteComplete, h]
  cases op <;> cases verified <;> rfl

theorem flagByte_not (b : Bool) : flagByte (!b) = if b then 0 else 1 := by cases b <;> rfl

/-- Settles O36. -/
theorem flashCompletionsEndTheWrite : Obligations.FlashCompletionsEndTheWrite := by
  unfold Obligations.FlashCompletionsEndTheWrite
  refine ⟨fun s op image on engine idle => ?_, fun s op image ok on engine idle => ?_, fun s op image ok c on engine waiting => ?_⟩
  · rw [exec_eraseComplete on]
    refine ⟨_, rfl, ?_⟩
    cases op with
    | erase n =>
      rw [State.takeEraseComplete_erase engine, State.completeWrite_idle idle]
      refine ⟨rfl, rfl, ?_, fun other => absurd rfl (other n), by simp, by simp, by simp⟩
      rintro m ⟨⟩
      exact ⟨rfl, rfl, rfl, rfl, rfl⟩
    | store n =>
      rw [State.takeEraseComplete_other engine (by simp)]
      refine ⟨rfl, rfl, by simp, fun _ => ⟨rfl, rfl⟩, ?_, by simp, by simp⟩
      rintro m ⟨⟩
      exact ⟨by simp [Store.eraseSector], fun k other => Vector.getElem_set_ne n.isLt k.isLt fun same => other (Fin.ext same.symm)⟩
    | tableSave n =>
      rw [State.takeEraseComplete_other engine (by simp)]
      refine ⟨rfl, rfl, by simp, fun _ => ⟨rfl, rfl⟩, by simp, ?_, by simp⟩
      rintro m ⟨⟩
      exact ⟨rfl, rfl, rfl⟩
    | setupSave =>
      rw [State.takeEraseComplete_other engine (by simp)]
      exact ⟨rfl, rfl, by simp, fun _ => ⟨rfl, rfl⟩, by simp, by simp, fun _ => ⟨rfl, rfl, rfl⟩⟩
  · rw [exec_writeComplete on, State.takeWriteComplete_eq engine, State.completeWrite_idle idle, State.writeEnded, flagByte_not]
    refine ⟨_, rfl, rfl, rfl, ?_, ?_, ?_⟩
    · rintro n bs rfl rfl
      cases ok <;> exact ⟨rfl, rfl, rfl⟩
    · rintro n es rfl rfl
      exact ⟨rfl, rfl, rfl, rfl⟩
    · rintro r rfl rfl
      exact ⟨rfl, rfl, rfl, rfl, rfl⟩
  · let u : State := { s with scenes := { s.scenes with scene := .steady } }
    have steady : u.takeWriteComplete ok = u.writeEnded (s.store.written op image ok) op ok := by
      rw [State.takeWriteComplete_eq (s := u) engine, State.completeWrite_idle (by simp [u])]
    refine ⟨u.writeEnded (s.store.written op image ok) op ok, ?_, ?_⟩
    · rw [← steady]
      exact exec_writeComplete (s := u) on ok
    · have read := exec_loadRead (s := s.writeEnded (s.store.written op image ok) op ok) on
      rw [exec_writeComplete on, State.takeWriteComplete_eq engine, State.completeWrite_eq,
        State.resumeLoad_waiting (s := s.writeEnded (s.store.written op image ok) op ok) waiting, ← read]
      rfl

/-! ## READ_SLOT (R114) -/

theorem WriteEngine.busyBank_iff (e : WriteEngine) (bank : Nat) :
    e.busyBank = some bank ↔ ∃ op phase image, e = .writing op phase image ∧ op.bank = bank := by
  cases e with
  | idle => simp [WriteEngine.busyBank]
  | writing op phase image => simp [WriteEngine.busyBank]

section
variable {s : State} {p : List Byte}

theorem readSlotBody_badField (h : 127 < byteAt p 0 ∨ 1024 < numAt p 1 2 ∨ 240 < byteAt p 3) : readSlotBody s p = s.refuse .badField := by
  unfold readSlotBody
  dsimp only
  split
  next small => exact if_pos (by rw [show Config.recordArea = 1024 from rfl]; omega)
  next => rfl

variable {n : Fin 128} (slot : byteAt p 0 = n.val) (offset : numAt p 1 2 ≤ 1024) (count : byteAt p 3 ≤ 240)
include slot offset count

theorem readSlotBody_noSlot (empty : s.store.directory[n] = none) : readSlotBody s p = s.refuse .noSlot := by
  obtain ⟨n, small⟩ := n
  obtain rfl : byteAt p 0 = n := slot
  have fields : ¬(Config.recordArea < numAt p 1 2 ∨ 240 < byteAt p 3) := by rw [show Config.recordArea = 1024 from rfl]; omega
  simp only [Fin.getElem_fin] at empty
  simp only [readSlotBody, dif_pos small, if_neg fields, empty]

theorem readSlotBody_busy {e : DirEntry} (valid : s.store.directory[n] = some e) (busy : s.store.engine.busyBank = some (n.val % 2)) :
    readSlotBody s p = s.refuse .busy := by
  obtain ⟨n, small⟩ := n
  obtain rfl : byteAt p 0 = n := slot
  have fields : ¬(Config.recordArea < numAt p 1 2 ∨ 240 < byteAt p 3) := by rw [show Config.recordArea = 1024 from rfl]; omega
  simp only [Fin.getElem_fin] at valid
  simp only [readSlotBody, dif_pos small, if_neg fields, valid, slotBank, busy, if_true]

theorem readSlotBody_reads {e : DirEntry} (valid : s.store.directory[n] = some e) (free : s.store.engine.busyBank ≠ some (n.val % 2)) :
    readSlotBody s p =
      let got := ((s.store.presets[n].bytes.take e.length).drop (numAt p 1 2)).take (byteAt p 3)
      s.okay (bytesLE 2 e.length ++ [byteOf got.length] ++ got) := by
  obtain ⟨n, small⟩ := n
  obtain rfl : byteAt p 0 = n := slot
  have fields : ¬(Config.recordArea < numAt p 1 2 ∨ 240 < byteAt p 3) := by rw [show Config.recordArea = 1024 from rfl]; omega
  simp only [Fin.getElem_fin] at valid free
  simp only [readSlotBody, dif_pos small, if_neg fields, valid, slotBank, Fin.getElem_fin]
  exact if_neg free
end

/-! ## LIST (R115) -/

theorem mapByte_bit (st : Store) (n : Fin 128) :
    (((List.range 16).map (mapByte st)).getD (n.val / 8) 0).getLsbD (n.val % 8) = st.directory[n].isSome := by
  have row : ((List.range 16).map (mapByte st)).getD (n.val / 8) 0 = mapByte st (n.val / 8) := by
    rw [List.getD_eq_getElem?_getD, List.getElem?_map, List.getElem?_range (by omega)]
    rfl
  obtain ⟨-, bits⟩ := testBit_bitSum (fun i => ((st.directory[8 * (n.val / 8) + i]?).join).isSome) 8
  rw [row, mapByte, byteOf, BitVec.getLsbD_ofNat, bits (n.val % 8) (by omega)]
  have index : 8 * (n.val / 8) + n.val % 8 = n.val := by omega
  simp [index, Nat.mod_lt]

theorem listEntry_eq (st : Store) {k : Nat} (h : k < 128) : listEntry st k = match st.directory.toList.getD k none with
    | some e => [BitVec.ofNat 8 k, 1, BitVec.ofNat 8 e.length, BitVec.ofNat 8 (e.length / 256),
        BitVec.ofNat 8 e.name.length] ++ (e.name ++ List.replicate 16 0).take 16
    | none => BitVec.ofNat 8 k :: List.replicate 20 0 := by
  have entry : (st.directory[k]?).join = st.directory.toList.getD k none := by
    simp [h]
  rw [listEntry, entry]
  cases st.directory.toList.getD k none <;> rfl

theorem listBody_reads (s : State) {p : List Byte} (h : byteAt p 0 ≤ 127) : listBody s p =
    s.okay ((List.range 16).map (mapByte s.store) ++ [byteOf (min 8 (128 - byteAt p 0))] ++
      (List.range (min 8 (128 - byteAt p 0))).flatMap fun i => listEntry s.store (byteAt p 0 + i)) := if_neg (by omega)

/-- Settles O37. -/
theorem readSlotAndListShowTheStore : Obligations.ReadSlotAndListShowTheStore := by
  unfold Obligations.ReadSlotAndListShowTheStore
  refine ⟨fun s tag slot o0 o1 count on => ⟨fun bad => ?_, fun n number low few => ⟨fun empty => ?_, ?_, ?_⟩⟩,
    fun s tag start on => ⟨fun bad => ?_, fun small => ?_⟩⟩
  · exact request_refuses on (by simp) rfl (readSlotBody_badField (p := [slot, o0, o1, count]) (by rw [numAt_one_two]; exact bad))
  · have at0 : byteAt [slot, o0, o1, count] 0 = n.val := by rw [number]; exact Nat.mod_eq_of_lt (by omega)
    exact request_refuses on (by simp) rfl (readSlotBody_noSlot (p := [slot, o0, o1, count]) at0 (by rw [numAt_one_two]; exact low) few empty)
  · intro op phase image valid engine bank
    have at0 : byteAt [slot, o0, o1, count] 0 = n.val := by rw [number]; exact Nat.mod_eq_of_lt (by omega)
    obtain ⟨e, entry⟩ := Option.isSome_iff_exists.1 valid
    exact request_refuses on (by simp) rfl (readSlotBody_busy (s := s.endRead) (p := [slot, o0, o1, count]) at0
      (by rw [numAt_one_two]; exact low) few entry ((WriteEngine.busyBank_iff _ _).2 ⟨op, phase, image, engine, bank⟩))
  · intro e entry free
    have at0 : byteAt [slot, o0, o1, count] 0 = n.val := by rw [number]; exact Nat.mod_eq_of_lt (by omega)
    have body := readSlotBody_reads (s := s.endRead) (p := [slot, o0, o1, count]) at0 (by rw [numAt_one_two]; exact low) few entry
      fun busy => by
        obtain ⟨op, phase, image, engine, bank⟩ := (WriteEngine.busyBank_iff _ _).1 busy
        exact free op phase image engine bank
    rw [numAt_one_two] at body
    exact request_answers on (by simp) rfl body rfl rfl
  · have body : listBody s.endRead [start] = s.endRead.refuse .badField := if_pos bad
    exact request_refuses on (by simp) rfl body
  · have body := listBody_reads s.endRead (p := [start]) small
    have run : exec (.list (requestFrame tag [start])) s = .next (s.replied 0x93 tag 0 ((List.range 16).map (mapByte s.store) ++
        [byteOf (min 8 (128 - start.toNat))] ++ (List.range (min 8 (128 - start.toNat))).flatMap fun i => listEntry s.store (start.toNat + i))) :=
      request_answers (p := [start]) on (by simp) rfl body rfl rfl
    refine ⟨_, _, run, by simp, mapByte_bit s.store, ?_⟩
    rw [List.flatMap_def, List.flatMap_def]
    refine congrArg List.flatten (List.map_congr_left fun i hi => ?_)
    have index : start.toNat + i < 128 := by
      have := List.mem_range.1 hi
      omega
    exact listEntry_eq _ index

end Sys2Proof.Machine
end

section
/-! CORRECTNESS. The requests of the scanners and of the cue unit (spec/07 7.2, 7.3, 7.5, 7.6, 7.8). -/

namespace Sys2Proof.Machine

theorem toNat_beq (b c : Byte) : (b.toNat == c.toNat) = (b == c) := by
  rw [Bool.eq_iff_iff, beq_iff_eq, beq_iff_eq]
  exact ⟨BitVec.eq_of_toNat_eq, congrArg BitVec.toNat⟩

theorem byte_number {k : Nat} (small : k ≤ 256) {b : Byte} {n : Fin k} (h : b = BitVec.ofNat 8 n.val) : b.toNat = n.val := by
  obtain ⟨hb, rfl⟩ := fin_of_byte small h
  rfl

/-! ## SWITCH_SET, PEDAL_SET and PEDAL_READ (R123, R128, R129) -/

section
variable {s : State} {p : List Byte}

theorem switchSetBody_badField (h : byteAt p 0 < 2 ∨ 40 < byteAt p 0 ∨ numAt p 1 2 < 300 ∨ 2000 < numAt p 1 2) :
    switchSetBody s p = s.refuse .badField := if_neg (by omega)

theorem switchSetBody_sets (h : 2 ≤ byteAt p 0 ∧ byteAt p 0 ≤ 40 ∧ 300 ≤ numAt p 1 2 ∧ numAt p 1 2 ≤ 2000) :
    switchSetBody s p = (s.withCues { s.cues with debounceMs := byteAt p 0, holdMs := numAt p 1 2 }).okay [] := if_pos h

theorem pedalSetBody_badField (h : 3 < byteAt p 0 ∨ 1 < byteAt p 1 ∨ 1023 < numAt p 2 2 ∨ 1023 < numAt p 4 2 ∨ byteAt p 6 = 0 ∨
    32 < byteAt p 6 ∨ byteAt p 7 = 0 ∨ 20 < byteAt p 7) : pedalSetBody s p = s.refuse .badField := by
  unfold pedalSetBody
  dsimp only
  split
  · exact if_neg (by omega)
  · rfl

theorem State.settlePlugs_idle {s : State} (h : s.cues.scanAt = none) (n : Nat) : s.settlePlugs n = s := by
  cases n with
  | zero => rfl
  | succ n => rw [State.settlePlugs, h]

theorem pedalSetBody_sets {k : Fin 4} (number : byteAt p 0 = k.val) (enable : byteAt p 1 ≤ 1) (lo : numAt p 2 2 ≤ 1023)
    (hi : numAt p 4 2 ≤ 1023) (deadband : 1 ≤ byteAt p 6 ∧ byteAt p 6 ≤ 32) (interval : 1 ≤ byteAt p 7 ∧ byteAt p 7 ≤ 20)
    (idle : s.cues.scanAt = none) : pedalSetBody s p =
      ((s.setPedal k { s.cues.pedals[k] with
        settings := { enabled := byteAt p 1 == 1, lo := numAt p 2 2, hi := numAt p 4 2, deadband := byteAt p 6 }
        run := 0
        lastSent := none }).withCues { s.cues with
          pedals := s.cues.pedals.set k { s.cues.pedals[k] with
            settings := { enabled := byteAt p 1 == 1, lo := numAt p 2 2, hi := numAt p 4 2, deadband := byteAt p 6 }
            run := 0
            lastSent := none }
          scanMs := byteAt p 7 }).okay [] := by
  obtain ⟨k, small⟩ := k
  obtain rfl : byteAt p 0 = k := number
  have good : byteAt p 1 < 2 ∧ numAt p 2 2 ≤ 1023 ∧ numAt p 4 2 ≤ 1023 ∧ 1 ≤ byteAt p 6 ∧ byteAt p 6 ≤ 32 ∧ 1 ≤ byteAt p 7 ∧
      byteAt p 7 ≤ 20 := by omega
  rw [pedalSetBody]
  dsimp only
  rw [dif_pos small, if_pos good, State.settlePlugs_idle idle]
  rfl
end

theorem pedalBytes_eq (p : Pedal) : pedalBytes p = [flagByte p.settings.enabled] ++ bytesLE 2 p.settings.lo ++ bytesLE 2 p.settings.hi ++
    [BitVec.ofNat 8 p.settings.deadband, if p.plugged then 0 else 1] ++ bytesLE 2 p.raw ++ bytesLE 2 p.value ++
    bytesLE 2 (p.lastSent.getD 65535) := by
  rw [pedalBytes, flagByte_not]
  rfl

/-- Settles O43. -/
theorem scannerRequests : Obligations.ScannerRequests := by
  unfold Obligations.ScannerRequests
  refine ⟨fun s tag d h0 h1 on => ⟨fun bad => ?_, fun dLow dHigh hLow hHigh => ?_⟩,
    fun s tag n en l0 l1 h0 h1 db si on => ⟨fun bad => ?_, fun k number enable lo hi dLow dHigh siLow siHigh idle => ?_⟩, fun s tag on => ?_⟩
  · exact request_refuses on (by simp) rfl (switchSetBody_badField (p := [d, h0, h1]) (by simpa using bad))
  · have body := switchSetBody_sets (s := s.endRead) (p := [d, h0, h1]) (by rw [numAt_one_two]; exact ⟨dLow, dHigh, hLow, hHigh⟩)
    rw [numAt_one_two] at body
    exact request_answers on (by simp) rfl body rfl rfl
  · refine request_refuses on (by simp) rfl (pedalSetBody_badField (p := [n, en, l0, l1, h0, h1, db, si]) ?_)
    rw [numAt_two_two, numAt_four_two]
    exact bad.imp id (Or.imp id (Or.imp id (Or.imp id (Or.imp (fun h => by rw [h]; rfl) (Or.imp id (Or.imp (fun h => by rw [h]; rfl) id))))))
  · have body := pedalSetBody_sets (s := s.endRead) (p := [n, en, l0, l1, h0, h1, db, si]) (byte_number (by decide) number) enable
      (by rw [numAt_two_two]; exact lo) (by rw [numAt_four_two]; exact hi) ⟨dLow, dHigh⟩ ⟨siLow, siHigh⟩ idle
    rw [numAt_two_two, numAt_four_two, show (byteAt [n, en, l0, l1, h0, h1, db, si] 1 == 1) = (en == 1) from toNat_beq en 1] at body
    exact request_answers on (by simp) rfl body rfl rfl
  · have body : pedalReadBody s.endRead [] = s.endRead.okay (BitVec.ofNat 8 s.cues.scanMs :: s.cues.pedals.toList.flatMap fun p =>
        [flagByte p.settings.enabled] ++ bytesLE 2 p.settings.lo ++ bytesLE 2 p.settings.hi ++
          [BitVec.ofNat 8 p.settings.deadband, if p.plugged then 0 else 1] ++ bytesLE 2 p.raw ++ bytesLE 2 p.value ++
          bytesLE 2 (p.lastSent.getD 65535)) := by
      rw [pedalReadBody]
      simp only [funext pedalBytes_eq]
      rfl
    exact request_answers on (by simp) rfl body rfl rfl

/-! ## SEND_CUE, SET_FILTER, SET_MASK and READ_CUES (R134, R137, R138, R143, R144) -/

theorem cueKindOf_some {n : Nat} (h : n ≤ 6) : ∃ kind, cueKindOf n = some kind := by
  interval_cases n <;> exact ⟨_, rfl⟩

theorem maskSelOf_eq_none {n : Nat} (h : 4 < n) : maskSelOf n = none := by
  rw [maskSelOf, dif_neg (by omega), if_neg (by omega)]

theorem actionOf_eq_none {code arg : Nat} (h : 5 < code ∨ (code = 1 ∧ 15 < arg) ∨ (code = 2 ∧ 127 < arg)) : actionOf code arg = none := by
  rcases h with h | ⟨rfl, h⟩ | ⟨rfl, h⟩
  · unfold actionOf
    split
    all_goals first | omega | rfl
  · exact dif_neg (by omega)
  · exact dif_neg (by omega)

section
variable {s : State} {p : List Byte}

theorem sendCueBody_badField (h : cueKindOf (byteAt p 0) = none ∨ 1023 < numAt p 2 2) : sendCueBody s p = s.refuse .badField := by
  unfold sendCueBody
  split
  next kind some_ => exact if_pos (h.resolve_left (by rw [some_]; rintro ⟨⟩))
  next => rfl

theorem sendCueBody_busy {kind : CueKind} (h : cueKindOf (byteAt p 0) = some kind) (value : numAt p 2 2 ≤ 1023)
    (full : 16 ≤ s.cues.queue.length) : sendCueBody s p = s.refuse .busy := by
  rw [sendCueBody, h]
  exact (if_neg (Nat.not_lt.2 value)).trans (if_pos full)

theorem sendCueBody_sends {kind : CueKind} (h : cueKindOf (byteAt p 0) = some kind) (value : numAt p 2 2 ≤ 1023)
    (room : s.cues.queue.length < 16) : sendCueBody s p =
      (s.withCues { s.cues with
        queue := s.cues.queue ++ [⟨2, kind, byteOf (byteAt p 1), BitVec.ofNat 10 (numAt p 2 2), s.sampleCounter⟩] }).okay [] := by
  rw [sendCueBody, h]
  refine ((if_neg (Nat.not_lt.2 value)).trans (if_neg (Nat.not_le.2 room))).trans ?_
  rw [State.makeCue, CueUnit.enqueue_room room]
  rfl

theorem setFilterBody_badField (h : 23 < byteAt p 0 ∨ maskSelOf (byteAt p 4) = none ∨ actionOf (byteAt p 5) (byteAt p 6) = none) :
    setFilterBody s p = s.refuse .badField := by
  unfold setFilterBody
  split
  · split
    next mask action someMask someAction => 
      rcases h with h | h | h
      · omega
      · rw [someMask] at h; cases h
      · rw [someAction] at h; cases h
    next => rfl
  · rfl

theorem setFilterBody_sets {k : Fin 24} {mask : MaskSel} {action : Action} (number : byteAt p 0 = k.val)
    (hmask : maskSelOf (byteAt p 4) = some mask) (haction : actionOf (byteAt p 5) (byteAt p 6) = some action) : 
    let f : Filter := ⟨byteAt p 1 != 0, BitVec.ofNat 16 (numAt p 2 2), mask, action, byteAt p 7 != 0⟩
    setFilterBody s p = (s.withCues { s.cues with filters := s.cues.filters.set k f }).okay [] := by
  obtain ⟨k, small⟩ := k
  obtain rfl : byteAt p 0 = k := number
  simp only [setFilterBody, dif_pos small, hmask, haction]

theorem setMaskBody_badField (h : 3 < byteAt p 0) : setMaskBody s p = s.refuse .badField := dif_neg (by omega)

theorem setMaskBody_sets {k : Fin 4} (number : byteAt p 0 = k.val) : setMaskBody s p =
    (s.withCues { s.cues with masks := s.cues.masks.set k (BitVec.ofNat 16 (numAt p 1 2)) }).okay [] := by
  obtain ⟨k, small⟩ := k
  obtain rfl : byteAt p 0 = k := number
  exact dif_pos small

theorem readCuesBody_badField (h : 8 < byteAt p 0 ∨ 32 < byteAt p 1) : readCuesBody s p = s.refuse .badField := if_pos h
end

/-- The state once a READ_CUES has taken its entries: before the report that it may post. -/
def State.cuesRead (s : State) (most mark : Byte) : State :=
  { s with cues := { s.cues with
      watermark := if mark = 0 then s.cues.watermark else mark.toNat
      fifo := s.cues.fifo.drop most.toNat
      overflow := false } }

theorem State.reportCuesIf_endRead (t : State) (c : Bool) : t.endRead.reportCuesIf c = (t.reportCuesIf c).endRead := by
  cases c
  · rfl
  · exact t.post_endRead _ _ _

theorem readCuesBody_reads {s : State} {most mark : Byte} (hmost : most.toNat ≤ 8) (hmark : mark.toNat ≤ 32) :
    readCuesBody s.endRead [most, mark] = {
      state := ((s.cuesRead most mark).reportCuesIf
        (decide ((s.cuesRead most mark).cues.watermark ≤ (s.cuesRead most mark).cues.fifo.length))).endRead
      status := .ok
      payload := [flagByte s.cues.overflow, BitVec.ofNat 8 (s.cues.fifo.drop most.toNat).length,
        BitVec.ofNat 8 (s.cues.fifo.take most.toNat).length] ++ (s.cues.fifo.take most.toNat).flatMap FifoEntry.bytes } := by
  have fields : ¬(8 < most.toNat ∨ 32 < mark.toNat) := by omega
  have zero : mark.toNat = 0 ↔ mark = 0 := ⟨fun h => BitVec.eq_of_toNat_eq h, fun h => by rw [h]; rfl⟩
  rw [← State.reportCuesIf_endRead]
  unfold readCuesBody
  simp only [byteAt_cons_zero, byteAt_cons_succ, if_neg fields, zero]
  rfl

/-- Settles O42. -/
theorem cueUnitRequests : Obligations.CueUnitRequests := by
  unfold Obligations.CueUnitRequests
  refine ⟨fun s tag k i v0 v1 on => ⟨fun bad => ?_, fun kind value full => ?_, fun kind code value room => ?_⟩,
    fun s tag n en i0 i1 m a arg cp on => ⟨fun bad => ?_, fun k mask action number hmask haction argument => ?_⟩,
    fun s tag n v0 v1 on => ⟨fun bad => ?_, fun k number => ?_⟩, fun s tag most mark on => ⟨fun bad => ?_, fun hmost hmark => ?_⟩⟩
  · refine request_refuses on (by simp) rfl (sendCueBody_badField (p := [k, i, v0, v1]) ?_)
    rw [numAt_two_two]
    exact bad.imp_left cueKindOf_eq_none
  · obtain ⟨kind, some_⟩ := cueKindOf_some kind
    exact request_refuses on (by simp) rfl (sendCueBody_busy (s := s.endRead) (p := [k, i, v0, v1]) some_ (by rw [numAt_two_two]; exact value) full)
  · have some_ : cueKindOf k.toNat = some kind := by
      have small : kind.code < 256 := by cases kind <;> decide
      rw [code, BitVec.toNat_ofNat, Nat.mod_eq_of_lt small, cueKindOf_code]
    have body := sendCueBody_sends (s := s.endRead) (p := [k, i, v0, v1]) some_ (by rw [numAt_two_two]; exact value) room
    rw [numAt_two_two, byteAt_cons_succ, byteAt_cons_zero, byteOf_toNat] at body
    exact request_answers on (by simp) rfl body rfl rfl
  · refine request_refuses on (by simp) rfl (setFilterBody_badField (p := [n, en, i0, i1, m, a, arg, cp]) ?_)
    rcases bad with h | h | h | ⟨rfl, h⟩ | ⟨rfl, h⟩
    · exact .inl h
    · exact .inr (.inl (maskSelOf_eq_none h))
    · exact .inr (.inr (actionOf_eq_none (.inl h)))
    · exact .inr (.inr (actionOf_eq_none (.inr (.inl ⟨rfl, h⟩))))
    · exact .inr (.inr (actionOf_eq_none (.inr (.inr ⟨rfl, h⟩))))
  · have body := setFilterBody_sets (s := s.endRead) (p := [n, en, i0, i1, m, a, arg, cp]) (byte_number (by decide) number)
      (by rw [hmask]; exact maskSelOf_code mask) (by rw [haction]; exact actionOf_code action arg argument)
    have flag (b : Byte) : (b.toNat != 0) = (b != 0) := congrArg not (toNat_beq b 0)
    rw [numAt_two_two] at body
    simp only [byteAt_cons_succ, byteAt_cons_zero, flag] at body
    exact request_answers on (by simp) rfl body rfl rfl
  · exact request_refuses on (by simp) rfl (setMaskBody_badField (p := [n, v0, v1]) bad)
  · have body := setMaskBody_sets (s := s.endRead) (p := [n, v0, v1]) (byte_number (by decide) number)
    rw [numAt_one_two] at body
    exact request_answers on (by simp) rfl body rfl rfl
  · exact request_refuses on (by simp) rfl (readCuesBody_badField (p := [most, mark]) bad)
  · have run := request_leaves (kind := 0x0C) (tag := tag) on (by simp) (fits := (· == 2)) (early := false) rfl
      (readCuesBody_reads (s := s) hmost hmark)
    have report : (s.cuesRead most mark).reportCuesIf (decide ((s.cuesRead most mark).cues.watermark ≤
        (s.cuesRead most mark).cues.fifo.length)) = if (s.cuesRead most mark).cues.watermark ≤ (s.cuesRead most mark).cues.fifo.length then
        (s.cuesRead most mark).post .cues 0 [BitVec.ofNat 8 (s.cuesRead most mark).cues.fifo.length, 0] else s.cuesRead most mark := by
      by_cases h : (s.cuesRead most mark).cues.watermark ≤ (s.cuesRead most mark).cues.fifo.length
      · rw [if_pos h, decide_eq_true h]
        rfl
      · rw [if_neg h, decide_eq_false h]
        rfl
    rw [report] at run
    exact run

end Sys2Proof.Machine
end

section
/-! CORRECTNESS. The pedal scanner, the cue input queue and the control port (spec/07 7.3, 7.4, 7.5). -/

namespace Sys2Proof.Machine

/-! ## A full cue input queue (R133) -/

theorem replaceFirst_none {p : Cue → Bool} {l : List Cue} (h : ∀ d ∈ l, p d = false) (c : Cue) : replaceFirst p c l = none := by
  induction l with
  | nil => rfl
  | cons d l ih =>
    rw [replaceFirst, h d (List.mem_cons_self ..), ih fun e he => h e (List.mem_cons_of_mem _ he)]
    rfl

theorem replaceFirst_some {p : Cue → Bool} {pre : List Cue} (h : ∀ e ∈ pre, p e = false) {d : Cue} (hd : p d = true) (post : List Cue)
    (c : Cue) : replaceFirst p c (pre ++ d :: post) = some (pre ++ c :: post) := by
  induction pre with
  | nil => exact if_pos hd
  | cons e pre ih =>
    rw [List.cons_append, replaceFirst, h e (List.mem_cons_self ..), ih fun x hx => h x (List.mem_cons_of_mem _ hx)]
    rfl

/-- A cue of the same pedal. -/
def Cue.samePedal (c d : Cue) : Bool := d.source == sourcePedals && d.index == c.index

theorem Cue.samePedal_false {c d : Cue} (h : d.source ≠ 1 ∨ d.index ≠ c.index) : c.samePedal d = false := by
  rw [Cue.samePedal, Bool.and_eq_false_iff, beq_eq_false_iff_ne, beq_eq_false_iff_ne]
  exact h

theorem CueUnit.enqueue_no_pedal {u : CueUnit} {c : Cue} (full : 16 ≤ u.queue.length) (none_ : ∀ d ∈ u.queue, d.source ≠ 1 ∨ d.index ≠ c.index) :
    u.enqueue c = { u with lost := true } := by
  by_cases pedal : c.source = sourcePedals
  · have absent : replaceFirst c.samePedal c u.queue.reverse = none :=
      replaceFirst_none (fun d hd => Cue.samePedal_false (none_ d (List.mem_reverse.1 hd))) c
    refine ((if_neg (Nat.not_lt.2 full)).trans (if_pos pedal)).trans ?_
    change (match replaceFirst c.samePedal c u.queue.reverse with
      | some q => { u with queue := q.reverse }
      | none => { u with lost := true }) = _
    rw [absent]
  · exact CueUnit.enqueue_lost full pedal

theorem CueUnit.enqueue_replaces {u : CueUnit} {c d : Cue} {older younger : List Cue} (queue : u.queue = older ++ d :: younger)
    (full : 16 ≤ u.queue.length) (source : c.source = 1) (source' : d.source = 1) (index : d.index = c.index)
    (youngest : ∀ e ∈ younger, e.source ≠ 1 ∨ e.index ≠ c.index) : u.enqueue c = { u with queue := older ++ c :: younger } := by
  have own : c.samePedal d = true := by
    rw [Cue.samePedal, source', index, Bool.and_eq_true]
    exact ⟨rfl, beq_self_eq_true _⟩
  have found : replaceFirst c.samePedal c u.queue.reverse = some (younger.reverse ++ c :: older.reverse) := by
    rw [queue, List.reverse_append, List.reverse_cons, List.append_assoc]
    exact replaceFirst_some (fun e he => Cue.samePedal_false (youngest e (List.mem_reverse.1 he))) own _ c
  refine ((if_neg (Nat.not_lt.2 full)).trans (if_pos source)).trans ?_
  change (match replaceFirst c.samePedal c u.queue.reverse with
    | some q => { u with queue := q.reverse }
    | none => { u with lost := true }) = _
  rw [found]
  simp

/-! ## A pedal's reading (R125..R127) -/

theorem PedalSettings.valueOf_le (p : PedalSettings) (r : Nat) : p.valueOf r ≤ 1023 := by
  rw [PedalSettings.valueOf, clampTo]
  omega

theorem PedalSettings.valueOf_eq {p : PedalSettings} {x d : Nat} (hi : p.hi = p.lo + d) (some_ : 0 < d) (le : x ≤ d) :
    p.valueOf (p.lo + x) = (2046 * x + d) / (2 * d) := by
  have small : (2046 * x + d) / (2 * d) < 1024 := Nat.div_lt_of_lt_mul (by omega)
  have share : divHalfUp (1023 * (((p.lo + x : Nat) : Int) - p.lo)) ((p.hi : Int) - p.lo) = ((2046 * x + d) / (2 * d) : Nat) := by
    have num : 2 * (1023 * (((p.lo + x : Nat) : Int) - p.lo)) + ((p.hi : Int) - p.lo) = ((2046 * x + d : Nat) : Int) := by omega
    have den : 2 * ((p.hi : Int) - p.lo) = ((2 * d : Nat) : Int) := by omega
    rw [divHalfUp, if_neg (by omega), num, den]
    rfl
  rw [PedalSettings.valueOf, clampTo, share]
  generalize (2046 * x + d) / (2 * d) = q at small
  omega

/-- The value is the reading's share of the calibration, rounded half up. -/
theorem PedalSettings.valueOf_bounds {p : PedalSettings} {r : Nat} (h : p.lo < p.hi) (low : p.lo ≤ r) (high : r ≤ p.hi) :
    2 * p.valueOf r * (p.hi - p.lo) ≤ 2046 * (r - p.lo) + (p.hi - p.lo) ∧
    2046 * (r - p.lo) + (p.hi - p.lo) < (2 * p.valueOf r + 2) * (p.hi - p.lo) := by
  obtain ⟨x, rfl⟩ := Nat.exists_eq_add_of_le low
  obtain ⟨d, hd⟩ := Nat.exists_eq_add_of_lt h
  have value := PedalSettings.valueOf_eq (x := x) (d := d + 1) hd (Nat.succ_pos d) (by omega)
  have span : p.hi - p.lo = d + 1 := by omega
  have below := Nat.div_mul_le_self (2046 * x + (d + 1)) (2 * (d + 1))
  have above := Nat.lt_div_mul_add (a := 2046 * x + (d + 1)) (b := 2 * (d + 1)) (by omega)
  rw [value, span, Nat.add_sub_cancel_left]
  generalize (2046 * x + (d + 1)) / (2 * (d + 1)) = q at below above
  have twice : 2 * q * (d + 1) = q * (2 * (d + 1)) := by ring
  have next_ : (2 * q + 2) * (d + 1) = q * (2 * (d + 1)) + 2 * (d + 1) := by ring
  exact ⟨twice ▸ below, next_ ▸ above⟩

theorem Pedal.sends_iff (p : Pedal) (v : Nat) : p.sends v = true ↔ p.lastSent = none ∨ ∃ last, p.lastSent = some last ∧
    (p.settings.deadband ≤ max v last - min v last ∨ ((v = 0 ∨ v = 1023) ∧ v ≠ last)) := by
  unfold Pedal.sends
  cases p.lastSent with
  | none => simp
  | some last => simp

theorem PedalSettings.silent_iff (p : PedalSettings) : p.silent = true ↔ p.lo = p.hi := by
  rw [PedalSettings.silent, beq_iff_eq]
  exact eq_comm

section
variable {p : Pedal} {r : Nat}

theorem Pedal.scan_value (plugged : p.plugged = true) (low : r < 1016) (loud : p.settings.lo ≠ p.settings.hi) :
    let v := p.settings.valueOf r
    p.scan r = ({ p with raw := r, run := 0, value := v, lastSent := if p.sends v then some v else p.lastSent },
      if p.sends v then some v else none) := by
  obtain ⟨settings, plug, run, raw, value, lastSent⟩ := p
  obtain rfl : plug = true := plugged
  have noisy : settings.silent = false := by
    rw [← Bool.not_eq_true, PedalSettings.silent_iff]
    exact loud
  have same : Pedal.sends ⟨settings, true, run, r, value, lastSent⟩ (settings.valueOf r) =
      Pedal.sends ⟨settings, true, run, raw, value, lastSent⟩ (settings.valueOf r) := rfl
  simp only [Pedal.scan, if_true, if_neg (Nat.not_le.2 low), noisy, Bool.false_eq_true, if_false, same]
  cases Pedal.sends ⟨settings, true, run, raw, value, lastSent⟩ (settings.valueOf r) <;> rfl

theorem Pedal.scan_silent (plugged : p.plugged = true) (low : r < 1016) (silent : p.settings.lo = p.settings.hi) :
    p.scan r = ({ p with raw := r, run := 0 }, none) := by
  simp only [Pedal.scan, plugged, if_true, if_neg (Nat.not_le.2 low), (p.settings.silent_iff).2 silent]

theorem Pedal.scan_high (plugged : p.plugged = true) (high : 1016 ≤ r) : p.scan r = ({ p with raw := r, run := p.run + 1 }, none) := by
  simp only [Pedal.scan, plugged, if_true, if_pos high]

theorem Pedal.scan_unplugged (unplugged : p.plugged = false) :
    p.scan r = ({ p with raw := r, run := if r < 1016 then p.run + 1 else 0 }, none) := by
  simp only [Pedal.scan, unplugged, Bool.false_eq_true, if_false]
end

/-! ## A scan of the pedals (R124) -/

/-- The cue of pedal i. -/
def State.pedalCueOf (s : State) (i : Fin 4) (v : Nat) : Cue := ⟨1, .control, BitVec.ofNat 8 i.val, BitVec.ofNat 10 v, s.sampleCounter⟩

/-- What a scan makes of pedal i: the pedal after its reading, and the value it sends. -/
def State.pedalScanned (s : State) (i : Fin 4) : Pedal × Option Nat :=
  if s.cues.pedals[i].settings.enabled then s.cues.pedals[i].scan s.pins.pedals[i].toNat else (s.cues.pedals[i], none)

theorem State.scanPedals_disabled {s : State} {i : Fin 4} (h : s.cues.pedals[i].settings.enabled = false) (rest : List (Fin 4)) :
    s.scanPedals (i :: rest) = s.scanPedals rest := by
  rw [State.scanPedals, h]
  rfl

theorem State.scanPedals_enabled {s : State} {i : Fin 4} (h : s.cues.pedals[i].settings.enabled = true) (rest : List (Fin 4))
    (early : (s.pedalScanned i).1.run < 4) (room : s.cues.queue.length < 16) : s.scanPedals (i :: rest) =
      (s.withCues { s.cues with
        pedals := s.cues.pedals.set i (s.pedalScanned i).1
        queue := s.cues.queue ++ ((s.pedalScanned i).2.map (s.pedalCueOf i)).toList }).scanPedals rest := by
  have scanned : s.pedalScanned i = s.cues.pedals[i].scan s.pins.pedals[i].toNat := if_pos h
  rw [scanned] at early ⊢
  have undue : (s.cues.pedals[i].scan s.pins.pedals[i].toNat).1.plugDue = false := decide_eq_false (Nat.not_le.2 early)
  rw [State.scanPedals, h]
  simp only [undue, Bool.not_true, Bool.false_eq_true, if_false]
  cases sent : (s.cues.pedals[i].scan s.pins.pedals[i].toNat).2 with
  | none => simp only [Option.map_none, Option.toList_none, List.append_nil]; rfl
  | some v =>
    have queued : (s.setPedal i (s.cues.pedals[i].scan s.pins.pedals[i].toNat).1).pedalCue i v = s.withCues { s.cues with
        pedals := s.cues.pedals.set i (s.cues.pedals[i].scan s.pins.pedals[i].toNat).1
        queue := s.cues.queue ++ [s.pedalCueOf i v] } := by
      rw [State.pedalCue, State.makeCue, CueUnit.enqueue_room (u := (s.setPedal i _).cues) room]
      rfl
    simp only [queued]
    rfl

/-- A scan in which no plug change falls due. -/
theorem State.scanPedals_quiet {l : List (Fin 4)} (once : l.Nodup) {s : State} (room : s.cues.queue.length + l.length ≤ 16)
    (early : ∀ i ∈ l, s.cues.pedals[i].settings.enabled = true → (s.pedalScanned i).1.run < 4) :
    ∃ pedals : Vector Pedal 4, s.scanPedals l = s.withCues { s.cues with
      scanAt := none
      pedals := pedals
      queue := s.cues.queue ++ l.filterMap fun i => (s.pedalScanned i).2.map (s.pedalCueOf i) } ∧
    ∀ i : Fin 4, pedals[i] = if i ∈ l then (s.pedalScanned i).1 else s.cues.pedals[i] := by
  induction l generalizing s with
  | nil => exact ⟨s.cues.pedals, by simp [State.scanPedals], fun i => by simp⟩
  | cons i rest ih =>
    obtain ⟨out, once⟩ := List.nodup_cons.1 once
    rw [List.length_cons] at room
    cases enabled : s.cues.pedals[i].settings.enabled with
    | false =>
      have idle : s.pedalScanned i = (s.cues.pedals[i], none) := if_neg (by rw [enabled]; decide)
      obtain ⟨pedals, scanned, each⟩ := ih once (s := s) (by omega) fun j hj => early j (List.mem_cons_of_mem _ hj)
      refine ⟨pedals, ?_, fun j => ?_⟩
      · rw [State.scanPedals_disabled enabled, scanned, List.filterMap_cons_none (by rw [idle]; rfl)]
      · rw [each j]
        by_cases same : j = i
        · subst same
          simp [out, idle]
        · simp [same]
    | true =>
      have step := State.scanPedals_enabled enabled rest (early i (List.mem_cons_self ..) enabled) (by omega)
      let u : State := s.withCues { s.cues with
        pedals := s.cues.pedals.set i (s.pedalScanned i).1
        queue := s.cues.queue ++ ((s.pedalScanned i).2.map (s.pedalCueOf i)).toList }
      have others (j : Fin 4) (h : j ≠ i) : u.cues.pedals[j] = s.cues.pedals[j] :=
        Vector.getElem_set_ne i.isLt j.isLt fun same => h (Fin.ext same.symm)
      have away (j : Fin 4) (h : j ∈ rest) : j ≠ i := fun same => out (same ▸ h)
      have scanned (j : Fin 4) (h : j ∈ rest) : u.pedalScanned j = s.pedalScanned j := by
        rw [State.pedalScanned, State.pedalScanned, others j (away j h)]
        rfl
      have longer : u.cues.queue.length ≤ s.cues.queue.length + 1 := by
        have : ((s.pedalScanned i).2.map (s.pedalCueOf i)).toList.length ≤ 1 := by
          cases (s.pedalScanned i).2 <;> simp
        simp only [u, State.withCues_cues, List.length_append]
        omega
      obtain ⟨pedals, result, each⟩ := ih once (s := u) (by omega) fun j hj => by
        rw [others j (away j hj), scanned j hj]
        exact early j (List.mem_cons_of_mem _ hj)
      refine ⟨pedals, ?_, fun j => ?_⟩
      · have cues : (rest.filterMap fun j => (u.pedalScanned j).2.map (u.pedalCueOf j)) =
            rest.filterMap fun j => (s.pedalScanned j).2.map (s.pedalCueOf j) := by
          refine List.filterMap_congr fun j hj => ?_
          rw [scanned j hj]
          rfl
        rw [step, result, cues]
        have queue : s.cues.queue ++ (i :: rest).filterMap (fun j => (s.pedalScanned j).2.map (s.pedalCueOf j)) = u.cues.queue ++
            rest.filterMap fun j => (s.pedalScanned j).2.map (s.pedalCueOf j) := by
          simp only [u, State.withCues_cues, List.append_assoc]
          cases sent : (s.pedalScanned i).2 <;> simp [sent]
        rw [queue]
        rfl
      · rw [each j]
        by_cases same : j = i
        · subst same
          simp [out, u]
        · by_cases mem : j ∈ rest
          · simp [mem, scanned j mem]
          · have kept := others j same
            simp only [Fin.getElem_fin] at kept
            simp [mem, same, kept]

theorem State.scanPedals_all_disabled {l : List (Fin 4)} {s : State} (h : ∀ i ∈ l, s.cues.pedals[i].settings.enabled = false) :
    s.scanPedals l = s.withCues { s.cues with scanAt := none } := by
  induction l with
  | nil => rfl
  | cons i rest ih =>
    rw [State.scanPedals_disabled (h i (List.mem_cons_self ..))]
    exact ih fun j hj => h j (List.mem_cons_of_mem _ hj)

theorem State.scanWaitsAt_of_due {s : State} {i : Fin 4} (waits : s.cues.scanAt = some i) (due : 4 ≤ s.cues.pedals[i].run) :
    s.scanWaitsAt i = true := by
  rw [State.scanWaitsAt, waits, Bool.and_eq_true]
  exact ⟨beq_self_eq_true _, decide_eq_true due⟩

/-- What follows a plug change of the last pedal that is enabled: the scan ends. -/
theorem State.scanPedals_after {s u : State} {i : Fin 4} (above : ∀ j : Fin 4, i < j → s.cues.pedals[j].settings.enabled = false) {p : Pedal}
    (pedals : u.cues.pedals = s.cues.pedals.set i p) : u.scanPedals (pedalsAfter i) = u.withCues { u.cues with scanAt := none } := by
  refine State.scanPedals_all_disabled fun j hj => ?_
  have higher : i < j := by simpa [pedalsAfter] using hj
  have apart : i.val ≠ j.val := fun same => absurd higher (by rw [Fin.ext same]; exact lt_irrefl _)
  have kept : u.cues.pedals[j] = s.cues.pedals[j] := by
    rw [pedals]
    exact Vector.getElem_set_ne i.isLt j.isLt apart
  rw [kept]
  exact above j higher

/-- The PEDAL report of a plug change. -/
def Link.plugReport (l : Link) (i : Fin 4) (unplugged : Byte) (raw : Nat) : Link :=
  l.post .pedal 0 [BitVec.ofNat 8 i.val, unplugged, BitVec.ofNat 8 raw, BitVec.ofNat 8 (raw / 256)]

section
variable {s : State} {i : Fin 4} (waits : s.cues.scanAt = some i) (due : 4 ≤ s.cues.pedals[i].run)
  (above : ∀ j : Fin 4, i < j → s.cues.pedals[j].settings.enabled = false)
include waits due above

theorem State.takeUnplug_last (plugged : s.cues.pedals[i].plugged = true) : s.takeUnplug i = { s with
    cues := { s.cues with scanAt := none, pedals := s.cues.pedals.set i { s.cues.pedals[i] with plugged := false, run := 0 } }
    link := s.link.plugReport i 1 s.cues.pedals[i].raw } := by
  refine (if_pos (by rw [State.scanWaitsAt_of_due waits due, plugged]; rfl)).trans ?_
  exact State.scanPedals_after above (p := { s.cues.pedals[i] with plugged := false, run := 0 }) rfl

theorem State.takePlug_silent (unplugged : s.cues.pedals[i].plugged = false) (silent : s.cues.pedals[i].settings.lo = s.cues.pedals[i].settings.hi) :
    s.takePlug i = { s with
      cues := { s.cues with scanAt := none, pedals := s.cues.pedals.set i { s.cues.pedals[i] with plugged := true, run := 0 } }
      link := s.link.plugReport i 0 s.cues.pedals[i].raw } := by
  refine (if_pos (by rw [State.scanWaitsAt_of_due waits due, unplugged]; rfl)).trans ?_
  refine (if_pos ((PedalSettings.silent_iff _).2 silent)).trans ?_
  exact State.scanPedals_after above (p := { s.cues.pedals[i] with plugged := true, run := 0 }) rfl

theorem State.takePlug_sends (unplugged : s.cues.pedals[i].plugged = false) (loud : s.cues.pedals[i].settings.lo ≠ s.cues.pedals[i].settings.hi)
    (room : s.cues.queue.length < 16) : let v := s.cues.pedals[i].settings.valueOf s.cues.pedals[i].raw
    let p : Pedal := { s.cues.pedals[i] with plugged := true, run := 0, value := v, lastSent := some v }
    s.takePlug i = { s with
      cues := { s.cues with scanAt := none, pedals := s.cues.pedals.set i p, queue := s.cues.queue ++ [s.pedalCueOf i v] }
      link := s.link.plugReport i 0 s.cues.pedals[i].raw } := by
  intro v p
  refine (if_pos (by rw [State.scanWaitsAt_of_due waits due, unplugged]; rfl)).trans ?_
  refine (if_neg fun silent => loud ((PedalSettings.silent_iff _).1 silent)).trans ?_
  have queued : ((s.setPedal i p).reportPedal i p).pedalCue i v = { s with
      cues := { s.cues with pedals := s.cues.pedals.set i p, queue := s.cues.queue ++ [s.pedalCueOf i v] }
      link := s.link.plugReport i 0 s.cues.pedals[i].raw } := by
    rw [State.pedalCue, State.makeCue, CueUnit.enqueue_room (u := ((s.setPedal i p).reportPedal i p).cues) room]
    rfl
  refine (congrArg (fun u : State => u.scanPedals (pedalsAfter i)) queued).trans ?_
  exact State.scanPedals_after above (p := p) rfl
end

/-- Settles O40. -/
theorem pedalScansAndPlugChanges : Obligations.PedalScansAndPlugChanges := by
  unfold Obligations.PedalScansAndPlugChanges
  refine ⟨fun u c => ⟨fun room => CueUnit.enqueue_room room c, fun full other => ?_, fun older d younger queue full source source' index youngest =>
      CueUnit.enqueue_replaces queue full source source' index youngest⟩,
    fun p r plugged low loud => ?_, fun p r plugged low silent => Pedal.scan_silent plugged low silent,
    fun p r plugged high => Pedal.scan_high plugged high, fun p r unplugged => Pedal.scan_unplugged unplugged,
    fun s running zero idle room early => ?_, fun s i on waits due above => ⟨fun plugged => ?_, fun unplugged loud room => ?_, fun unplugged silent => ?_⟩⟩
  · rcases other with other | none_
    · exact CueUnit.enqueue_lost full other
    · exact CueUnit.enqueue_no_pedal full none_
  · intro v
    rw [Pedal.scan_value plugged low loud]
    exact ⟨rfl, rfl, p.settings.valueOf_le r, p.sends_iff v, fun h lower upper => PedalSettings.valueOf_bounds h lower upper⟩
  · have on : s.powered := by simp [State.powered, running]
    have due : s.scanDue = true := by simp [State.scanDue, State.ready, running, zero]
    have taken : s.takePedalScan = (s.withCues { s.cues with countdown := s.cues.scanMs * 48 }).scanPedals (List.finRange 4) := by
      rw [State.takePedalScan, if_pos due, State.settlePlugs_idle idle]
    let u : State := s.withCues { s.cues with countdown := s.cues.scanMs * 48 }
    obtain ⟨pedals, scanned, each⟩ := State.scanPedals_quiet (List.nodup_finRange 4) (s := u) (by simpa [u] using room) fun i _ enabled => by
      have read : u.pedalScanned i = s.cues.pedals[i].scan s.pins.pedals[i].toNat := if_pos enabled
      rw [read]
      exact early i enabled
    refine ⟨_, exec_pedalScan on, ?_⟩
    rw [taken, scanned]
    refine ⟨rfl, rfl, fun i => ?_, ?_⟩
    · refine ((each i).trans (if_pos (List.mem_finRange i))).trans ?_
      unfold State.pedalScanned
      split
      next h => exact (if_pos h).symm
      next h => exact (if_neg h).symm
    · refine congrArg (s.cues.queue ++ ·) (List.filterMap_congr fun i _ => ?_)
      unfold State.pedalScanned
      split
      next h => exact (if_pos h).symm
      next h => exact (if_neg h).symm
  · rw [exec_pedalUnplug on, State.takeUnplug_last waits due above plugged]
    exact ⟨_, rfl, rfl, rfl, rfl, rfl, rfl⟩
  · rw [exec_pedalPlug on, State.takePlug_sends waits due above unplugged loud room]
    exact ⟨_, rfl, rfl, rfl, rfl, rfl, rfl⟩
  · rw [exec_pedalPlug on, State.takePlug_silent waits due above unplugged silent]
    exact ⟨_, rfl, rfl, rfl, rfl, rfl, rfl⟩

end Sys2Proof.Machine
end

section
/-! CORRECTNESS. The control-port receiver (spec/07 7.4, spec/10 10.5). -/

namespace Sys2Proof.Machine

/-! ## The cue of a complete frame (R132, R193) -/

theorem frameCue_rejects {b0 : Byte} (h : b0.toNat % 16 < 3 ∨ b0.toNat / 16 % 8 = 7) (b1 b2 b3 : Byte) (stamp : Stamp) :
    frameCue b0 b1 b2 b3 stamp = none := by
  unfold frameCue
  dsimp only
  split
  next kind some_ =>
    refine if_pos (h.resolve_right fun seven => ?_)
    rw [seven] at some_
    cases some_
  next => rfl

theorem frameCue_accepts {b0 : Byte} {kind : CueKind} (unit : 3 ≤ b0.toNat % 16) (hkind : b0.toNat / 16 % 8 = kind.code) (b1 b2 b3 : Byte)
    (stamp : Stamp) : frameCue b0 b1 b2 b3 stamp = some ⟨BitVec.ofNat 4 b0.toNat, kind, BitVec.ofNat 8 (b1.toNat % 128),
      BitVec.ofNat 10 (b2.toNat % 128 * 8 + b3.toNat % 8), stamp⟩ := by
  have source : BitVec.ofNat 4 (b0.toNat % 16) = BitVec.ofNat 4 b0.toNat := BitVec.eq_of_toNat_eq (by simp)
  simp only [frameCue, hkind, cueKindOf_code, if_neg (Nat.not_lt.2 unit), source]

theorem frameCue_of_cue {c : Cue} (unit : 3 ≤ c.source.toNat) (index : c.index.toNat < 128) :
    frameCue (BitVec.ofNat 8 (128 + c.kind.code * 16 + c.source.toNat)) c.index (BitVec.ofNat 8 (c.value.toNat / 8))
      (BitVec.ofNat 8 (c.value.toNat % 8)) c.stamp = some c := by
  obtain ⟨source, kind, index_, value, stamp⟩ := c
  dsimp only at unit index ⊢
  have code : kind.code ≤ 6 := by cases kind <;> decide
  have first : (BitVec.ofNat 8 (128 + kind.code * 16 + source.toNat)).toNat = 128 + kind.code * 16 + source.toNat :=
    Nat.mod_eq_of_lt (by omega)
  have high : (BitVec.ofNat 8 (value.toNat / 8)).toNat = value.toNat / 8 := Nat.mod_eq_of_lt (by omega)
  have low : (BitVec.ofNat 8 (value.toNat % 8)).toNat = value.toNat % 8 := Nat.mod_eq_of_lt (by omega)
  rw [frameCue_accepts (kind := kind) (by rw [first]; omega) (by rw [first]; omega), first, high, low, Nat.mod_eq_of_lt index]
  have source_ : BitVec.ofNat 4 (128 + kind.code * 16 + source.toNat) = source := BitVec.eq_of_toNat_eq (by rw [BitVec.toNat_ofNat]; omega)
  have value_ : BitVec.ofNat 10 (value.toNat / 8 % 128 * 8 + value.toNat % 8 % 8) = value :=
    BitVec.eq_of_toNat_eq (by rw [BitVec.toNat_ofNat]; omega)
  have index' : BitVec.ofNat 8 index_.toNat = index_ := BitVec.ofNat_toNat 8 index_
  rw [source_, value_, index']

/-! ## The receiver (R130, R131) -/

theorem State.receiveByte_unready {s : State} (h : s.startUp.phase ≠ .running) (b : Byte) (framingError : Bool) :
    s.receiveByte b framingError = s := if_pos (by simpa [State.ready] using h)

section
variable {s : State} (running : s.startUp.phase = .running)
include running

theorem State.receiveByte_framingError (b : Byte) : s.receiveByte b true =
    s.withCues (if s.cues.frame.isEmpty then s.cues else { s.cues.discard with frame := [] }) := by
  simp [State.receiveByte, State.ready, running]

theorem State.receiveByte_status {b : Byte} (status : b.msb = true) : s.receiveByte b false =
    s.withCues (if s.cues.frame.isEmpty then { s.cues with frame := [b] } else { s.cues.discard with frame := [b] }) := by
  simp [State.receiveByte, State.ready, running, status]

theorem State.receiveByte_stray {b : Byte} (data : b.msb = false) (idle : s.cues.frame = []) :
    s.receiveByte b false = s.withCues s.cues.discard := by
  simp [State.receiveByte, State.ready, running, data, idle]

theorem State.receiveByte_joins {b : Byte} (data : b.msb = false) (open_ : s.cues.frame ≠ []) (few : s.cues.frame.length < 3) :
    s.receiveByte b false = s.withCues { s.cues with frame := s.cues.frame ++ [b] } := by
  have ready : s.ready = true := by rw [State.ready, running]; rfl
  rw [State.receiveByte, ready]
  simp only [data, Bool.not_true, Bool.false_eq_true, if_false]
  split
  next none_ => exact absurd none_ open_
  next b0 b1 b2 three =>
    rw [three] at few
    simp at few
  next => rfl

theorem State.receiveByte_completes {b b0 b1 b2 : Byte} (data : b.msb = false) (frame : s.cues.frame = [b0, b1, b2]) :
    (frameCue b0 b1 b2 b s.sampleCounter = none → s.receiveByte b false = s.withCues { s.cues.discard with frame := [] }) ∧
    ∀ c, frameCue b0 b1 b2 b s.sampleCounter = some c →
      s.receiveByte b false = s.withCues (CueUnit.enqueue { s.cues with frame := [] } c) := by
  refine ⟨fun rejected => ?_, fun c accepted => ?_⟩
  · simp [State.receiveByte, State.ready, running, data, frame, rejected, CueUnit.discard]
  · simp [State.receiveByte, State.ready, running, data, frame, accepted]
end

/-- Settles O41. -/
theorem controlPortAssemblesFrames : Obligations.ControlPortAssemblesFrames := by
  unfold Obligations.ControlPortAssemblesFrames
  refine ⟨fun s b running => ?_, fun s early b => ?_, fun c unit index => frameCue_of_cue unit index⟩
  · have on : s.powered := by simp [State.powered, running]
    have nonempty {l : List Byte} (h : l ≠ []) : l.isEmpty = false := by simpa using h
    refine ⟨fun status idle => ?_, fun status open_ => ?_, fun data idle => ?_, fun open_ => ?_, fun idle => ?_, fun data open_ few => ?_,
      fun b0 b1 b2 data frame => ⟨fun bad => ?_, fun kind unit hkind room => ?_⟩⟩
    · rw [exec_controlFrameByte on, State.receiveByte_status running status, idle]
      rfl
    · rw [exec_controlDiscard on, State.receiveByte_status running status, nonempty open_]
      rfl
    · rw [exec_controlDiscard on, State.receiveByte_stray running data idle]
      rfl
    · rw [exec_controlDiscard on, State.receiveByte_framingError running, nonempty open_]
      rfl
    · rw [exec_controlDiscard on, State.receiveByte_framingError running, idle]
      rfl
    · rw [exec_controlFrameByte on, State.receiveByte_joins running data open_ few]
      rfl
    · rw [exec_controlFrame on, (State.receiveByte_completes running data frame).1 (frameCue_rejects bad _ _ _ _)]
      rfl
    · rw [exec_controlFrame on, (State.receiveByte_completes running data frame).2 _ (frameCue_accepts unit hkind _ _ _ _),
        CueUnit.enqueue_room (u := { s.cues with frame := [] }) room]
      rfl
  · by_cases held : s.startUp.phase = .held
    · exact ⟨exec_held held (by rintro ⟨⟩), exec_held held (by rintro ⟨⟩), exec_held held (by rintro ⟨⟩), exec_held held (by rintro ⟨⟩)⟩
    · have on : s.powered := held
      have quiet (e : Bool) := State.receiveByte_unready early b e
      exact ⟨by rw [exec_controlFrameByte on, quiet], by rw [exec_controlFrame on, quiet], by rw [exec_controlDiscard on, quiet],
        by rw [exec_controlDiscard on, quiet]⟩

end Sys2Proof.Machine
end

section
/-! CORRECTNESS. Taps and the events of the tempo unit (spec/08). -/

namespace Sys2Proof.Machine

/-! ## Taps (R149, R150) -/

section
variable {t : Tempo} {stamp last : Stamp}

theorem Tempo.tap_locked (h : t.locked = true) : t.tap stamp = t := if_pos h

theorem Tempo.tap_first (unlocked : t.locked = false) (none_ : t.tapLast = none) :
    t.tap stamp = { t with tapLast := some stamp, tapRun := [], restart := true } := by
  simp only [Tempo.tap, unlocked, none_, Bool.false_eq_true, if_false]

variable (unlocked : t.locked = false) (before : t.tapLast = some last)
include unlocked before

theorem Tempo.tap_early (h : (stamp - last).toNat < 12000) : t.tap stamp = t := by
  simp only [Tempo.tap, unlocked, before, Bool.false_eq_true, if_false]
  exact if_pos h

theorem Tempo.tap_late (h : 144000 < (stamp - last).toNat) :
    t.tap stamp = { t with tapLast := some stamp, tapRun := [], restart := true } := by
  have late : ¬(stamp - last).toNat < 12000 := by omega
  simp only [Tempo.tap, unlocked, before, Bool.false_eq_true, if_false]
  exact (if_neg late).trans (if_pos h)

/-- A tap in time joins the run, of which the last four intervals count. -/
theorem Tempo.tap_joins (low : 12000 ≤ (stamp - last).toNat) (high : (stamp - last).toNat ≤ 144000) {run : List Nat}
    (joined : (if 4 ≤ t.tapRun.length then t.tapRun.drop 1 else t.tapRun) ++ [(stamp - last).toNat] = run) :
    t.tap stamp = { t with tapLast := some stamp, tapRun := run, beat := run.sum / run.length, restart := true, source := .tap } := by
  subst joined
  simp only [Tempo.tap, unlocked, before, Bool.false_eq_true, if_false]
  exact (if_neg (Nat.not_lt.2 low)).trans (if_neg (Nat.not_lt.2 high))
end

/-! ## The tempo unit's events (R92, R147, R151..R153, R157) -/

/-- Settles O45. -/
theorem tapsAndTempoEventsTakeEffect : Obligations.TapsAndTempoEventsTakeEffect := by
  unfold Obligations.TapsAndTempoEventsTakeEffect
  refine ⟨fun t stamp => ⟨Tempo.tap_locked, Tempo.tap_first, fun last unlocked before => ⟨Tempo.tap_early unlocked before,
      Tempo.tap_late unlocked before, fun low high few => ?_, fun a b c d low high run => ?_⟩⟩,
    fun s on due => ⟨fun c beat armed => ?_, fun unarmed => ?_⟩, fun s on expired => ⟨fun unlocked => ?_, fun locked => ?_⟩,
    fun s on unlocked eight ok => ?_, fun s on locked eight => ?_, fun s on => ⟨fun quiet => ?_, fun runs => ?_, fun few => ⟨?_, ?_⟩⟩⟩
  · rw [Tempo.tap_joins unlocked before low high (by rw [if_neg (Nat.not_le.2 few)])]
    simp only [List.length_append, List.length_singleton]
  · rw [Tempo.tap_joins unlocked before low high (run := [b, c, d, (stamp - last).toNat]) (by rw [run]; rfl)]
    simp [Nat.add_assoc]
  · rw [exec_beatEvent on, State.takeBeat, if_pos due]
    simp only [State.withTempo_scenes, armed]
    cases c.timing <;> rfl
  · rw [exec_beatEvent on, State.takeBeat_unarmed unarmed]
    rfl
  · have loss : s.tempo.lossDue = true := by rw [Tempo.lossDue, expired]; rfl
    let e : Tempo := { s.tempo with loss := none, clockLast := none, clockFirst := none, clockRun := [], clockCount := 0 }
    have expires : s.tempo.expire = e := if_neg fun locked => absurd (unlocked.symm.trans locked) (by decide)
    rw [exec_clockLossExpiry on, State.takeClockLoss, if_pos loss, expires, State.changeTempo_quiet (s := s) (t := e) ⟨rfl, rfl⟩]
    rfl
  · have loss : s.tempo.lossDue = true := by rw [Tempo.lossDue, expired]; rfl
    have expires : s.tempo.expire = { s.tempo with
        loss := none, clockLast := none, clockFirst := none, clockRun := [], clockCount := 0, locked := false, source := .held } :=
      if_pos locked
    rw [exec_clockLossExpiry on, State.takeClockLoss, if_pos loss, expires, State.changeTempo_reports fun same => Bool.false_ne_true (same.2.trans locked)]
    rfl
  · have lock : s.tempo.lockDue = true := by simp [Tempo.lockDue, unlocked, eight, (beatInRange_iff _).2 ok]
    rw [exec_clockLock on, State.takeClockLock, if_pos lock, State.changeTempo_reports fun same => Bool.false_ne_true (same.2.trans unlocked).symm]
    rfl
  · have update : s.tempo.updateDue = true := by simp [Tempo.updateDue, locked, eight]
    rw [exec_clockUpdate on, State.takeClockUpdate, if_pos update, State.changeTempo_quiet (s := s) (t := s.tempo.update) ⟨rfl, rfl⟩]
    rfl
  · rw [exec_beatEvent on, State.takeBeat, quiet]
    rfl
  · have early : s.tempo.lossDue = false := beq_eq_false_iff_ne.2 runs
    rw [exec_clockLossExpiry on, State.takeClockLoss, early]
    rfl
  · have early : s.tempo.lockDue = false := by simp [Tempo.lockDue, few]
    rw [exec_clockLock on, State.takeClockLock, early]
    rfl
  · have early : s.tempo.updateDue = false := by simp [Tempo.updateDue, few]
    rw [exec_clockUpdate on, State.takeClockUpdate, early]
    rfl

end Sys2Proof.Machine
end

section
/-! CORRECTNESS. The requests of the tuner (spec/09 9.1, 9.5). -/

namespace Sys2Proof.Machine

/-! ## New settings and a change of mode (R159, R160, R162) -/

theorem Tuner.setSettings_frame (t : Tuner) (v : TunerSettings) : let a := t.setSettings v
    a.settings = v ∧ a.y = t.y ∧ a.positive = t.positive ∧ a.mode = t.mode ∧ a.measure = t.measure ∧ a.loss = t.loss ∧
      a.reported = t.reported := by
  unfold Tuner.setSettings
  dsimp only
  split <;> exact ⟨rfl, rfl, rfl, rfl, rfl, rfl, rfl⟩

theorem Tuner.setSettings_run (t : Tuner) (v : TunerSettings) :
    let moved : Prop := v.source ≠ t.settings.source ∨ v.threshold ≠ t.settings.threshold
    let emptied : Prop := moved ∨ v.runLength ≠ t.settings.runLength
    let a := t.setSettings v
    a.lastCrossing = (if moved then none else t.lastCrossing) ∧ a.first = (if emptied then none else t.first) ∧
      a.count = (if emptied then 0 else t.count) ∧ a.sum = (if emptied then 0 else t.sum) := by
  intro moved emptied
  exact ⟨rfl, apply_ite Tuner.first emptied t.emptyRun t, apply_ite Tuner.count emptied t.emptyRun t,
    apply_ite Tuner.sum emptied t.emptyRun t⟩

theorem Tuner.setSettings_latest (t : Tuner) (v : TunerSettings) : (t.setSettings v).latest =
    if v.window ≠ t.settings.window then t.latest.map fun r => { r with inTune := inTune r.cents v.window } else t.latest := rfl

theorem Tuner.setSettings_self (t : Tuner) : t.setSettings t.settings = t := by
  unfold Tuner.setSettings
  simp

theorem Tuner.setMode_frame (t : Tuner) (m : TunerMode) : let a := t.setMode m
    a.settings = t.settings ∧ a.mode = m ∧ a.y = t.y ∧ a.positive = t.positive ∧ a.latest = t.latest := by
  unfold Tuner.setMode
  split
  · exact ⟨rfl, rfl, rfl, rfl, rfl⟩
  · split <;> exact ⟨rfl, rfl, rfl, rfl, rfl⟩

theorem Tuner.setMode_starts {t : Tuner} {m : TunerMode} (off : t.mode = .off) (on : m ≠ .off) :
    t.setMode m = { t with mode := m, measure := .seeking, loss := some Config.tunerLoss, reported := .none } := if_pos ⟨off, on⟩

theorem Tuner.setMode_stops {t : Tuner} (on : t.mode ≠ .off) :
    t.setMode .off = { t.emptyRun with mode := .off, measure := .off, loss := none, lastCrossing := none } :=
  (if_neg fun h => on h.1).trans (if_pos ⟨on, rfl⟩)

theorem Tuner.setMode_goes_on {t : Tuner} {m : TunerMode} (same : t.mode = .off ↔ m = .off) : t.setMode m = { t with mode := m } :=
  (if_neg fun h => h.2 (same.1 h.1)).trans (if_neg fun h => h.1 (same.2 h.2))

theorem Tuner.setMode_reported {t : Tuner} {m : TunerMode} (goesOn : ¬(t.mode = .off ∧ m ≠ .off)) : (t.setMode m).reported = t.reported := by
  unfold Tuner.setMode
  rw [if_neg goesOn]
  split <;> rfl

/-! ## An accepted TUNER_SET (R161, R162, R174) -/

section
variable {s : State} {v : TunerSettings} {m : TunerMode}

theorem State.reportTunerIf_quiet {c : Bool} (h : c = false ∨ s.link.enabled .tuner = false) : s.reportTunerIf c = s := by
  unfold State.reportTunerIf State.reportTuner
  rcases h with h | h
  · rw [h]
    rfl
  · rw [h]
    exact ite_self _

theorem State.reportTunerIf_reports {c : Bool} (h : c = true) (enabled : s.link.enabled .tuner = true) :
    s.reportTunerIf c = (s.post .tuner 0 s.tuner.readingBytes).withTuner { s.tuner with reported := s.tuner.asReported } := by
  unfold State.reportTunerIf State.reportTuner
  rw [h, enabled]
  rfl

theorem State.setTuner_quiet (h : v.window = s.tuner.settings.window ∨ (s.tuner.setSettings v).flagUnreported = false ∨
    s.link.enabled .tuner = false) : s.setTuner v m = s.withTuner ((s.tuner.setSettings v).setMode m) := by
  have quiet : (v.window != s.tuner.settings.window && (s.tuner.setSettings v).flagUnreported) = false ∨
      (s.withTuner (s.tuner.setSettings v)).link.enabled .tuner = false := by
    rcases h with h | h | h
    · exact .inl (by rw [h, bne_self_eq_false, Bool.false_and])
    · exact .inl (by rw [h, Bool.and_false])
    · exact .inr h
  have run := State.reportTunerIf_quiet quiet
  unfold State.setTuner
  dsimp only
  rw [State.withTuner_tuner, run]
  rfl

theorem State.setTuner_reports (window : v.window ≠ s.tuner.settings.window) (flag : (s.tuner.setSettings v).flagUnreported = true)
    (enabled : s.link.enabled .tuner = true) : s.setTuner v m = (s.post .tuner 0 (s.tuner.setSettings v).readingBytes).withTuner
      (({ s.tuner.setSettings v with reported := (s.tuner.setSettings v).asReported } : Tuner).setMode m) := by
  have run := State.reportTunerIf_reports (s := s.withTuner (s.tuner.setSettings v))
    (c := v.window != s.tuner.settings.window && (s.tuner.setSettings v).flagUnreported) (by rw [flag, bne_iff_ne.2 window]; rfl) enabled
  unfold State.setTuner
  dsimp only
  rw [State.withTuner_tuner, run]
  rfl

/-- What a TUNER_SET leaves: the settings' effects and then the mode's, with the reading that was reported between them, if one was. -/
theorem State.setTuner_eq (s : State) (v : TunerSettings) (m : TunerMode) : ∃ rep link,
    s.setTuner v m = { s with tuner := ({ s.tuner.setSettings v with reported := rep } : Tuner).setMode m, link := link } := by
  by_cases h : v.window = s.tuner.settings.window ∨ (s.tuner.setSettings v).flagUnreported = false ∨ s.link.enabled .tuner = false
  · exact ⟨(s.tuner.setSettings v).reported, s.link, s.setTuner_quiet h⟩
  · simp only [not_or, Bool.not_eq_false] at h
    obtain ⟨window, flag, enabled⟩ := h
    exact ⟨_, _, s.setTuner_reports window flag enabled⟩

theorem State.reportTunerIf_endRead (t : State) (c : Bool) : t.endRead.reportTunerIf c = (t.reportTunerIf c).endRead := by
  by_cases h : c = false ∨ t.link.enabled .tuner = false
  · rw [State.reportTunerIf_quiet h, State.reportTunerIf_quiet (s := t.endRead) h]
  · simp only [not_or, Bool.not_eq_false] at h
    obtain ⟨some_, enabled⟩ := h
    rw [State.reportTunerIf_reports some_ enabled, State.reportTunerIf_reports (s := t.endRead) some_ enabled, State.post_endRead]
    rfl

theorem State.setTuner_endRead (s : State) (v : TunerSettings) (m : TunerMode) : s.endRead.setTuner v m = (s.setTuner v m).endRead := by
  unfold State.setTuner
  dsimp only
  rw [State.endRead_tuner, show s.endRead.withTuner (s.tuner.setSettings v) = (s.withTuner (s.tuner.setSettings v)).endRead from rfl,
    State.endRead_tuner, State.reportTunerIf_endRead]
  rfl

/-! ## The clauses of an accepted TUNER_SET (R158..R162) -/

theorem State.setTuner_frame (s : State) (v : TunerSettings) (m : TunerMode) : let t := s.setTuner v m
    t.tuner.settings = v ∧ t.tuner.mode = m ∧ t.tuner.y = s.tuner.y ∧ t.tuner.positive = s.tuner.positive ∧
      t = { s with tuner := t.tuner, link := t.link } ∧ t.tuner.latest = (s.tuner.setSettings v).latest := by
  obtain ⟨settings, y, positive, -, -, -, -⟩ := s.tuner.setSettings_frame v
  obtain ⟨rep, link, e⟩ := s.setTuner_eq v m
  rw [e]
  obtain ⟨settings', mode', y', positive', latest'⟩ := Tuner.setMode_frame { s.tuner.setSettings v with reported := rep } m
  exact ⟨settings'.trans settings, mode', y'.trans y, positive'.trans positive, rfl, latest'⟩

theorem State.setTuner_starts (off : s.tuner.mode = .off) (on : m ≠ .off) : let t := s.setTuner v m
    t.tuner.measure = .seeking ∧ t.tuner.loss = some 9600 ∧ t.tuner.reported = .none := by
  obtain ⟨-, -, -, mode, -, -, -⟩ := s.tuner.setSettings_frame v
  obtain ⟨rep, link, e⟩ := s.setTuner_eq v m
  rw [e, Tuner.setMode_starts (t := { s.tuner.setSettings v with reported := rep }) (mode.trans off) on]
  exact ⟨rfl, rfl, rfl⟩

theorem State.setTuner_stops (on : s.tuner.mode ≠ .off) : let t := s.setTuner v .off
    t.tuner.measure = .off ∧ t.tuner.loss = none ∧ t.tuner.count = 0 ∧ t.tuner.lastCrossing = none := by
  obtain ⟨-, -, -, mode, -, -, -⟩ := s.tuner.setSettings_frame v
  obtain ⟨rep, link, e⟩ := s.setTuner_eq v .off
  rw [e, Tuner.setMode_stops (t := { s.tuner.setSettings v with reported := rep }) fun h => on (mode.symm.trans h)]
  exact ⟨rfl, rfl, rfl, rfl⟩

theorem State.setTuner_self (s : State) : s.setTuner s.tuner.settings s.tuner.mode = s := by
  rw [State.setTuner_quiet (.inl rfl), Tuner.setSettings_self, Tuner.setMode_goes_on Iff.rfl]
  rfl

theorem State.setTuner_run (same : s.tuner.mode = .off ↔ m = .off) :
    let o := s.tuner.settings
    let moved : Prop := v.source ≠ o.source ∨ v.threshold ≠ o.threshold
    let emptied : Prop := moved ∨ v.runLength ≠ o.runLength
    let t := s.setTuner v m
    t.tuner.measure = s.tuner.measure ∧ t.tuner.loss = s.tuner.loss ∧
      t.tuner.lastCrossing = (if moved then none else s.tuner.lastCrossing) ∧
      t.tuner.first = (if emptied then none else s.tuner.first) ∧
      t.tuner.count = (if emptied then 0 else s.tuner.count) ∧ t.tuner.sum = (if emptied then 0 else s.tuner.sum) := by
  obtain ⟨-, -, -, mode, measure, loss, -⟩ := s.tuner.setSettings_frame v
  obtain ⟨rep, link, e⟩ := s.setTuner_eq v m
  rw [e, Tuner.setMode_goes_on (t := { s.tuner.setSettings v with reported := rep })
    (show (s.tuner.setSettings v).mode = .off ↔ m = .off by rw [mode]; exact same)]
  exact ⟨measure, loss, s.tuner.setSettings_run v⟩

/-- Without a report the link stays, and the last reported reading with it unless the measurement starts. -/
theorem State.setTuner_unreported (h : v.window = s.tuner.settings.window ∨ (s.tuner.setSettings v).flagUnreported = false ∨
    s.link.enabled .tuner = false) : (s.setTuner v m).link = s.link ∧
      (¬(s.tuner.mode = .off ∧ m ≠ .off) → (s.setTuner v m).tuner.reported = s.tuner.reported) := by
  obtain ⟨-, -, -, mode, -, -, reported⟩ := s.tuner.setSettings_frame v
  rw [State.setTuner_quiet h]
  exact ⟨rfl, fun goesOn => (Tuner.setMode_reported (by rw [mode]; exact goesOn)).trans reported⟩

theorem Tuner.flagUnreported_of_none {t : Tuner} (h : t.latest = none) : t.flagUnreported = false := by
  unfold Tuner.flagUnreported
  rw [h]

theorem Tuner.flagUnreported_of_not_reading {t : Tuner} (h : ∀ old, t.reported ≠ .reading old) : t.flagUnreported = false := by
  unfold Tuner.flagUnreported
  split
  next r old _ eq => exact absurd eq (h old)
  next => rfl

theorem Tuner.flagUnreported_of_readings {t : Tuner} {r old : Reading} (latest : t.latest = some r) (reported : t.reported = .reading old) :
    t.flagUnreported = (r.inTune != old.inTune) := by
  unfold Tuner.flagUnreported
  rw [latest, reported]

theorem Tuner.readingBytes_of_some {t : Tuner} {r : Reading} (latest : t.latest = some r) : t.readingBytes =
    [t.measure.code, 1, BitVec.ofNat 8 r.note] ++ bytesSignedLE 2 r.cents ++ [flagByte r.inTune] ++ bytesLE 3 r.period := by
  unfold Tuner.readingBytes
  rw [latest]
  rfl

theorem State.setTuner_window (window : v.window ≠ s.tuner.settings.window) : let t := s.setTuner v m
    let goesOn : Prop := ¬(s.tuner.mode = .off ∧ m ≠ .off)
    (s.tuner.latest = none → t.tuner.latest = none ∧ t.link = s.link ∧ (goesOn → t.tuner.reported = s.tuner.reported)) ∧
    ((∀ old, s.tuner.reported ≠ .reading old) → t.link = s.link ∧ (goesOn → t.tuner.reported = s.tuner.reported)) ∧
    (∀ r, s.tuner.latest = some r →
      let r' : Reading := { r with inTune := decide (r.cents.natAbs ≤ v.window) }
      t.tuner.latest = some r' ∧
      (∀ old, s.tuner.reported = .reading old →
        (old.inTune = r'.inTune ∨ s.link.mask.getLsbD 2 = false → t.link = s.link ∧
          (goesOn → t.tuner.reported = s.tuner.reported)) ∧
        (old.inTune ≠ r'.inTune → s.link.mask.getLsbD 2 = true → (goesOn → t.tuner.reported = .reading r') ∧
          t.link = s.link.post .tuner 0 ([s.tuner.measure.code, 1, BitVec.ofNat 8 r.note] ++ bytesSignedLE 2 r.cents ++
            [flagByte r'.inTune] ++ bytesLE 3 r.period)))) := by
  intro t goesOn
  obtain ⟨-, -, -, mode, measure, -, reported⟩ := s.tuner.setSettings_frame v
  obtain ⟨-, -, -, -, -, tLatest⟩ := s.setTuner_frame v m
  have latest : (s.tuner.setSettings v).latest = s.tuner.latest.map fun r => { r with inTune := inTune r.cents v.window } :=
    (s.tuner.setSettings_latest v).trans (if_pos window)
  refine ⟨fun none_ => ?_, fun never => ?_, ?_⟩
  · rw [none_] at latest
    exact ⟨tLatest.trans latest, State.setTuner_unreported (.inr (.inl (Tuner.flagUnreported_of_none latest)))⟩
  · exact State.setTuner_unreported (.inr (.inl (Tuner.flagUnreported_of_not_reading (by rw [reported]; exact never))))
  · intro r some_ r'
    rw [some_] at latest
    refine ⟨tLatest.trans latest, fun old hold => ?_⟩
    have flag := Tuner.flagUnreported_of_readings latest (reported.trans hold)
    refine ⟨fun quiet => State.setTuner_unreported (.inr (quiet.imp (fun same => ?_) id)), fun differs enabled => ?_⟩
    · rw [flag, same]
      exact bne_self_eq_false _
    · have run := State.setTuner_reports (m := m) window (flag.trans (bne_iff_ne.2 differs.symm)) enabled
      rw [Tuner.readingBytes_of_some latest, measure] at run
      refine ⟨fun goes => ?_, ?_⟩
      · rw [show t = _ from run]
        refine (Tuner.setMode_reported (t := { s.tuner.setSettings v with reported := (s.tuner.setSettings v).asReported })
          (show ¬((s.tuner.setSettings v).mode = .off ∧ m ≠ .off) by rw [mode]; exact goes)).trans ?_
        show (s.tuner.setSettings v).asReported = _
        unfold Tuner.asReported
        rw [latest]
        rfl
      · rw [show t = _ from run]
        rfl
end

/-! ## TUNER_SET and TUNER_READ (R161, R175) -/

theorem tunerSourceOf_eq_none {n : Nat} (h : 1 < n) : tunerSourceOf n = none := by
  unfold tunerSourceOf
  split
  all_goals first | omega | rfl

theorem tunerModeOf_eq_none {n : Nat} (h : 2 < n) : tunerModeOf n = none := by
  unfold tunerModeOf
  split
  all_goals first | omega | rfl

theorem toggleOf_eq_none {n : Nat} (h : n = 0 ∨ 2 < n) : toggleOf n = none := by
  unfold toggleOf
  split
  all_goals first | omega | rfl

theorem toggleOf_code {m : TunerMode} (h : m ≠ .off) : toggleOf m.code.toNat = some m := by
  cases m with
  | off => exact absurd rfl h
  | silent => rfl
  | mute => rfl

theorem tunerSetBody_badField {s : State} {p : List Byte} (h : 1 < byteAt p 0 ∨ 2 < byteAt p 1 ∨ byteAt p 2 = 0 ∨ 2 < byteAt p 2) :
    tunerSetBody s p = s.refuse .badField := by
  unfold tunerSetBody
  split
  next source mode toggle hsource hmode htoggle =>
    rcases h with h | h | h
    · rw [tunerSourceOf_eq_none h] at hsource
      cases hsource
    · rw [tunerModeOf_eq_none h] at hmode
      cases hmode
    · rw [toggleOf_eq_none h] at htoggle
      cases htoggle
  next => rfl

theorem tunerSetBody_sets {s : State} {p : List Byte} {source : TunerSource} {m toggle : TunerMode}
    (hsource : byteAt p 0 = source.code.toNat) (hmode : byteAt p 1 = m.code.toNat) (htoggle : byteAt p 2 = toggle.code.toNat)
    (on : toggle ≠ .off) :
    let v : TunerSettings :=
      { source := source
        toggle := toggle
        reference := max 4300 (min 4500 (numAt p 3 2))
        window := max 1 (min 50 (byteAt p 5))
        runLength := if 16 ≤ byteAt p 6 then 16 else if 8 ≤ byteAt p 6 then 8 else if 4 ≤ byteAt p 6 then 4 else 2
        threshold := min 8388607 (numAt p 7 4 : Int) }
    tunerSetBody s.endRead p =
      { state := (s.setTuner v m).endRead, status := .ok, payload := [source.code, m.code] ++ v.tail } := by
  have threshold : clampTo 0 8388607 (numAt p 7 4 : Int) = min 8388607 (numAt p 7 4 : Int) := by
    unfold clampTo
    omega
  intro v
  rw [← State.setTuner_endRead]
  unfold tunerSetBody
  rw [hsource, hmode, htoggle, tunerSourceOf_code, tunerModeOf_code, toggleOf_code on]
  simp only [TunerSettings.clamped, threshold]
  rfl

/-- Settles O46. -/
theorem tunerRequests : Obligations.TunerRequests := by
  unfold Obligations.TunerRequests
  refine ⟨fun s tag src mode tog r0 r1 w n thr on small => ⟨fun bad => ?_, ?_⟩, fun s tag on => ?_⟩
  · exact request_refuses on (by simp) (by simp) (tunerSetBody_badField (p := [src, mode, tog, r0, r1, w, n] ++ bytesLE 4 thr) bad)
  · intro source m toggle hsrc hmode htog isOn v
    subst hsrc hmode htog
    have number : numAt ([source.code, m.code, toggle.code, r0, r1, w, n] ++ bytesLE 4 thr) 7 4 = thr :=
      (show _ = numAt (bytesLE 4 thr) 0 4 from rfl).trans (numAt_bytesLE (by omega))
    have reference : numAt ([source.code, m.code, toggle.code, r0, r1, w, n] ++ bytesLE 4 thr) 3 2 = r0.toNat + 256 * r1.toNat :=
      numAt_zero_two r0 r1 _
    have body := tunerSetBody_sets (s := s) (p := [source.code, m.code, toggle.code, r0, r1, w, n] ++ bytesLE 4 thr) (source := source)
      (m := m) (toggle := toggle) rfl rfl rfl isOn
    rw [number, reference] at body
    obtain ⟨settings, mode', y, positive, keeps, latest⟩ := s.setTuner_frame v m
    refine ⟨s.setTuner v m, request_leaves on (by simp) (by simp) body, settings, mode', y, positive, State.setTuner_starts,
      fun started stops => ?_, fun same stays => ?_, fun window => ⟨?_, ?_⟩, fun window => (State.setTuner_unreported (.inl window)).2,
      State.setTuner_run, State.setTuner_window, keeps⟩
    · rw [stops]
      exact State.setTuner_stops started
    · rw [same, ← stays]
      exact s.setTuner_self
    · rw [State.setTuner_quiet (.inl window)]
      rfl
    · exact latest.trans ((s.tuner.setSettings_latest v).trans (if_neg fun h => h window))
  · have body : tunerReadBody s.endRead [] = s.endRead.okay (s.tuner.readingBytes ++
        [s.tuner.mode.code, s.tuner.settings.source.code, s.tuner.settings.toggle.code] ++ bytesLE 2 s.tuner.settings.reference ++
        [BitVec.ofNat 8 s.tuner.settings.window, BitVec.ofNat 8 s.tuner.settings.runLength] ++
        bytesSignedLE 4 s.tuner.settings.threshold) := by
      simp only [tunerReadBody, TunerSettings.tail, List.append_assoc, List.cons_append, List.nil_append]
      rfl
    exact request_answers on (by simp) rfl body rfl rfl

end Sys2Proof.Machine
end

section
/-! CORRECTNESS. The tuner sample by sample, its completed runs, its loss of signal, and the ranges of a reading (spec/09 9.2–9.5). -/

namespace Sys2Proof.Machine

/-! ## Periods and runs (R166..R168) -/

section
variable {t : Tuner} {p p1 c c0 : Nat}

theorem Tuner.offer_first (h : t.first = none) : t.offer p = { t with first := some p, count := 1, sum := p } := by
  rw [Tuner.offer, h]

theorem Tuner.offer_joins (h : t.first = some p1) (near : max p p1 - min p p1 ≤ p1 / 16) :
    t.offer p = { t with count := t.count + 1, sum := t.sum + p } := by
  rw [Tuner.offer, h]
  exact if_pos near

theorem Tuner.offer_restarts (h : t.first = some p1) (far : p1 / 16 < max p p1 - min p p1) :
    t.offer p = { t with first := some p, count := 1, sum := p } := by
  rw [Tuner.offer, h]
  exact if_neg (Nat.not_le.2 far)

theorem Tuner.offer_frame (t : Tuner) (p : Nat) : let a := t.offer p
    a.y = t.y ∧ a.positive = t.positive ∧ a.loss = t.loss ∧ a.settings = t.settings ∧ a.mode = t.mode ∧ a.measure = t.measure ∧
      a.latest = t.latest ∧ a.reported = t.reported := by
  unfold Tuner.offer
  split
  · exact ⟨rfl, rfl, rfl, rfl, rfl, rfl, rfl, rfl⟩
  · split <;> exact ⟨rfl, rfl, rfl, rfl, rfl, rfl, rfl, rfl⟩

theorem periodValid_iff : periodValid p = true ↔ 8778 ≤ p ∧ p ≤ 614400 := by
  rw [periodValid, Bool.and_eq_true, decide_eq_true_iff, decide_eq_true_iff]
  rfl

theorem Tuner.rising_first (h : t.lastCrossing = none) : t.rising c = { t with lastCrossing := some c } := by
  rw [Tuner.rising, h]

theorem Tuner.rising_invalid (h : t.lastCrossing = some c0) (bad : periodValid ((c + 2 ^ 40 - c0) % 2 ^ 40) = false) :
    t.rising c = { t.emptyRun with lastCrossing := some c } := by
  rw [Tuner.rising, h]
  simp only [bad]
  rfl

theorem Tuner.rising_valid (h : t.lastCrossing = some c0) (period : (c + 2 ^ 40 - c0) % 2 ^ 40 = p) (good : periodValid p = true) :
    t.rising c = { t.offer p with lastCrossing := some c } := by
  rw [Tuner.rising, h]
  simp only [period, good]
  rfl

theorem Tuner.rising_frame (t : Tuner) (c : Nat) : let a := t.rising c
    a.lastCrossing = some c ∧ a.y = t.y ∧ a.positive = t.positive ∧ a.loss = t.loss ∧ a.settings = t.settings ∧ a.mode = t.mode ∧
      a.measure = t.measure ∧ a.latest = t.latest ∧ a.reported = t.reported := by
  refine ⟨rfl, ?_⟩
  cases h : t.lastCrossing with
  | none =>
    rw [Tuner.rising_first h]
    exact ⟨rfl, rfl, rfl, rfl, rfl, rfl, rfl, rfl⟩
  | some c0 =>
    cases valid : periodValid ((c + 2 ^ 40 - c0) % 2 ^ 40) with
    | false =>
      rw [Tuner.rising_invalid h valid]
      exact ⟨rfl, rfl, rfl, rfl, rfl, rfl, rfl, rfl⟩
    | true =>
      rw [Tuner.rising_valid h rfl valid]
      exact t.offer_frame _

/-- What a rising event does to the run, by the crossing before it. -/
theorem Tuner.rising_run (t : Tuner) (c : Nat) : let a := t.rising c
    (t.lastCrossing = none → a.first = t.first ∧ a.count = t.count ∧ a.sum = t.sum) ∧
    (∀ c0, t.lastCrossing = some c0 →
      let p := (c + 1099511627776 - c0) % 1099511627776
      (p < 8778 ∨ 614400 < p → a.first = none ∧ a.count = 0 ∧ a.sum = 0) ∧
      (8778 ≤ p → p ≤ 614400 →
        (t.first = none → a.first = some p ∧ a.count = 1 ∧ a.sum = p) ∧
        (∀ p1, t.first = some p1 →
          (max p p1 - min p p1 ≤ p1 / 16 → a.first = some p1 ∧ a.count = t.count + 1 ∧ a.sum = t.sum + p) ∧
          (p1 / 16 < max p p1 - min p p1 → a.first = some p ∧ a.count = 1 ∧ a.sum = p)))) := by
  intro a
  refine ⟨fun none_ => ?_, fun c0 some_ => ?_⟩
  · rw [show a = _ from Tuner.rising_first none_]
    exact ⟨rfl, rfl, rfl⟩
  · intro p
    refine ⟨fun bad => ?_, fun low high => ?_⟩
    · have invalid : periodValid p = false := Bool.eq_false_iff.2 fun h => by
        have := periodValid_iff.1 h
        omega
      rw [show a = _ from Tuner.rising_invalid some_ invalid]
      exact ⟨rfl, rfl, rfl⟩
    · rw [show a = _ from Tuner.rising_valid some_ (show _ = p from rfl) (periodValid_iff.2 ⟨low, high⟩)]
      refine ⟨fun first => ?_, fun p1 first => ⟨fun near => ?_, fun far => ?_⟩⟩
      · rw [Tuner.offer_first first]
        exact ⟨rfl, rfl, rfl⟩
      · rw [Tuner.offer_joins first near]
        exact ⟨first, rfl, rfl⟩
      · rw [Tuner.offer_restarts first far]
        exact ⟨rfl, rfl, rfl⟩
end

/-! ## One sample (R164, R165) -/

theorem comparator_rises (positive : Bool) (h y : Int) :
    (comparator positive h y).2 = true ↔ positive = false ∧ h ≤ y ∧ ¬y ≤ -h := by
  cases positive <;> simp [comparator]

theorem comparator_positive (positive : Bool) (h y : Int) : (comparator positive h y).1 = true ↔
    (positive = false ∧ h ≤ y ∧ ¬y ≤ -h) ∨ (positive = true ∧ ¬(positive = true ∧ y ≤ -h ∧ ¬h ≤ y)) := by
  cases positive
  · simp [comparator]
  · simp only [comparator, if_true, Bool.not_eq_true', Bool.and_eq_false_iff, decide_eq_false_iff_not, Bool.not_eq_false']
    simp
    omega

/-- The sample of the source (R164). -/
def Tuner.input (t : Tuner) (ab : Pair) : Int := if t.settings.source = .a then ab.1 else ab.2

/-- The filter's next value (R164). -/
def Tuner.filtered (t : Tuner) (ab : Pair) : Int := t.y + (t.input ab - t.y) / 8

/-- The tuner with the filter and the comparator moved. -/
def Tuner.compared (t : Tuner) (ab : Pair) : Tuner :=
  { t with y := t.filtered ab, positive := (comparator t.positive t.settings.threshold (t.filtered ab)).1 }

/-- The tuner once a rising event, if there is one, has been judged. -/
def Tuner.crossed (t : Tuner) (n : Stamp) (ab : Pair) : Tuner :=
  if (comparator t.positive t.settings.threshold (t.filtered ab)).2 then
    (t.compared ab).rising (crossingTime n t.settings.threshold t.y (t.filtered ab))
  else t.compared ab

theorem Tuner.sample_eq {t : Tuner} (on : t.mode ≠ .off) (n : Stamp) (ab : Pair) :
    t.sample n ab = { t.crossed n ab with loss := (t.crossed n ab).loss.map (· - 1) } := by
  rw [Tuner.sample, if_neg on]
  unfold Tuner.crossed Tuner.compared Tuner.filtered Tuner.input
  cases t.settings.source <;> rfl

theorem Tuner.sample_spec {t : Tuner} (on : t.mode ≠ .off) (n : Stamp) (ab : Pair) :
    let x := if t.settings.source = .a then ab.1 else ab.2
    let y := t.y + (x - t.y) / 8
    let h := t.settings.threshold
    let rises : Prop := t.positive = false ∧ h ≤ y ∧ ¬y ≤ -h
    let falls : Prop := t.positive = true ∧ y ≤ -h ∧ ¬h ≤ y
    let t' := t.sample n ab
    t'.y = y ∧ (t'.positive = true ↔ rises ∨ (t.positive = true ∧ ¬falls)) ∧ t'.loss = t.loss.map (· - 1) ∧
    t'.settings = t.settings ∧ t'.mode = t.mode ∧ t'.measure = t.measure ∧ t'.latest = t.latest ∧ t'.reported = t.reported ∧
    (¬rises → t'.lastCrossing = t.lastCrossing ∧ t'.first = t.first ∧ t'.count = t.count ∧ t'.sum = t.sum) ∧
    (rises →
      let c := (256 * (n - 1).toNat + if h ≤ t.y then 0 else (256 * (h - t.y) / (y - t.y)).toNat) % 1099511627776
      t'.lastCrossing = some c ∧
      (t.lastCrossing = none → t'.first = t.first ∧ t'.count = t.count ∧ t'.sum = t.sum) ∧
      (∀ c0, t.lastCrossing = some c0 →
        let p := (c + 1099511627776 - c0) % 1099511627776
        (p < 8778 ∨ 614400 < p → t'.first = none ∧ t'.count = 0 ∧ t'.sum = 0) ∧
        (8778 ≤ p → p ≤ 614400 →
          (t.first = none → t'.first = some p ∧ t'.count = 1 ∧ t'.sum = p) ∧
          (∀ p1, t.first = some p1 →
            (max p p1 - min p p1 ≤ p1 / 16 → t'.first = some p1 ∧ t'.count = t.count + 1 ∧ t'.sum = t.sum + p) ∧
            (p1 / 16 < max p p1 - min p p1 → t'.first = some p ∧ t'.count = 1 ∧ t'.sum = p))))) := by
  intro x y h rises falls t'
  have positive := comparator_positive t.positive h y
  have eq := Tuner.sample_eq on n ab
  by_cases rise : rises
  · obtain ⟨crossing, y', positive', loss, settings, mode, measure, latest, reported⟩ :=
      (t.compared ab).rising_frame (crossingTime n h t.y y)
    rw [show t.crossed n ab = (t.compared ab).rising (crossingTime n h t.y y) from
      if_pos ((comparator_rises t.positive h y).2 rise)] at eq
    rw [show t' = _ from eq]
    exact ⟨y', (iff_of_eq (congrArg (· = true) positive')).trans positive, congrArg (Option.map (· - 1)) loss, settings,
      mode, measure, latest, reported, fun not_ => absurd rise not_, fun _ => ⟨crossing, (t.compared ab).rising_run _⟩⟩
  · rw [show t.crossed n ab = t.compared ab from if_neg fun cmp => rise ((comparator_rises t.positive h y).1 cmp)] at eq
    rw [show t' = _ from eq]
    exact ⟨rfl, positive, rfl, rfl, rfl, rfl, rfl, rfl, fun _ => ⟨rfl, rfl, rfl, rfl⟩, fun is => absurd is rise⟩

/-! ## AUDIO_FRAME takes one sample (R119, R164) -/

section
variable {s : State}

theorem Tuner.runDue_of_early {t : Tuner} (h : t.mode = .off ∨ t.count < t.settings.runLength) : t.runDue = false := by
  unfold Tuner.runDue
  rcases h with h | h
  · rw [h]
    rfl
  · rw [decide_eq_false (Nat.not_le.2 h), Bool.and_false]

theorem State.takeTunerRun_early (h : s.tuner.mode = .off ∨ s.tuner.count < s.tuner.settings.runLength) : s.takeTunerRun = s :=
  if_neg (by rw [Tuner.runDue_of_early h]; exact Bool.false_ne_true)

theorem State.takeTunerLoss_early (h : s.tuner.loss ≠ some 0) : s.takeTunerLoss = s := if_neg (by simp [Tuner.lossDue, h])

theorem State.settle_tuner (quiet : s.tuner.mode = .off ∨ s.tuner.count < s.tuner.settings.runLength) (loss : s.tuner.loss ≠ some 0) :
    s.settle.tuner = s.tuner := by
  have read : (((s.settleSwitches 8).settlePlugs 4).takePedalScan.settlePlugs 4).tuner = s.tuner := by
    simp only [State.settlePlugs_keeps, State.takePedalScan_keeps, State.settleSwitches_keeps]
  rw [State.settle_eq, State.scanned, State.takeTunerRun_early (by rw [read]; exact quiet), State.takeTunerLoss_early (by rw [read]; exact loss),
    State.timed]
  simp only [State.arbitrate_tuner, State.takeTrailOwnEnds_keeps, State.takeGateHoldEnds_keeps, State.takeBoundary_keeps,
    State.takeSwitchEnd_keeps, State.completeLoadIfDue_keeps, State.takeTrailFadeEnds_keeps, State.takeDipIn_keeps,
    State.takeClockLoss_keeps, State.takeClockUpdate_keeps, State.takeClockLock_keeps, State.takeBeat_keeps, read]

theorem State.frameCount_tuner (s : State) (f : FrameInputs) :
    (s.frameCount f).tuner = s.tuner.sample (s.sampleCounter + 1) (inputPair f) := rfl

theorem State.takeFrame_tuner (quiet : s.tuner.mode = .off ∨ s.tuner.count < s.tuner.settings.runLength) (loss : s.tuner.loss ≠ some 0)
    (f : FrameInputs) : (s.takeFrame f).tuner = s.tuner.sample (s.sampleCounter + 1) (inputPair f) := by
  rw [State.takeFrame, State.arbitrate_tuner, (State.frameScan_keeps _ f).2.2.2.2.2.2.2.2.2.2.1, State.frameCount_tuner]
  simp only [State.frameRender_keeps, State.settle_keeps, State.settle_tuner quiet loss]

/-! ## TUNER_RUN_COMPLETE and TUNER_LOSS_EXPIRY (R171, R172, R174) -/

theorem Tuner.unreported_iff {t : Tuner} {r : Reading} (latest : t.latest = some r) : t.unreported = true ↔
    ¬∃ old, t.reported = .reading old ∧ old.note = r.note ∧ old.cents = r.cents ∧ old.inTune = r.inTune := by
  unfold Tuner.unreported
  rw [latest]
  cases t.reported with
  | none => simp
  | noSignal => simp
  | reading old =>
    have differ (a b : Nat) : (a != b) = true ↔ ¬b = a := by rw [bne_iff_ne, ne_eq, eq_comm]
    simp only [Bool.or_eq_true, differ, bne_iff_ne, LastReport.reading.injEq, exists_eq_left', not_and_or, or_assoc, ne_eq,
      @eq_comm _ r.cents, @eq_comm _ r.inTune]

theorem Tuner.completeRun_latest (t : Tuner) : t.completeRun.latest = some (readingOf (t.sum / t.settings.runLength) t.settings) := rfl

theorem State.takeTunerRun_due (on : s.tuner.mode ≠ .off) (full : s.tuner.settings.runLength ≤ s.tuner.count) :
    s.takeTunerRun = (s.withTuner s.tuner.completeRun).reportTunerIf s.tuner.completeRun.unreported :=
  if_pos (by simp [Tuner.runDue, on, full])

/-- A completed run leaves the tuner as the run does, but for the last reported reading and the link. -/
theorem State.takeTunerRun_frame (on : s.tuner.mode ≠ .off) (full : s.tuner.settings.runLength ≤ s.tuner.count) :
    ∃ rep link, s.takeTunerRun = { s with tuner := { s.tuner.completeRun with reported := rep }, link := link } := by
  rw [State.takeTunerRun_due on full]
  by_cases h : s.tuner.completeRun.unreported = false ∨ s.link.enabled .tuner = false
  · exact ⟨_, _, State.reportTunerIf_quiet (s := s.withTuner s.tuner.completeRun) h⟩
  · simp only [not_or, Bool.not_eq_false] at h
    obtain ⟨new, enabled⟩ := h
    exact ⟨_, _, State.reportTunerIf_reports (s := s.withTuner s.tuner.completeRun) new enabled⟩

theorem State.takeTunerRun_report (on : s.tuner.mode ≠ .off) (full : s.tuner.settings.runLength ≤ s.tuner.count) : let t := s.takeTunerRun
    let r := readingOf (s.tuner.sum / s.tuner.settings.runLength) s.tuner.settings
    let same : Prop := ∃ old, s.tuner.reported = .reading old ∧ old.note = r.note ∧ old.cents = r.cents ∧ old.inTune = r.inTune
    (s.link.mask.getLsbD 2 = true ∧ ¬same → t.tuner.reported = .reading r ∧ t.link = s.link.post .tuner 0
      ([2, 1, BitVec.ofNat 8 r.note] ++ bytesSignedLE 2 r.cents ++ [flagByte r.inTune] ++ bytesLE 3 r.period)) ∧
    (s.link.mask.getLsbD 2 = false ∨ same → t.link = s.link ∧ t.tuner.reported = s.tuner.reported) := by
  intro t r same
  have unreported : s.tuner.completeRun.unreported = true ↔ ¬same := Tuner.unreported_iff s.tuner.completeRun_latest
  refine ⟨fun ⟨enabled, new⟩ => ?_, fun quiet => ?_⟩
  · rw [show t = _ from State.takeTunerRun_due on full,
      State.reportTunerIf_reports (s := s.withTuner s.tuner.completeRun) (unreported.2 new) enabled,
      show (s.withTuner s.tuner.completeRun).tuner.readingBytes = _ from Tuner.readingBytes_of_some s.tuner.completeRun_latest]
    exact ⟨rfl, rfl⟩
  · have idle : s.tuner.completeRun.unreported = false ∨ s.link.enabled .tuner = false :=
      quiet.symm.imp (fun h => Bool.eq_false_iff.2 fun new => unreported.1 new h) id
    rw [show t = _ from State.takeTunerRun_due on full, State.reportTunerIf_quiet (s := s.withTuner s.tuner.completeRun) idle]
    exact ⟨rfl, rfl⟩

theorem State.takeTunerLoss_due (zero : s.tuner.loss = some 0)
    (quiet : s.tuner.mode = .off ∨ s.tuner.count < s.tuner.settings.runLength) :
    s.takeTunerLoss = (s.withTuner s.tuner.expire).reportTunerIf (s.tuner.reported != .noSignal) :=
  if_pos (by rw [Tuner.lossDue, zero, Tuner.runDue_of_early quiet]; rfl)
end

/-! ## The ranges of a reading (R169, R170) -/

theorem logTable_le (k : Nat) : logTable.getD k 0 ≤ 65536 := by
  have all : ∀ v ∈ logTable, v ≤ 65536 := by decide
  rw [List.getD_eq_getElem?_getD]
  cases h : logTable[k]? with
  | none => exact Nat.zero_le _
  | some v => exact all v (List.mem_of_getElem? h)

theorem log2_le_lg (x : Nat) : x.log2 * 65536 ≤ lg x := by
  unfold lg
  dsimp only
  omega

/-- The interpolation of LG adds two octaves at most to the power of two below x; it adds one, but two will do. -/
theorem lg_le (x : Nat) : lg x ≤ (x.log2 + 2) * 65536 := by
  have between (a b r : Nat) (ha : a ≤ 65536) (hb : b ≤ 65536) (hr : r < 1024) : a + (b - a) * r / 1024 ≤ 2 * 65536 := by
    have : (b - a) * r / 1024 ≤ b - a := Nat.div_le_of_le_mul (by nlinarith)
    omega
  unfold lg
  dsimp only
  have := between _ _ _ (logTable_le ((x * 65536 / 2 ^ x.log2 - 65536) / 1024))
    (logTable_le ((x * 65536 / 2 ^ x.log2 - 65536) / 1024 + 1)) (Nat.mod_lt (x * 65536 / 2 ^ x.log2 - 65536) (by decide : 0 < 1024))
  omega

/-- The greatest pitch is that of the shortest valid period, whose logarithm is 13 or more. -/
theorem pitchOf_le {p reference : Nat} (low : 8778 ≤ p) (refLow : 4300 ≤ reference) : pitchOf p reference ≤ 105 * 65536 := by
  have thirteen : 13 ≤ p.log2 := (Nat.le_log2 (by omega)).2 (by omega)
  have small : 122880000 / reference ≤ 28576 := Nat.le_of_lt_succ (Nat.div_lt_of_lt_mul (by omega))
  have fourteen : (122880000 / reference).log2 ≤ 14 := by
    by_cases zero : 122880000 / reference = 0
    · rw [zero]
      decide
    · exact Nat.le_of_lt_succ ((Nat.log2_lt zero).2 (by omega))
  have above := lg_le (122880000 / reference)
  have below := log2_le_lg p
  unfold pitchOf
  omega

theorem readingOf_ranges {p : Nat} (v : TunerSettings) (low : 8778 ≤ p) (refLow : 4300 ≤ v.reference) : let r := readingOf p v
    r.note ≤ 127 ∧ -500 ≤ r.cents ∧ r.cents ≤ 500 := by
  have pitch := pitchOf_le low refLow
  unfold readingOf
  dsimp only
  omega

/-- Settles O47. -/
theorem tunerEventsMakeReadings : Obligations.TunerEventsMakeReadings := by
  unfold Obligations.TunerEventsMakeReadings
  refine ⟨fun s powered on full => ?_, fun s powered on full => ?_, fun t n ab off => if_pos off, fun t n ab on => Tuner.sample_spec on n ab,
    fun s f powered quiet loss => ?_, fun s powered zero quiet => ⟨fun idle => ?_, fun new enabled => ?_⟩,
    fun s powered => ⟨fun early => ?_, fun early => ?_⟩, fun p v low high refLow refHigh => ?_⟩
  · have report := State.takeTunerRun_report on full
    obtain ⟨rep, link, e⟩ := State.takeTunerRun_frame on full
    refine ⟨s.takeTunerRun, exec_tunerRunComplete powered, ?_⟩
    rw [e] at report ⊢
    exact ⟨rfl, rfl, rfl, rfl, rfl, rfl, rfl, rfl, rfl, report⟩
  · have due : s.tuner.runDue = true := by simp [Tuner.runDue, on, full]
    rw [exec_tunerLossExpiry powered]
    exact congrArg _ (if_neg (by rw [Tuner.lossDue, due, Bool.not_true, Bool.and_false]; exact Bool.false_ne_true))
  · exact ⟨_, exec_audioFrame powered f, State.takeFrame_tuner quiet loss f⟩
  · have nothing : (s.tuner.reported != .noSignal) = false ∨ s.link.enabled .tuner = false :=
      idle.imp (fun h => by rw [h]; rfl) id
    rw [exec_tunerLossExpiry powered, State.takeTunerLoss_due zero quiet, State.reportTunerIf_quiet (s := s.withTuner s.tuner.expire) nothing]
    rfl
  · rw [exec_tunerLossExpiry powered, State.takeTunerLoss_due zero quiet,
      State.reportTunerIf_reports (s := s.withTuner s.tuner.expire) (bne_iff_ne.2 new) enabled]
    rfl
  · rw [exec_tunerRunComplete powered, State.takeTunerRun_early early]
  · rw [exec_tunerLossExpiry powered, State.takeTunerLoss_early early]
  · obtain ⟨note, least, greatest⟩ := readingOf_ranges v low refLow
    exact ⟨note, least, greatest, decide_eq_true_iff, rfl⟩

end Sys2Proof.Machine
end

section
/-! CORRECTNESS. The transactions of the host link: reads, ignored and incomplete ones, the status byte, posting and removing records,
and ATTN (spec/10 10.1–10.3). -/

namespace Sys2Proof.Machine

/-! ## A read transaction (R180, R181) -/

/-- Removing a record touches the queue and the slots alone. -/
theorem Link.remove_reading (l : Link) (h : ReadHead) (r : Option ReadHead) :
    ({ l with reading := r } : Link).remove h = { l.remove h with reading := r } := by
  cases h with
  | queue _ => rfl
  | nothing => rfl
  | slot slot _ replaced =>
    cases replaced with
    | true => rfl
    | false => cases slot <;> rfl

theorem State.readRecord_whole (s : State) (n : Nat) : s.readRecord (.whole (n + 1)) = { s with
    pins := { s.pins with sent := 0 :: s.link.statusByte :: (s.link.head.bytes ++ List.replicate n 0).take n }
    link := if s.link.head.bytes.length ≤ n then
      ({ s.link with dropped := false, lost := false, reading := none } : Link).remove s.link.head
    else { s.link with dropped := false, lost := false, reading := none } } := by
  let l : Link := { s.link with dropped := false, lost := false, reading := some s.link.head }
  have read : s.readRecord (.whole (n + 1)) = { s with
      pins := { s.pins with sent := 0 :: s.link.statusByte :: (s.link.head.bytes ++ List.replicate n 0).take n }
      link := { if s.link.head.bytes.length ≤ n then l.remove s.link.head else l with reading := none } } := rfl
  rw [read]
  by_cases whole : s.link.head.bytes.length ≤ n
  · simp only [if_pos whole]
    rw [← Link.remove_reading]
  · simp only [if_neg whole]
    rfl

/-! ## The status byte (R181) -/

theorem Link.statusByte_bits (l : Link) (room : l.queue.length ≤ 24) : l.statusByte.toNat % 32 = l.queue.length ∧
    l.statusByte.getLsbD 5 = (l.tuner.isSome || l.levels.isSome || l.cues.isSome) ∧
    l.statusByte.getLsbD 6 = l.dropped ∧ l.statusByte.getLsbD 7 = l.lost := by
  have bits (n : Nat) (a b c : Bool) (small : n ≤ 24) :
      let x := n + (if a then 32 else 0) + (if b then 64 else 0) + (if c then 128 else 0)
      (BitVec.ofNat 8 x).toNat % 32 = n ∧ (BitVec.ofNat 8 x).getLsbD 5 = a ∧ (BitVec.ofNat 8 x).getLsbD 6 = b ∧
        (BitVec.ofNat 8 x).getLsbD 7 = c := by
    simp only [BitVec.toNat_ofNat, BitVec.getLsbD_ofNat, Nat.testBit_eq_decide_div_mod_eq]
    cases a <;> cases b <;> cases c <;> simp <;> omega
  exact bits l.queue.length l.pendingSlot l.dropped l.lost room

/-! ## Transactions that are no request (R176, R177) -/

section
variable {s : State}

theorem transactionOf_ignored {bytes : List Byte} (write : bytes.head? ≠ some 0x57) (read : bytes.head? ≠ some 0x52) :
    transactionOf bytes = .ignored := by
  cases bytes with
  | nil => rfl
  | cons first rest =>
    exact (if_neg fun h => write (congrArg some h)).trans (if_neg fun h => read (congrArg some h))

theorem transactionOf_incomplete {bytes : List Byte} (short : bytes.length < 4) : transactionOf (0x57 :: bytes) = .incomplete := by
  rw [transactionOf, if_pos rfl]
  match bytes with
  | [] => rfl
  | [_] => rfl
  | [_, _] => rfl
  | [_, _, _] => rfl
  | _ :: _ :: _ :: _ :: _ => simp at short; omega

theorem transactionOf_request (kind tag l0 l1 : Byte) (payload : List Byte) :
    transactionOf (0x57 :: kind :: tag :: l0 :: l1 :: payload) = .request kind ⟨tag :: l0 :: l1 :: payload⟩ := by
  rw [transactionOf, if_pos rfl]
  rfl

theorem transactionOf_read (bytes : List Byte) : transactionOf (0x52 :: bytes) = .read bytes.length := by
  have other : ¬(0x52 : Byte) = 0x57 := by decide
  rw [transactionOf, if_neg other, if_pos rfl]

theorem State.miso_silent (powered : s.powered) (silent : s.pins.sent = []) (i : Nat) : s.miso i = some 0 := by
  have out : s.inReset = false := beq_eq_false_iff_ne.2 powered
  rw [State.miso, out, silent]
  rfl
end

/-! ## Posting a report (R183, R184) -/

section
variable {l : Link} {k : ReportKind} {sub : Byte} {payload : List Byte}

/-- The kinds and their bits of the enable mask. -/
theorem ReportKind.bit_of_mem {bit : Nat} (h : (k, bit) ∈ [(ReportKind.scene, 0), (.storeDone, 1), (.tuner, 2), (.levels, 3), (.cues, 4),
    (.pedal, 5), (.tempo, 6), (.delay, 7), (.started, 8)]) : bit = k.bit := by
  simp only [List.mem_cons, Prod.mk.injEq, List.not_mem_nil, or_false] at h
  rcases h with ⟨rfl, rfl⟩ | ⟨rfl, rfl⟩ | ⟨rfl, rfl⟩ | ⟨rfl, rfl⟩ | ⟨rfl, rfl⟩ | ⟨rfl, rfl⟩ | ⟨rfl, rfl⟩ | ⟨rfl, rfl⟩ | ⟨rfl, rfl⟩ <;> rfl

theorem Link.post_slot {slot : Slot} (enabled : l.enabled k = true) (coalesced : k.slot = some slot) :
    l.post k sub payload = l.place slot { kind := k.code, tag := 0, status := sub, payload := payload } := by
  unfold Link.post
  rw [enabled, coalesced]
  rfl

theorem ReportKind.slot_eq_none (tuner : k ≠ .tuner) (levels : k ≠ .levels) (cues : k ≠ .cues) : k.slot = none := by
  cases k with
  | tuner => exact absurd rfl tuner
  | levels => exact absurd rfl levels
  | cues => exact absurd rfl cues
  | _ => rfl

theorem ReadHead.replace_eq (slot : Slot) (h : ReadHead) : h.replace slot = match h with
    | .slot at' old replaced => .slot at' old (replaced || at' == slot)
    | other => other := by
  cases h <;> rfl
end

/-- ATTN is asserted exactly while a record waits and RESETn is high (R185). -/
theorem State.attn_iff (s : State) : s.attn = true ↔
    s.powered ∧ (s.link.queue ≠ [] ∨ s.link.tuner ≠ none ∨ s.link.levels ≠ none ∨ s.link.cues ≠ none) := by
  simp only [State.attn, State.inReset, Link.pendingSlot, State.powered, Bool.and_eq_true, Bool.not_eq_true', beq_eq_false_iff_ne,
    Bool.or_eq_true, List.isEmpty_eq_false_iff, Option.isSome_iff_ne_none, or_assoc]

/-- Settles O48. -/
theorem linkTransactions : Obligations.LinkTransactions := by
  unfold Obligations.LinkTransactions
  refine ⟨fun s n on => ?_, fun s on => exec_readRecord on _, fun s n on => ⟨s.endRead.startRead, exec_readRecord on _, rfl, rfl, rfl, rfl, ?_⟩,
    fun l => rfl, Link.statusByte_bits, fun s bytes on write read => ?_, fun s n on => exec_incompleteFrame on n,
    fun s i on silent => State.miso_silent on silent i, fun s kind tag l0 l1 payload => ?_, fun s bytes on short => ?_, fun s bytes on => ?_,
    fun l k bit sub payload kinds => ?_, fun l r => ⟨rfl, rfl, rfl, rfl, fun _ => rfl, rfl⟩, State.attn_iff⟩
  · rw [exec_readRecord on, State.readRecord_whole]
  · rw [exec_readRecord (s := s.endRead.startRead) on, exec_readRecord on]
    rfl
  · rw [exec_ignoredTransaction on, transactionOf_ignored write read]
    rfl
  · change execIgnoredTransaction (0x57 :: kind :: tag :: l0 :: l1 :: payload) s = execUnknownRequest kind ⟨tag :: l0 :: l1 :: payload⟩ s
    unfold execIgnoredTransaction
    rw [transactionOf_request]
  · rw [exec_ignoredTransaction on, transactionOf_incomplete short]
    rfl
  · rw [exec_ignoredTransaction on, transactionOf_read, exec_readRecord on]
  · obtain rfl := ReportKind.bit_of_mem kinds
    intro r learns
    have learned (slot : Slot) : l.reading.map (ReadHead.replace slot) = learns slot :=
      congrArg (fun f => l.reading.map f) (funext fun h => ReadHead.replace_eq slot h)
    refine ⟨fun off => post_disabled off sub payload, fun on => ⟨?_, ?_, ?_, fun tuner levels cues => ⟨fun room => ?_, fun full => ?_⟩⟩⟩
    · rintro rfl
      rw [Link.post_slot on rfl, ← learned]
      rfl
    · rintro rfl
      rw [Link.post_slot on rfl, ← learned]
      rfl
    · rintro rfl
      rw [Link.post_slot on rfl, ← learned]
      rfl
    · exact (post_queued on (ReportKind.slot_eq_none tuner levels cues) sub payload).trans (if_pos (by omega))
    · exact (post_queued on (ReportKind.slot_eq_none tuner levels cues) sub payload).trans (if_neg (by omega))

end Sys2Proof.Machine
end

section
/-! CORRECTNESS. Every request is dropped or answered exactly once: what the bodies of the 32 requests do to the link, the rows of the
catalogue, and the common checks in their order (spec/10 10.1, 10.4). -/

namespace Sys2Proof.Machine

/-! ## What a body does to the link: it posts reports at most -/

/-- No read is in progress, nothing has been sent, and n replies wait at most. -/
def State.silent (s : State) (n : Nat) : Prop :=
  s.link.reading = none ∧ s.pins.sent = [] ∧ (s.link.queue.filter fun r => !r.isReport).length ≤ n

/-- From s to t no reply is added and no read begins. -/
def State.Silent (s t : State) : Prop := ∀ n, s.silent n → t.silent n

theorem State.Silent.refl (s : State) : s.Silent s := fun _ => id

theorem State.Silent.trans {s t u : State} (h : s.Silent t) (h' : t.Silent u) : s.Silent u := fun n => h' n ∘ h n

/-- The same as `trans`, the later part first: it says what the state in between is. -/
theorem State.Silent.after {s t u : State} (h' : t.Silent u) (h : s.Silent t) : s.Silent u := h.trans h'

theorem State.Silent.of_eq {s t : State} (link : t.link = s.link) (pins : t.pins = s.pins) : s.Silent t := fun n h => by
  unfold State.silent
  rwa [link, pins]

theorem State.Silent.ite {s t u : State} {p : Prop} [Decidable p] (h : s.Silent t) (h' : s.Silent u) : s.Silent (if p then t else u) := by
  split
  · exact h
  · exact h'

theorem State.Silent.answer {s : State} {p : Prop} [Decidable p] {a b : Answer} (h : s.Silent a.state) (h' : s.Silent b.state) :
    s.Silent (if p then a else b).state := by
  split
  · exact h
  · exact h'

theorem ReportKind.code_report (k : ReportKind) (sub : Byte) (payload : List Byte) :
    (OutRecord.mk k.code 0 sub payload).isReport = true := by
  have low : k.code.msb = false := by cases k <;> decide
  rw [OutRecord.isReport, low, Bool.not_false]

/-- A report that joins the queue is no reply. -/
theorem Link.post_replies (l : Link) (k : ReportKind) (sub : Byte) (payload : List Byte) :
    (l.post k sub payload).queue.filter (fun r => !r.isReport) = l.queue.filter fun r => !r.isReport := by
  rcases post_cases l k sub payload with e | ⟨-, -, e⟩ | ⟨-, e⟩ | ⟨slot, -, e⟩ <;> rw [e]
  · have report := k.code_report sub payload
    rw [List.filter_append, List.filter_cons_of_neg (by simp only [report, Bool.not_true]; exact Bool.false_ne_true), List.filter_nil,
      List.append_nil]
  · rw [place_queue]

theorem State.Silent.post (s : State) (k : ReportKind) (sub : Byte) (payload : List Byte) : s.Silent (s.post k sub payload) :=
  fun _ ⟨reading, sent, few⟩ => ⟨post_reading_none _ k sub payload reading, sent,
    (congrArg List.length (s.link.post_replies k sub payload)).trans_le few⟩

theorem State.reportTunerIf_noReply (s : State) (c : Bool) : s.Silent (s.reportTunerIf c) :=
  .ite (.ite ((State.Silent.post s _ _ _).trans (.of_eq rfl rfl)) (.refl s)) (.refl s)

theorem State.reportCuesIf_noReply (s : State) (c : Bool) : s.Silent (s.reportCuesIf c) := .ite (.post _ _ _ _) (.refl s)

theorem State.changeTempo_noReply (s : State) (t : Tempo) : s.Silent (s.changeTempo t) :=
  .ite (.of_eq rfl rfl) ((State.Silent.of_eq (t := s.withTempo t) rfl rfl).trans (.post _ _ _ _))

theorem State.setTuner_noReply (s : State) (v : TunerSettings) (m : TunerMode) : s.Silent (s.setTuner v m) :=
  ((State.Silent.of_eq (t := s.withTuner (s.tuner.setSettings v)) rfl rfl).trans (State.reportTunerIf_noReply _ _)).trans (.of_eq rfl rfl)

theorem State.acceptRecall_noReply (s : State) (source : Source) (origin : Origin) (timing : Option Timing) (fade : Option (BitVec 8))
    (phase : LoadPhase) : s.Silent (s.acceptRecall source origin timing fade phase) := by
  rw [State.acceptRecall_eq]
  cases s.scenes.scene.cancels with
  | none => exact .of_eq rfl rfl
  | some q => exact (State.Silent.post s .scene 5 _).trans (.of_eq rfl rfl)

theorem State.cancelRecall_noReply (s : State) : s.Silent s.cancelRecall.2 := by
  cases h : s.scenes.scene.cancels with
  | none => rw [State.cancelRecall_none h]; exact .refl s
  | some q =>
    rw [State.cancelRecall_some h]
    exact ((State.Silent.of_eq (t := s.withDelay _) rfl rfl).trans (.post _ .scene 6 _)).trans (.of_eq rfl rfl)

theorem State.scanPedals_noReply (s : State) (l : List (Fin 4)) : s.Silent (s.scanPedals l) := by
  obtain ⟨-, -, pins, -, -, -, -, -, -, -, -, link, -⟩ := s.scanPedals_keeps l
  exact .of_eq link pins

/-- A plug change reports the pedal, and its scan goes on. -/
theorem State.plugReport_noReply (s : State) (i : Fin 4) (p q : Pedal) : s.Silent ((s.setPedal i p).reportPedal i q) :=
  (State.Silent.post _ _ _ _).after (.of_eq rfl rfl)

theorem State.plugged_noReply (s : State) (i : Fin 4) (p q : Pedal) (l : List (Fin 4)) :
    s.Silent (((s.setPedal i p).reportPedal i q).scanPedals l) :=
  (State.scanPedals_noReply _ l).after (s.plugReport_noReply i p q)

theorem State.takeUnplug_noReply (s : State) (i : Fin 4) : s.Silent (s.takeUnplug i) := .ite (s.plugged_noReply i _ _ _) (.refl s)

theorem State.takePlug_noReply (s : State) (i : Fin 4) : s.Silent (s.takePlug i) := by
  refine .ite (.ite (s.plugged_noReply i _ _ _) ?_) (.refl s)
  exact (State.scanPedals_noReply _ _).after (.after (.of_eq rfl rfl) (s.plugReport_noReply i _ _))

theorem State.settlePlugs_noReply (s : State) (n : Nat) : s.Silent (s.settlePlugs n) := by
  induction n generalizing s with
  | zero => exact .refl s
  | succ n ih =>
    unfold State.settlePlugs
    split
    · exact ((s.takeUnplug_noReply _).trans (State.takePlug_noReply _ _)).trans (ih _)
    · exact .refl s

theorem State.setReports_noReply (s : State) (mask : BitVec 16) : s.Silent (s.setReports mask) := by
  have set : s.Silent (s.withLink { s.link with mask := mask }) := fun _ => id
  exact (State.reportCuesIf_noReply _ _).after (.after (.of_eq rfl rfl) ((State.reportTunerIf_noReply _ _).after set))

theorem State.requestReset_noReply (s : State) : s.Silent s.requestReset := fun _ _ => ⟨rfl, rfl, Nat.zero_le _⟩

/-! ## The bodies of the requests -/

section
variable (s : State) (p : List Byte)

theorem statusBody_noReply : s.Silent (statusBody s p).state := .ite (.refl s) (.of_eq rfl rfl)

theorem recallBody_noReply : s.Silent (recallBody s p).state := by
  unfold recallBody
  split
  · exact .answer (.refl s) (s.acceptRecall_noReply _ _ _ _ _)
  · exact .refl s

theorem cancelBody_noReply : s.Silent (cancelBody s p).state := by
  have h := s.cancelRecall_noReply
  unfold cancelBody
  split
  next e => rw [e] at h; exact h
  next => exact .refl s

theorem editBody_noReply : s.Silent (editBody s p).state := by
  unfold editBody
  dsimp only
  split <;> exact .of_eq rfl rfl

theorem getParamBody_noReply : s.Silent (getParamBody s p).state := by
  unfold getParamBody
  dsimp only
  split <;> exact .refl s

theorem setLatchBody_noReply : s.Silent (setLatchBody s p).state := by
  unfold setLatchBody
  split <;> exact .of_eq rfl rfl

theorem sendCueBody_noReply : s.Silent (sendCueBody s p).state := by
  unfold sendCueBody
  split
  · exact .answer (.refl s) (.answer (.refl s) (.of_eq rfl rfl))
  · exact .refl s

theorem setFilterBody_noReply : s.Silent (setFilterBody s p).state := by
  unfold setFilterBody
  split
  · split <;> exact .of_eq rfl rfl
  · exact .refl s

theorem setMaskBody_noReply : s.Silent (setMaskBody s p).state := by
  unfold setMaskBody
  split <;> exact .of_eq rfl rfl

theorem readCuesBody_noReply : s.Silent (readCuesBody s p).state :=
  .answer (.refl s) ((State.reportCuesIf_noReply _ _).after (.of_eq rfl rfl))

theorem uploadDataBody_noReply : s.Silent (uploadDataBody s p).state := .answer (.of_eq rfl rfl) (.refl s)

theorem uploadCheckBody_noReply : s.Silent (uploadCheckBody s p).state := by
  unfold uploadCheckBody
  split <;> exact .refl s

theorem storeBody_noReply : s.Silent (storeBody s p).state := by
  unfold storeBody
  split
  · refine .answer (.refl s) ?_
    dsimp only
    split
    · exact .refl s
    · exact .ite (.of_eq rfl rfl) (.of_eq rfl rfl)
  · exact .refl s

theorem eraseBody_noReply : s.Silent (eraseBody s p).state := by
  unfold eraseBody
  split
  · exact .answer (.refl s) (.of_eq rfl rfl)
  · exact .refl s

theorem readSlotBody_noReply : s.Silent (readSlotBody s p).state := by
  unfold readSlotBody
  dsimp only
  split
  · refine .answer (.refl s) ?_
    split
    · exact .refl s
    · exact .answer (.refl s) (.refl s)
  · exact .refl s

theorem listBody_noReply : s.Silent (listBody s p).state := .answer (.refl s) (.refl s)

theorem tableWriteBody_noReply : s.Silent (tableWriteBody s p).state := by
  unfold tableWriteBody
  dsimp only
  split
  · exact .answer (.refl s) (.of_eq rfl rfl)
  · exact .refl s

theorem tableReadBody_noReply : s.Silent (tableReadBody s p).state := by
  unfold tableReadBody
  dsimp only
  split <;> exact .refl s

theorem tableSaveBody_noReply : s.Silent (tableSaveBody s p).state := by
  unfold tableSaveBody
  split
  · exact .answer (.refl s) (.of_eq rfl rfl)
  · exact .refl s

theorem tunerSetBody_noReply : s.Silent (tunerSetBody s p).state := by
  unfold tunerSetBody
  split
  · exact s.setTuner_noReply _ _
  · exact .refl s

theorem tempoSetBody_noReply : s.Silent (tempoSetBody s p).state := .answer (.refl s) (s.changeTempo_noReply _)

theorem pedalSetBody_noReply : s.Silent (pedalSetBody s p).state := by
  unfold pedalSetBody
  dsimp only
  split
  · exact .answer ((s.settlePlugs_noReply 4).trans (.of_eq rfl rfl)) (.refl s)
  · exact .refl s

theorem switchSetBody_noReply : s.Silent (switchSetBody s p).state := .answer (.of_eq rfl rfl) (.refl s)

theorem setupSaveBody_noReply : s.Silent (setupSaveBody s p).state := by
  unfold setupSaveBody
  split
  · exact .refl s
  · exact .answer (.refl s) (.of_eq rfl rfl)

theorem reportsBody_noReply : s.Silent (reportsBody s p).state := .answer (.refl s) (s.setReports_noReply _)

theorem resetBody_noReply : s.Silent (resetBody s p).state := .answer (.refl s) s.requestReset_noReply
end

/-! ## The rows of the catalogue (R190) -/

/-- A kind's row: whether the catalogue has it, whether it runs before requests are accepted, its payload lengths and its body. -/
structure RequestRow where
  known : Bool
  early : Bool
  fits : Nat → Bool
  body : State → List Byte → Answer

/-- The row is that of the kind, by the command that UNKNOWN_REQUEST runs and by the catalogue. -/
structure RequestRow.Of (row : RequestRow) (kind : Byte) : Prop where
  runs : ∀ (frame : Frame) (s : State), execUnknownRequest kind frame s =
    whilePowered s fun s => s.request kind frame row.known row.early row.fits row.body
  silent : ∀ (s : State) (p : List Byte), s.Silent (row.body s p).state
  known : row.known = true ↔ 1 ≤ kind.toNat ∧ kind.toNat ≤ 32
  early : row.early = true ↔ kind = 1 ∨ kind = 2
  fits : row.known = true → ∀ n, row.fits n = true ↔ catalogueLength kind.toNat n

theorem RequestRow.of_length {kind : Byte} {early : Bool} {k : Nat} {body : State → List Byte → Answer}
    (runs : ∀ (frame : Frame) (s : State), execUnknownRequest kind frame s =
      whilePowered s fun s => s.request kind frame true early (· == k) body)
    (silent : ∀ (s : State) (p : List Byte), s.Silent (body s p).state) (known : 1 ≤ kind.toNat ∧ kind.toNat ≤ 32)
    (isEarly : early = true ↔ kind = 1 ∨ kind = 2) (fits : ∀ n, n = k ↔ catalogueLength kind.toNat n) :
    ∃ row : RequestRow, row.Of kind :=
  ⟨⟨true, early, (· == k), body⟩, runs, silent, iff_of_true rfl known, isEarly, fun _ n => beq_iff_eq.trans (fits n)⟩

theorem tableWriteFits_iff (n : Nat) : tableWriteFits n = true ↔ catalogueLength 0x14 n := by
  simp only [tableWriteFits, Bool.and_eq_true, decide_eq_true_iff, beq_iff_eq, catalogueLength]
  omega

/-- Every kind has its row. -/
theorem RequestRow.exists_of (kind : Byte) : ∃ row : RequestRow, row.Of kind := by
  by_cases listed : 1 ≤ kind.toNat ∧ kind.toNat ≤ 32
  · have eq : kind = BitVec.ofNat 8 kind.toNat := (BitVec.ofNat_toNat 8 kind).symm.trans rfl
    obtain ⟨low, high⟩ := listed
    generalize kind.toNat = n at eq low high
    subst eq
    interval_cases n
    · exact RequestRow.of_length (fun _ _ => rfl) (fun s _ => .refl s) (by decide) (by decide) fun _ => Iff.rfl
    · exact RequestRow.of_length (fun _ _ => rfl) statusBody_noReply (by decide) (by decide) fun _ => Iff.rfl
    · exact RequestRow.of_length (fun _ _ => rfl) recallBody_noReply (by decide) (by decide) fun _ => Iff.rfl
    · exact RequestRow.of_length (fun _ _ => rfl) cancelBody_noReply (by decide) (by decide) fun _ => Iff.rfl
    · exact RequestRow.of_length (fun _ _ => rfl) editBody_noReply (by decide) (by decide) fun _ => Iff.rfl
    · exact RequestRow.of_length (fun _ _ => rfl) getParamBody_noReply (by decide) (by decide) fun _ => Iff.rfl
    · exact RequestRow.of_length (fun _ _ => rfl) setLatchBody_noReply (by decide) (by decide) fun _ => Iff.rfl
    · exact RequestRow.of_length (fun _ _ => rfl) (fun s _ => .refl s) (by decide) (by decide) fun _ => Iff.rfl
    · exact RequestRow.of_length (fun _ _ => rfl) sendCueBody_noReply (by decide) (by decide) fun _ => Iff.rfl
    · exact RequestRow.of_length (fun _ _ => rfl) setFilterBody_noReply (by decide) (by decide) fun _ => Iff.rfl
    · exact RequestRow.of_length (fun _ _ => rfl) setMaskBody_noReply (by decide) (by decide) fun _ => Iff.rfl
    · exact RequestRow.of_length (fun _ _ => rfl) readCuesBody_noReply (by decide) (by decide) fun _ => Iff.rfl
    · exact RequestRow.of_length (fun _ _ => rfl) (fun s _ => .of_eq rfl rfl) (by decide) (by decide) fun _ => Iff.rfl
    · exact ⟨⟨true, false, fun n => decide (n ≤ Config.maxPayload), uploadDataBody⟩, fun _ _ => rfl, uploadDataBody_noReply, by decide, by decide, fun _ _ => decide_eq_true_iff⟩
    · exact RequestRow.of_length (fun _ _ => rfl) uploadCheckBody_noReply (by decide) (by decide) fun _ => Iff.rfl
    · exact RequestRow.of_length (fun _ _ => rfl) storeBody_noReply (by decide) (by decide) fun _ => Iff.rfl
    · exact RequestRow.of_length (fun _ _ => rfl) eraseBody_noReply (by decide) (by decide) fun _ => Iff.rfl
    · exact RequestRow.of_length (fun _ _ => rfl) readSlotBody_noReply (by decide) (by decide) fun _ => Iff.rfl
    · exact RequestRow.of_length (fun _ _ => rfl) listBody_noReply (by decide) (by decide) fun _ => Iff.rfl
    · exact ⟨⟨true, false, tableWriteFits, tableWriteBody⟩, fun _ _ => rfl, tableWriteBody_noReply, by decide, by decide, fun _ => tableWriteFits_iff⟩
    · exact RequestRow.of_length (fun _ _ => rfl) tableReadBody_noReply (by decide) (by decide) fun _ => Iff.rfl
    · exact RequestRow.of_length (fun _ _ => rfl) tableSaveBody_noReply (by decide) (by decide) fun _ => Iff.rfl
    · exact RequestRow.of_length (fun _ _ => rfl) tunerSetBody_noReply (by decide) (by decide) fun _ => Iff.rfl
    · exact RequestRow.of_length (fun _ _ => rfl) (fun s _ => .refl s) (by decide) (by decide) fun _ => Iff.rfl
    · exact RequestRow.of_length (fun _ _ => rfl) tempoSetBody_noReply (by decide) (by decide) fun _ => Iff.rfl
    · exact RequestRow.of_length (fun _ _ => rfl) (fun s _ => .refl s) (by decide) (by decide) fun _ => Iff.rfl
    · exact RequestRow.of_length (fun _ _ => rfl) pedalSetBody_noReply (by decide) (by decide) fun _ => Iff.rfl
    · exact RequestRow.of_length (fun _ _ => rfl) (fun s _ => .refl s) (by decide) (by decide) fun _ => Iff.rfl
    · exact RequestRow.of_length (fun _ _ => rfl) switchSetBody_noReply (by decide) (by decide) fun _ => Iff.rfl
    · exact RequestRow.of_length (fun _ _ => rfl) setupSaveBody_noReply (by decide) (by decide) fun _ => Iff.rfl
    · exact RequestRow.of_length (fun _ _ => rfl) reportsBody_noReply (by decide) (by decide) fun _ => Iff.rfl
    · exact RequestRow.of_length (fun _ _ => rfl) resetBody_noReply (by decide) (by decide) fun _ => Iff.rfl
  · refine ⟨⟨false, false, fun _ => true, fun s _ => s.refuse .badKind⟩, fun frame s => ?_, fun s _ => .refl s,
      iff_of_false Bool.false_ne_true listed, iff_of_false Bool.false_ne_true ?_, fun known => absurd known Bool.false_ne_true⟩
    · unfold execUnknownRequest
      split
      all_goals first | omega | rfl
    · rintro (rfl | rfl) <;> exact listed (by decide)

/-! ## The commands of the requests (R190, log entry 18) -/

/-- A command of the catalogue is the UNKNOWN_REQUEST of its kind and frame. -/
theorem exec_requestOf {c : Instr} {kind : Byte} {f : Frame} (h : requestOf c = some (kind, f)) (s : State) :
    exec c s = execUnknownRequest kind f s := by
  unfold requestOf at h
  split at h
  all_goals cases h
  all_goals rfl

/-! ## The common checks (R177, R178) -/

section
variable {s : State} {kind : Byte} {f : Frame} {early : Bool} {fits : Nat → Bool} {body : State → List Byte → Answer}

/-- Check 2 (R178). -/
theorem request_unknown (hq : s.link.queue.length < 24) (hc : f.complete = true) (hl : frameLengthOk f = true) :
    s.request kind f false early fits body = s.replied (kind ||| 0x80) f.tag 3 [] := by
  have room : decide (Config.queueLength ≤ s.endRead.link.queue.length) = false := decide_eq_false (Nat.not_le.2 hq)
  unfold State.request
  dsimp only
  rw [hc, room, hl]
  exact refuse_post s .badKind kind f.tag

/-- A request that is not dropped is answered once, by its body or by a common check. -/
theorem request_answered (hq : s.link.queue.length < 24) (hc : f.complete = true) (known : Bool)
    (silent : ∀ (s : State) (p : List Byte), s.Silent (body s p).state) :
    ∃ a : Answer, s.endRead.Silent a.state ∧ s.request kind f known early fits body = a.post kind f.tag := by
  have room : decide (Config.queueLength ≤ s.endRead.link.queue.length) = false := decide_eq_false (Nat.not_le.2 hq)
  unfold State.request
  dsimp only
  rw [hc, room]
  exact ⟨_, .answer (.refl _) (.answer (.refl _) (.answer (.refl _) (.answer (.refl _) (silent _ _)))), rfl⟩
end

theorem Status.code_le (status : Status) : status.code.toNat ≤ 12 := by cases status <;> decide

theorem Frame.length_bytes (tag l0 l1 : Byte) (payload : List Byte) :
    (⟨tag :: l0 :: l1 :: payload⟩ : Frame).length.toNat = l0.toNat + 256 * l1.toNat := by
  have h0 := l0.isLt
  have h1 := l1.isLt
  exact (BitVec.toNat_ofNat _ _).trans (Nat.mod_eq_of_lt (show l0.toNat + 256 * l1.toNat < 65536 by omega))

/-- Settles O49. -/
theorem everyRequestIsDroppedOrAnsweredOnce : Obligations.EveryRequestIsDroppedOrAnsweredOnce := by
  unfold Obligations.EveryRequestIsDroppedOrAnsweredOnce
  refine ⟨fun c kind f s request on short => ?_, fun c kind tag l0 l1 payload s request on => ?_⟩
  · obtain ⟨row, is⟩ := RequestRow.exists_of kind
    rw [exec_requestOf request, is.runs, whilePowered_powered on, request_incomplete (decide_eq_false (Nat.not_le.2 short))]
    rfl
  · obtain ⟨row, is⟩ := RequestRow.exists_of kind
    have run : exec c s = .next (s.request kind ⟨tag :: l0 :: l1 :: payload⟩ row.known row.early row.fits row.body) := by
      rw [exec_requestOf request, is.runs, whilePowered_powered on]
    have complete : (⟨tag :: l0 :: l1 :: payload⟩ : Frame).complete = true := by simp [Frame.complete]
    have lengthOk := frameLengthOk_iff ⟨tag :: l0 :: l1 :: payload⟩
    rw [Frame.length_bytes] at lengthOk
    intro n
    refine ⟨fun full => ?_, fun room => ⟨?_, fun bad => ?_, fun length small => ?_⟩⟩
    · rw [run, request_full full]
      rfl
    · obtain ⟨a, silent, answered⟩ := request_answered (kind := kind) (f := ⟨tag :: l0 :: l1 :: payload⟩) (early := row.early)
        (fits := row.fits) room complete row.known is.silent
      obtain ⟨reading, sent, few⟩ := silent _ ⟨rfl, rfl, Nat.le_refl _⟩
      exact ⟨a.state, a.status.code, a.payload, by rw [run, answered, Answer.post_eq_replied a kind _ reading sent]; rfl, a.status.code_le, few⟩
    · have wrong : frameLengthOk ⟨tag :: l0 :: l1 :: payload⟩ = false := Bool.eq_false_iff.2 fun ok => by
        obtain ⟨most, same⟩ := lengthOk.1 ok
        exact bad.elim (fun h => h same) fun h => Nat.not_le.2 h most
      rw [run, request_bad_length room complete wrong]
      rfl
    · have right : frameLengthOk ⟨tag :: l0 :: l1 :: payload⟩ = true := lengthOk.2 ⟨small, length⟩
      refine ⟨fun unknown => ?_, fun low high => ⟨fun notIdent notStatus starting => ?_, fun may unfit => ?_⟩⟩
      · have unlisted : row.known = false := Bool.eq_false_iff.2 fun h => by
          obtain ⟨low, high⟩ := is.known.1 h
          rcases unknown with rfl | unknown
          · exact absurd low (by decide)
          · exact Nat.not_le.2 unknown high
        rw [run, unlisted, request_unknown room complete right]
        rfl
      · have late : row.early = false := Bool.eq_false_iff.2 fun h => (is.early.1 h).elim notIdent notStatus
        rw [run, is.known.2 ⟨low, high⟩, late, request_not_ready room complete right (beq_eq_false_iff_ne.2 starting)]
        rfl
      · have known := is.known.2 ⟨low, high⟩
        have ready : s.ready = true ∨ row.early = true := by
          rcases may with h | h | h
          · exact .inr (is.early.2 (.inl h))
          · exact .inr (is.early.2 (.inr h))
          · exact .inl (beq_iff_eq.2 h)
        have refused : row.fits payload.length = false := Bool.eq_false_iff.2 fun h => unfit (length ▸ (is.fits known _).1 h)
        rw [run, known, request_unfit room complete right ready refused]
        rfl

end Sys2Proof.Machine
end

section
/-! CORRECTNESS. IDENT, STATUS and REPORTS (spec/10 10.3, 10.4). -/

namespace Sys2Proof.Machine

/-! ## IDENT and STATUS run in every phase of start-up (R178, R187, R188) -/

/-- A request that is answered before requests are accepted, and leaves t but for the read that it ends. -/
theorem request_early_leaves {s t : State} {kind tag : Byte} {p : List Byte} {fits : Nat → Bool} {body : State → List Byte → Answer}
    {status : Status} {payload : List Byte} (room : s.link.queue.length < 24) (hp : p.length ≤ 250) (hf : fits p.length = true)
    (e : body s.endRead p = { state := t.endRead, status := status, payload := payload }) :
    s.request kind (requestFrame tag p) true true fits body = t.replied (kind ||| 0x80) tag status.code payload := by
  rw [request_runs room (complete_requestFrame tag p) (frameLengthOk_requestFrame tag p hp) (.inr rfl) hf, payload_requestFrame, e,
    tag_requestFrame, Answer.post_endRead]

theorem flagByte_decide (p : Prop) [Decidable p] : flagByte (decide p) = if p then 1 else 0 := by
  unfold flagByte
  by_cases h : p
  · rw [decide_eq_true h, if_pos rfl, if_pos h]
  · rw [decide_eq_false h, if_neg Bool.false_ne_true, if_neg h]

theorem flagByte_beq {α : Type} [DecidableEq α] (a b : α) : flagByte (a == b) = if a = b then 1 else 0 := flagByte_decide (a = b)

/-! ## The parts of a STATUS reply (R195) -/

theorem Vector.toList_four {α : Type} (v : Vector α 4) : v.toList = [v[(0 : Fin 4)], v[(1 : Fin 4)], v[(2 : Fin 4)], v[(3 : Fin 4)]] := by
  obtain ⟨⟨l⟩, size⟩ := v
  match l, size with
  | [_, _, _, _], _ => rfl

theorem Vector.toList_eight {α : Type} (v : Vector α 8) : v.toList = [v[(0 : Fin 8)], v[(1 : Fin 8)], v[(2 : Fin 8)], v[(3 : Fin 8)],
    v[(4 : Fin 8)], v[(5 : Fin 8)], v[(6 : Fin 8)], v[(7 : Fin 8)]] := by
  obtain ⟨⟨l⟩, size⟩ := v
  match l, size with
  | [_, _, _, _, _, _, _, _], _ => rfl

theorem padTo_length (n : Nat) (bs : List Byte) : (padTo n bs).length = n := by
  simp [padTo]

theorem linePart_length (ln : Line) : (linePart ln).length = 9 := by
  have codes : ln.holder.codes.length = 2 := by cases ln.holder <;> rfl
  simp [linePart, codes]

theorem delayPart_eq (d : DelayMemory) : delayPart d = flagByte d.present ::
    (linePart d.lines[(0 : Fin 4)] ++ linePart d.lines[(1 : Fin 4)] ++ linePart d.lines[(2 : Fin 4)] ++ linePart d.lines[(3 : Fin 4)]) := by
  rw [delayPart, Vector.toList_four]
  simp only [List.flatMap_cons, List.flatMap_nil, List.append_nil, List.append_assoc]

theorem incomingPart_length (c : Option Context) : (incomingPart c).length = 6 := by cases c <;> rfl

theorem queuedPart_length (q : Option QueuedRecall) : (queuedPart q).length = 4 := by cases q <;> rfl

theorem scenePart_length (m : SceneManager) (phase : MixPhase) : (scenePart m phase).length = 35 := by
  simp [scenePart, incomingPart_length, queuedPart_length, padTo_length]

theorem storePart_length (st : Store) : (storePart st).length = 5 := by
  unfold storePart
  cases st.engine <;> rfl

theorem cuePart_eq (u : CueUnit) : cuePart u = [BitVec.ofNat 8 u.queue.length, flagByte u.lost] ++ bytesLE 2 u.discards ++
    [BitVec.ofNat 8 u.fifo.length, flagByte u.overflow, BitVec.ofNat 8 u.watermark] ++
    [u.switches[(0 : Fin 8)].state.code, u.switches[(1 : Fin 8)].state.code, u.switches[(2 : Fin 8)].state.code,
      u.switches[(3 : Fin 8)].state.code, u.switches[(4 : Fin 8)].state.code, u.switches[(5 : Fin 8)].state.code,
      u.switches[(6 : Fin 8)].state.code, u.switches[(7 : Fin 8)].state.code] := by
  rw [cuePart, Vector.toList_eight]
  rfl

theorem State.statusPayload_length (s : State) : s.statusPayload.length = 96 := by
  rw [State.statusPayload, delayPart_eq, cuePart_eq]
  simp [linkPart, linePart_length, scenePart_length, storePart_length]

theorem StoreOp.bank_code (op : StoreOp) : byteOf op.bank = if op.bank = 0 then 0 else 1 := by
  have bank : op.bank = 0 ∨ op.bank = 1 := by
    cases op with
    | store n => exact Nat.mod_two_eq_zero_or_one n
    | erase n => exact Nat.mod_two_eq_zero_or_one n
    | tableSave _ => exact .inr rfl
    | setupSave => exact .inr rfl
  rcases bank with h | h <;> rw [h] <;> rfl

theorem WritePhase.code_eq (p : WritePhase) : p.code = if p = .erasing then 1 else 2 := by cases p <;> rfl

theorem trailPart_eq (t : Trail) : trailPart t = [BitVec.ofNat 8 t.line.val, if t.state = .running then 0 else 1] ++ bytesLE 2 t.age := by
  have running : flagByte (t.state != .running) = if t.state = .running then 0 else 1 := by
    by_cases h : t.state = .running
    · rw [h]
      rfl
    · rw [bne_iff_ne.2 h, if_neg h]
      rfl
  rw [trailPart, running]
  rfl

theorem DelayMemory.clearCounts_lines (d : DelayMemory) (l : Fin 4) :
    d.clearCounts.lines[l] = { d.lines[l] with underruns := 0, overruns := 0 } := by
  simp [DelayMemory.clearCounts]

/-! ## REPORTS (R186, R23, R144, R174) -/

section
variable {s : State}

/-- What the TUNER report leaves alone. -/
theorem State.reportTunerIf_frame (s : State) (c : Bool) : ∃ tuner reading reported, s.reportTunerIf c =
    { s with tuner := { s.tuner with reported := reported }, link := { s.link with tuner := tuner, reading := reading } } := by
  by_cases h : c = false ∨ s.link.enabled .tuner = false
  · exact ⟨_, _, _, State.reportTunerIf_quiet h⟩
  · simp only [not_or, Bool.not_eq_false] at h
    obtain ⟨wanted, enabled⟩ := h
    rw [State.reportTunerIf_reports wanted enabled, State.post, Link.post_slot enabled rfl]
    exact ⟨_, _, _, rfl⟩

theorem State.reportCuesIf_reports {c : Bool} (h : c = true) (enabled : s.link.enabled .cues = true) : s.reportCuesIf c =
    s.withLink (s.link.place .cues ⟨0x45, 0, 0, [BitVec.ofNat 8 s.cues.fifo.length, flagByte s.cues.overflow]⟩) := by
  rw [h]
  exact congrArg s.withLink (Link.post_slot enabled rfl)

theorem State.reportCuesIf_frame (s : State) (c : Bool) : ∃ cues reading, s.reportCuesIf c =
    { s with link := { s.link with cues := cues, reading := reading } } := by
  by_cases h : c = true ∧ s.link.enabled .cues = true
  · rw [State.reportCuesIf_reports h.1 h.2]
    exact ⟨_, _, rfl⟩
  · refine ⟨s.link.cues, s.link.reading, ?_⟩
    cases c with
    | false => rfl
    | true =>
      have disabled : s.link.enabled .cues = false := Bool.eq_false_iff.2 fun e => h ⟨rfl, e⟩
      exact congrArg s.withLink (post_disabled disabled _ _)

variable {mask : BitVec 16}

/-- The mask is set and the TUNER report of its enabling is posted. -/
def State.reportsTuner (s : State) (mask : BitVec 16) : State :=
  (s.withLink { s.link with mask := mask }).reportTunerIf (enables s.link.mask mask .tuner && s.tuner.unreported)

/-- LEVELS is left to the next boundary. -/
def State.reportsLevels (s : State) (mask : BitVec 16) : State :=
  let t := s.reportsTuner mask
  t.withChain { t.chain with levelsCatchUp := t.chain.levelsCatchUp || enables s.link.mask mask .levels }

theorem State.setReports_eq (s : State) (mask : BitVec 16) : s.setReports mask = (s.reportsLevels mask).reportCuesIf
    (enables s.link.mask mask .cues && decide ((s.reportsLevels mask).cues.watermark ≤ (s.reportsLevels mask).cues.fifo.length)) := rfl

theorem State.setReports_endRead (s : State) (mask : BitVec 16) : s.endRead.setReports mask = (s.setReports mask).endRead := by
  have tuner : s.endRead.reportsTuner mask = (s.reportsTuner mask).endRead := State.reportTunerIf_endRead (s.withLink { s.link with mask := mask }) _
  have levels : s.endRead.reportsLevels mask = (s.reportsLevels mask).endRead := by
    rw [State.reportsLevels, tuner]
    rfl
  rw [State.setReports_eq, State.setReports_eq, levels]
  exact State.reportCuesIf_endRead _ _

/-- What an accepted REPORTS leaves alone. -/
theorem State.setReports_frame (s : State) (mask : BitVec 16) : let t := s.setReports mask
    t.link.mask = mask ∧ t.link.queue = s.link.queue ∧ t.link.levels = s.link.levels ∧
      t.link.tuner = (s.reportsTuner mask).link.tuner ∧ t.tuner = (s.reportsTuner mask).tuner ∧
      t.chain = { s.chain with levelsCatchUp := s.chain.levelsCatchUp || enables s.link.mask mask .levels } ∧
      t = { s with link := t.link, tuner := t.tuner, chain := t.chain } := by
  obtain ⟨tuner, reading, reported, e⟩ := (s.withLink { s.link with mask := mask }).reportTunerIf_frame
    (enables s.link.mask mask .tuner && s.tuner.unreported)
  have first : s.reportsTuner mask = _ := e
  obtain ⟨cues, reading', e'⟩ := (s.reportsLevels mask).reportCuesIf_frame (enables s.link.mask mask .cues &&
    decide ((s.reportsLevels mask).cues.watermark ≤ (s.reportsLevels mask).cues.fifo.length))
  rw [State.setReports_eq, e', State.reportsLevels, first]
  exact ⟨rfl, rfl, rfl, rfl, rfl, rfl, rfl⟩

theorem State.reportsLevels_frame (s : State) (mask : BitVec 16) : (s.reportsLevels mask).cues = s.cues ∧
    (s.reportsLevels mask).link.mask = mask ∧ (s.reportsLevels mask).link.cues = s.link.cues := by
  obtain ⟨tuner, reading, reported, e⟩ := (s.withLink { s.link with mask := mask }).reportTunerIf_frame
    (enables s.link.mask mask .tuner && s.tuner.unreported)
  have first : s.reportsTuner mask = _ := e
  rw [State.reportsLevels, first]
  exact ⟨rfl, rfl, rfl⟩

/-! ### The catch-up report of CUES -/

theorem State.setReports_cues (off : s.link.mask.getLsbD 4 = false) (on : mask.getLsbD 4 = true)
    (mark : s.cues.watermark ≤ s.cues.fifo.length) : (s.setReports mask).link.cues =
      some ⟨0x45, 0, 0, [BitVec.ofNat 8 s.cues.fifo.length, flagByte s.cues.overflow]⟩ := by
  obtain ⟨cues, mask', -⟩ := s.reportsLevels_frame mask
  have enabling : enables s.link.mask mask .cues = true := by
    rw [enables]
    exact (Bool.and_eq_true _ _).mpr ⟨on, congrArg not off⟩
  rw [State.setReports_eq, cues, enabling, decide_eq_true mark, Bool.and_true,
    State.reportCuesIf_reports (s := s.reportsLevels mask) rfl (by rw [Link.enabled, mask']; exact on), cues]
  rfl

theorem State.setReports_cues_quiet (h : s.link.mask.getLsbD 4 = true ∨ mask.getLsbD 4 = false ∨ s.cues.fifo.length < s.cues.watermark) :
    (s.setReports mask).link.cues = s.link.cues := by
  obtain ⟨cues, -, same⟩ := s.reportsLevels_frame mask
  have idle : (enables s.link.mask mask .cues && decide (s.cues.watermark ≤ s.cues.fifo.length)) = false := by
    unfold enables
    rcases h with h | h | h
    · rw [show s.link.mask.getLsbD ReportKind.cues.bit = true from h, Bool.not_true, Bool.and_false, Bool.false_and]
    · rw [show mask.getLsbD ReportKind.cues.bit = false from h, Bool.false_and, Bool.false_and]
    · rw [decide_eq_false (Nat.not_le.2 h), Bool.and_false]
  rw [State.setReports_eq, cues, idle]
  exact same

/-! ### The catch-up report of TUNER -/

theorem State.reportsTuner_quiet (h : s.link.mask.getLsbD 2 = true ∨ mask.getLsbD 2 = false ∨ s.tuner.unreported = false) :
    s.reportsTuner mask = s.withLink { s.link with mask := mask } := by
  refine State.reportTunerIf_quiet (.inl ?_)
  unfold enables
  rcases h with h | h | h
  · rw [show s.link.mask.getLsbD ReportKind.tuner.bit = true from h, Bool.not_true, Bool.and_false, Bool.false_and]
  · rw [show mask.getLsbD ReportKind.tuner.bit = false from h, Bool.false_and, Bool.false_and]
  · rw [h, Bool.and_false]

theorem State.reportsTuner_reports (off : s.link.mask.getLsbD 2 = false) (on : mask.getLsbD 2 = true)
    (new : s.tuner.unreported = true) : (s.reportsTuner mask).tuner = { s.tuner with reported := s.tuner.asReported } ∧
      (s.reportsTuner mask).link.tuner = some ⟨0x43, 0, 0, s.tuner.readingBytes⟩ := by
  have wanted : (enables s.link.mask mask .tuner && s.tuner.unreported) = true := by
    rw [new, Bool.and_true, enables]
    exact (Bool.and_eq_true _ _).mpr ⟨on, congrArg not off⟩
  have run := State.reportTunerIf_reports (s := s.withLink { s.link with mask := mask }) wanted on
  rw [State.reportsTuner, run]
  exact ⟨rfl, congrArg Link.tuner (Link.post_slot (l := { s.link with mask := mask }) (k := .tuner) on rfl)⟩
end

/-- The latest reading is new (R174): the match of the model's judgement in the terms of the statement. -/
theorem Tuner.unreported_iff_differs (u : Tuner) : u.unreported = true ↔ match u.latest, u.reported with
    | some r, .reading old => r.note ≠ old.note ∨ r.cents ≠ old.cents ∨ r.inTune ≠ old.inTune
    | some _, _ => True
    | none, reported => reported ≠ .noSignal := by
  unfold Tuner.unreported
  cases u.latest with
  | none => cases u.reported <;> simp
  | some r =>
    cases u.reported with
    | none => simp
    | noSignal => simp
    | reading old => simp only [Bool.or_eq_true, bne_iff_ne, or_assoc]

theorem bytesLE_two (a b : Byte) : bytesLE 2 (BitVec.ofNat 16 (a.toNat + 256 * b.toNat)).toNat = [a, b] := by
  have ha := a.isLt
  have hb := b.isLt
  have value : (BitVec.ofNat 16 (a.toNat + 256 * b.toNat)).toNat = a.toNat + 256 * b.toNat :=
    (BitVec.toNat_ofNat _ _).trans (Nat.mod_eq_of_lt (by omega))
  have low : BitVec.ofNat 8 (a.toNat + 256 * b.toNat) = a := BitVec.eq_of_toNat_eq (by rw [BitVec.toNat_ofNat]; omega)
  have high : BitVec.ofNat 8 ((a.toNat + 256 * b.toNat) / 256) = b := BitVec.eq_of_toNat_eq (by rw [BitVec.toNat_ofNat]; omega)
  rw [value, bytesLE, bytesLE, low, high]
  rfl

/-- Settles O50. -/
theorem identStatusAndReports : Obligations.IdentStatusAndReports := by
  unfold Obligations.IdentStatusAndReports
  refine ⟨fun s tag on room => ?_, fun s tag on room => ?_, fun s tag m0 m1 on => ⟨fun bad => ?_, fun good => ?_⟩⟩
  · have body : identBody s.endRead [] = { state := s.endRead, status := .ok, payload :=
        [0xBF, 0xCC, 0x02, 1, 1, 1, if s.startUp.phase = .running then 1 else 0] } := by
      rw [← flagByte_beq]
      rfl
    rw [exec_ident on, request_early_leaves room (Nat.zero_le _) rfl body]
    rfl
  · intro m u bit link line delay state contexts fading account incoming queued trails scene store switch cue
    refine ⟨s.statusPayload, ?_, s.statusPayload_length, ?_, fun flag set => ⟨s.clearCounts, ?_, s.delay.clearCounts_lines, rfl, rfl, rfl⟩⟩
    · have delayEq : delayPart s.delay = delay := delayPart_eq s.delay
      have trailsEq : m.trails.flatMap trailPart = trails := by rw [funext trailPart_eq]
      have counts : Trail.counts = fun t => !fading t := by
        funext t
        simp only [Trail.counts, fading]
        cases t.state <;> rfl
      have accountEq : m.account = account := by
        rw [SceneManager.account, counts]
        rfl
      have sceneEq : scenePart m s.chain.mixer.phase = scene := by
        rw [scenePart, trailsEq, accountEq]
        rfl
      have storeEq : storePart s.store = store := by
        unfold storePart
        simp only [StoreOp.bank_code, WritePhase.code_eq]
        rfl
      have cueEq : cuePart s.cues = cue := cuePart_eq s.cues
      rw [State.statusPayload, delayEq, sceneEq, storeEq, cueEq]
      rfl
    · have body : statusBody s.endRead [0] = { state := s.endRead, status := .ok, payload := s.statusPayload } := rfl
      rw [exec_status on, request_early_leaves room (by simp) rfl body]
      rfl
    · have nonzero : byteAt [flag] 0 ≠ 0 := fun h => set (BitVec.eq_of_toNat_eq h)
      have body : statusBody s.endRead [flag] = { state := s.clearCounts.endRead, status := .ok, payload := s.statusPayload } := by
        rw [statusBody, if_neg nonzero]
        rfl
      rw [exec_status on, request_early_leaves room (by simp) rfl body]
      rfl
  · have far : 512 ≤ numAt [m0, m1] 0 2 := by
      rw [numAt_zero_two]
      omega
    exact request_refuses on (by simp) rfl (show reportsBody s.endRead [m0, m1] = _ from if_pos far)
  · intro mask
    have body : reportsBody s.endRead [m0, m1] = { state := (s.setReports mask).endRead, status := .ok, payload := [m0, m1] } := by
      have near : ¬512 ≤ numAt [m0, m1] 0 2 := by
        have := m0.isLt
        rw [numAt_zero_two]
        omega
      have number : BitVec.ofNat 16 (numAt [m0, m1] 0 2) = mask := by rw [numAt_zero_two]
      have answered : [m0, m1] = bytesLE 2 mask.toNat := (bytesLE_two m0 m1).symm
      rw [← State.setReports_endRead, reportsBody, if_neg near, number, answered]
      rfl
    obtain ⟨mask', queue, levels, tuner, unit, chain, keeps⟩ := s.setReports_frame mask
    refine ⟨s.setReports mask, request_leaves on (by simp) rfl body, mask', queue, levels, fun idle => ?_, ?_, ?_, State.setReports_cues,
      State.setReports_cues_quiet, keeps, ?_⟩
    · rw [tuner, unit, State.reportsTuner_quiet (idle.imp id .inl)]
      exact ⟨rfl, rfl⟩
    · intro u differs off enabled
      have new : u.unreported = true ↔ differs := u.unreported_iff_differs
      refine ⟨fun same => ?_, fun differ => ⟨u.measure.code, by cases u.measure <;> rfl, fun none_ => ?_, fun r some_ => ?_⟩⟩
      · rw [tuner, unit, State.reportsTuner_quiet (.inr (.inr (Bool.eq_false_iff.2 fun h => same (new.1 h))))]
        exact ⟨rfl, rfl⟩
      · obtain ⟨reported, posted⟩ := State.reportsTuner_reports off enabled (new.2 differ)
        have silent : u.asReported = .noSignal := by rw [Tuner.asReported, none_]
        have bytes : u.readingBytes = [u.measure.code, 0, 0, 0, 0, 0, 0, 0, 0] := by rw [Tuner.readingBytes, none_]
        rw [unit, tuner, reported, posted, silent, bytes]
        exact ⟨rfl, rfl⟩
      · obtain ⟨reported, posted⟩ := State.reportsTuner_reports off enabled (new.2 differ)
        have read : u.asReported = .reading r := by rw [Tuner.asReported, some_]
        rw [unit, tuner, reported, posted, read, Tuner.readingBytes_of_some some_]
        exact ⟨rfl, rfl⟩
    · rw [chain]
      simp only [enables, Bool.or_eq_true, Bool.and_eq_true, Bool.not_eq_true']
      exact or_congr_right and_comm
    · rw [chain]

end Sys2Proof.Machine
end

section
/-! SUPPORT. The layout of a preset record (R192): where writing puts each field, and what reading finds there. -/

namespace Sys2Proof.Machine

/-! ## Bytes that stand at an offset -/

/-- The bytes w stand in bs from offset o on. -/
def Placed (bs : List Byte) (o : Nat) (w : List Byte) : Prop := ∃ rest, bs.drop o = w ++ rest

section
variable {bs u w : List Byte} {o i n : Nat}

theorem Placed.of_eq (h : bs = w) : Placed bs 0 w := ⟨[], by rw [List.drop_zero, List.append_nil, h]⟩

theorem Placed.left (h : Placed bs o (u ++ w)) : Placed bs o u := by
  obtain ⟨rest, e⟩ := h
  exact ⟨w ++ rest, e.trans (List.append_assoc _ _ _)⟩

theorem Placed.right (h : Placed bs o (u ++ w)) (length : o + u.length = n) : Placed bs n w := by
  obtain ⟨rest, e⟩ := h
  refine ⟨rest, ?_⟩
  rw [← length, ← List.drop_drop, e, List.append_assoc, List.drop_left]

theorem Placed.getD (h : Placed bs o w) (hi : i < w.length) : bs.getD (o + i) 0 = w.getD i 0 := by
  obtain ⟨rest, e⟩ := h
  rw [List.getD_eq_getElem?_getD, List.getD_eq_getElem?_getD, ← List.getElem?_drop, e, List.getElem?_append_left hi]

theorem Placed.byteAt (h : Placed bs o w) (hi : i < w.length) : byteAt bs (o + i) = byteAt w i :=
  congrArg BitVec.toNat (h.getD hi)

theorem Placed.take (h : Placed bs o w) (length : w.length = n) : (bs.drop o).take n = w := by
  obtain ⟨rest, e⟩ := h
  rw [e, ← length, List.take_left]

theorem Placed.numAt (h : Placed bs o w) (length : w.length = n) : numAt bs o n = ofBytesLE w :=
  congrArg ofBytesLE (h.take length)

theorem Placed.signedAt (h : Placed bs o w) (length : w.length = n) : signedAt bs o n = ofBytesSignedLE n w :=
  congrArg (ofBytesSignedLE n) (h.take length)

theorem Placed.numAt_bytesLE {v : Nat} (h : Placed bs o (bytesLE n v)) (small : v < 256 ^ n) : Machine.numAt bs o n = v :=
  (h.numAt (bytesLE_length n v)).trans (ofBytesLE_bytesLE_of_lt small)

/-- Entries of one length stand at multiples of it. -/
theorem Placed.entry {α : Type} {f : α → List Byte} {k : Nat} (length : ∀ a, (f a).length = k) {as : List α} {a : α}
    (h : Placed bs o (as.flatMap f)) (hi : as[i]? = some a) : Placed bs (o + k * i) (f a) := by
  induction as generalizing o i with
  | nil => cases hi
  | cons b as ih =>
    rw [List.flatMap_cons] at h
    cases i with
    | zero =>
      cases hi
      exact h.left
    | succ i =>
      have after := ih (h.right (n := o + k) (by rw [length])) hi
      rwa [show o + k + k * i = o + k * (i + 1) by rw [Nat.mul_succ]; omega] at after

theorem flatMap_length {α : Type} {f : α → List Byte} {k : Nat} (length : ∀ a, (f a).length = k) (as : List α) :
    (as.flatMap f).length = k * as.length := by
  induction as with
  | nil => rfl
  | cons a as ih => rw [List.flatMap_cons, List.length_append, ih, length, List.length_cons, Nat.mul_succ, Nat.add_comm]

theorem padTo_of_le (h : w.length ≤ n) : padTo n w = w ++ List.replicate (n - w.length) 0 := by
  rw [padTo, List.take_append, List.take_of_length_le h, List.take_replicate, Nat.min_eq_left (Nat.sub_le _ _)]
end

/-! ## A stage entry (R192) -/

/-- The places of a kind's parameters follow one another from o on. -/
def Consecutive : Nat → List ParamSpec → Prop
  | _, [] => True
  | o, spec :: specs => spec.offset = o ∧ Consecutive (o + spec.width) specs

theorem paramSpecs_consecutive (kind : StageKind) : Consecutive 4 (paramSpecs kind) := by
  cases kind <;> simp [paramSpecs, Consecutive]

/-- A parameter's range fits its bytes. -/
def ParamSpec.fits (spec : ParamSpec) : Prop :=
  if spec.signed then -(256 ^ spec.width : Nat) ≤ 2 * spec.lo ∧ 2 * spec.hi < (256 ^ spec.width : Nat)
  else 0 ≤ spec.lo ∧ spec.hi < (256 ^ spec.width : Nat)

/-- A parameter's range lies within the four signed bytes of a binding's ends. -/
def ParamSpec.fitsBinding (spec : ParamSpec) : Prop := -4294967296 ≤ 2 * spec.lo ∧ 2 * spec.hi < 4294967296

theorem paramSpecs_fit (kind : StageKind) : ∀ spec ∈ paramSpecs kind, spec.fits ∧ spec.fitsBinding := by
  cases kind <;> simp [paramSpecs, ParamSpec.fits, ParamSpec.fitsBinding]

theorem inRange_iff (spec : ParamSpec) (v : Int) : inRange spec v = true ↔ spec.lo ≤ v ∧ v ≤ spec.hi := by
  rw [inRange, Bool.and_eq_true, decide_eq_true_iff, decide_eq_true_iff]

theorem writeParams_length (specs : List ParamSpec) (vs : List Int) : (writeParams specs vs).length = (specs.map ParamSpec.width).sum := by
  induction specs generalizing vs with
  | nil => rfl
  | cons spec specs ih => rw [writeParams, List.length_append, bytesSignedLE_length, ih, List.map_cons, List.sum_cons]

theorem paramSpecs_width_le (kind : StageKind) : ((paramSpecs kind).map ParamSpec.width).sum ≤ 20 := by cases kind <;> decide

theorem Placed.param {bs : List Byte} {base o id : Nat} {specs : List ParamSpec} {vs : List Int} {spec : ParamSpec}
    (h : Placed bs (base + o) (writeParams specs vs)) (places : Consecutive o specs) (hid : specs[id]? = some spec) :
    Placed bs (base + spec.offset) (bytesSignedLE spec.width (vs.getD id 0)) := by
  induction specs generalizing o id vs with
  | nil => cases hid
  | cons first specs ih =>
    obtain ⟨here, rest⟩ := places
    rw [writeParams] at h
    cases id with
    | zero =>
      cases hid
      have head : vs.getD 0 0 = vs.headD 0 := by cases vs <;> rfl
      rw [here, head]
      exact h.left
    | succ id =>
      have tail : vs.tail.getD id 0 = vs.getD (id + 1) 0 := by cases vs <;> rfl
      rw [← tail]
      exact ih (h.right (by rw [bytesSignedLE_length, Nat.add_assoc])) rest hid

theorem writeStage_eq (e : StageEntry) : ∃ rest, writeStage e =
    [byteOf e.kind.code, e.engage, byteOf e.latch.val, flagByte e.default] ++ (writeParams (paramSpecs e.kind) e.params ++ rest) := by
  have width := paramSpecs_width_le e.kind
  refine ⟨_, (padTo_of_le ?_).trans (List.append_assoc _ _ _)⟩
  rw [List.length_append, writeParams_length]
  exact Nat.add_le_add (Nat.le_refl 4) width

theorem writeStage_length (e : StageEntry) : (writeStage e).length = 24 := padTo_length 24 _

theorem kindOf_byte (kind : StageKind) : kindOf (byteOf kind.code).toNat = some kind := by cases kind <;> rfl

section
variable {bs : List Byte} {base : Nat} {e : StageEntry}

theorem Placed.stageBytes (h : Placed bs base (writeStage e)) : kindOf (Machine.byteAt bs base) = some e.kind ∧
    bs.getD (base + 1) 0 = e.engage ∧ Machine.byteAt bs (base + 2) = e.latch.val ∧
    Machine.byteAt bs (base + 3) = (flagByte e.default).toNat := by
  obtain ⟨rest, eq⟩ := writeStage_eq e
  rw [eq] at h
  have head := h.left
  have latch : (byteOf e.latch.val).toNat = e.latch.val := Nat.mod_eq_of_lt (by omega)
  exact ⟨(congrArg kindOf (head.byteAt (i := 0) (by simp))).trans (kindOf_byte e.kind), head.getD (i := 1) (by simp),
    (head.byteAt (i := 2) (by simp)).trans latch, head.byteAt (i := 3) (by simp)⟩

/-- A parameter in its range is read as it was written. -/
theorem Placed.entryParam (h : Placed bs base (writeStage e)) {id : Nat} {spec : ParamSpec} (hid : (paramSpecs e.kind)[id]? = some spec)
    (range : inRange spec (e.params.getD id 0) = true) : Machine.entryParam bs base spec = e.params.getD id 0 := by
  obtain ⟨rest, eq⟩ := writeStage_eq e
  rw [eq] at h
  have place := (h.right (n := base + 4) rfl).left.param (paramSpecs_consecutive e.kind) hid
  obtain ⟨fits, -⟩ := paramSpecs_fit e.kind spec (List.mem_of_getElem? hid)
  obtain ⟨low, high⟩ := (inRange_iff _ _).1 range
  generalize e.params.getD id 0 = v at place low high ⊢
  unfold Machine.entryParam ParamSpec.fits at *
  cases signed : spec.signed with
  | true =>
    rw [if_pos signed] at fits
    rw [if_pos rfl, place.signedAt (bytesSignedLE_length _ _)]
    exact ofBytesSignedLE_bytesSignedLE (by omega) (by omega)
  | false =>
    rw [if_neg (by rw [signed]; exact Bool.false_ne_true)] at fits
    have value : v % (256 ^ spec.width : Nat) = v := Int.emod_eq_of_lt (by omega) (by omega)
    rw [if_neg Bool.false_ne_true, (show Placed bs _ (bytesLE spec.width _) from place).numAt_bytesLE (by rw [value]; omega), value]
    omega

theorem Placed.readStage (h : Placed bs base (writeStage e)) (ok : e.ok) : Machine.readStage bs base = e := by
  obtain ⟨kind, engage, latch, default⟩ := h.stageBytes
  obtain ⟨length, ranges, -⟩ := ok
  have params : (paramSpecs e.kind).map (Machine.entryParam bs base) = e.params := by
    refine List.ext_getElem? fun id => ?_
    rw [List.getElem?_map]
    cases hid : (paramSpecs e.kind)[id]? with
    | none =>
      have out := List.getElem?_eq_none_iff.1 hid
      exact (List.getElem?_eq_none_iff.2 (length ▸ out)).symm
    | some spec =>
      have inside : id < e.params.length := length ▸ (List.getElem?_eq_some_iff.1 hid).1
      rw [Option.map_some, h.entryParam hid (ranges id spec hid), List.getElem?_eq_getElem inside, List.getD_eq_getElem _ _ inside]
  have flag : ((flagByte e.default).toNat == 1) = e.default := by cases e.default <;> rfl
  unfold Machine.readStage
  simp only [kind, Option.getD_some, engage, latch, default, flag, params]
  simp
end

/-! ## A binding entry (R192) -/

theorem writeBinding_length (b : Binding) : (writeBinding b).length = 20 := padTo_length 20 _


theorem writeBinding_latch (number : Nat) (l : Fin 8) (mode : LatchMode) : ∃ rest, writeBinding ⟨number, .latch l mode⟩ =
    [byteOf number, 0, byteOf l.val, mode.code] ++ rest := ⟨_, padTo_of_le (by simp)⟩

theorem writeBinding_param (number stage id : Nat) (low high : Int) : ∃ rest, writeBinding ⟨number, .param stage id low high⟩ =
    [byteOf number, 1, byteOf stage, byteOf id] ++ (bytesSignedLE 4 low ++ (bytesSignedLE 4 high ++ rest)) :=
  ⟨_, (padTo_of_le (by simp)).trans ((List.append_assoc _ _ _).trans (List.append_assoc _ _ _))⟩

theorem byteOf_small {n : Nat} (h : n < 256) : (byteOf n).toNat = n := Nat.mod_eq_of_lt h

section
variable {bs : List Byte} {base number : Nat}

theorem Placed.latchBytes {l : Fin 8} {mode : LatchMode} (h : Placed bs base (writeBinding ⟨number, .latch l mode⟩)) (small : number ≤ 15) :
    Machine.byteAt bs base = number ∧ Machine.byteAt bs (base + 1) = 0 ∧ Machine.byteAt bs (base + 2) = l.val ∧
      Machine.byteAt bs (base + 3) = mode.code.toNat := by
  obtain ⟨rest, eq⟩ := writeBinding_latch number l mode
  rw [eq] at h
  have head := h.left
  exact ⟨(head.byteAt (i := 0) (by simp)).trans (byteOf_small (by omega)), head.byteAt (i := 1) (by simp),
    (head.byteAt (i := 2) (by simp)).trans (byteOf_small (by omega)), head.byteAt (i := 3) (by simp)⟩

theorem Placed.paramBytes {stage id : Nat} {low high : Int} (h : Placed bs base (writeBinding ⟨number, .param stage id low high⟩))
    (small : number ≤ 15) (hstage : stage < 256) (hid : id < 256) :
    Machine.byteAt bs base = number ∧ Machine.byteAt bs (base + 1) = 1 ∧ Machine.byteAt bs (base + 2) = stage ∧
      Machine.byteAt bs (base + 3) = id := by
  obtain ⟨rest, eq⟩ := writeBinding_param number stage id low high
  rw [eq] at h
  have head := h.left
  exact ⟨(head.byteAt (i := 0) (by simp)).trans (byteOf_small (by omega)), head.byteAt (i := 1) (by simp),
    (head.byteAt (i := 2) (by simp)).trans (byteOf_small hstage), (head.byteAt (i := 3) (by simp)).trans (byteOf_small hid)⟩

/-- The two ends of a parameter binding, which lie within its parameter's range. -/
theorem Placed.paramEnds {stage id : Nat} {low high : Int} {kind : StageKind} {spec : ParamSpec}
    (h : Placed bs base (writeBinding ⟨number, .param stage id low high⟩)) (mem : spec ∈ paramSpecs kind)
    (hlow : inRange spec low = true) (hhigh : inRange spec high = true) :
    Machine.signedAt bs (base + 4) 4 = low ∧ Machine.signedAt bs (base + 8) 4 = high := by
  obtain ⟨rest, eq⟩ := writeBinding_param number stage id low high
  rw [eq] at h
  obtain ⟨-, least, most⟩ := paramSpecs_fit kind spec mem
  obtain ⟨low1, low2⟩ := (inRange_iff _ _).1 hlow
  obtain ⟨high1, high2⟩ := (inRange_iff _ _).1 hhigh
  have four : ((256 ^ 4 : Nat) : Int) = 4294967296 := by norm_num
  have first := (h.right (n := base + 4) rfl).left
  have second := ((h.right (n := base + 4) rfl).right (n := base + 8) (by rw [bytesSignedLE_length])).left
  exact ⟨(first.signedAt (bytesSignedLE_length _ _)).trans (ofBytesSignedLE_bytesSignedLE (by omega) (by omega)),
    (second.signedAt (bytesSignedLE_length _ _)).trans (ofBytesSignedLE_bytesSignedLE (by omega) (by omega))⟩
end

/-- A binding in order names a stage and an id that a byte holds. -/
theorem Binding.ok_param {stages : List StageEntry} {number stage id : Nat} {low high : Int} (few : stages.length ≤ 12)
    (ok : Binding.ok stages ⟨number, .param stage id low high⟩) : number ≤ 15 ∧ stage < 256 ∧ id < 256 ∧
      ∃ e spec, stages[stage]? = some e ∧ (paramSpecs e.kind)[id]? = some spec ∧ inRange spec low = true ∧ inRange spec high = true := by
  obtain ⟨small, e, spec, hstage, hid, ranges⟩ := ok
  have inside := (List.getElem?_eq_some_iff.1 hstage).1
  have named := (List.getElem?_eq_some_iff.1 hid).1
  have count : (paramSpecs e.kind).length ≤ 9 := by cases e.kind <;> decide
  exact ⟨small, by omega, by omega, e, spec, hstage, hid, ranges⟩

theorem Placed.readBinding {bs : List Byte} {base : Nat} {stages : List StageEntry} {b : Binding} (h : Placed bs base (writeBinding b))
    (few : stages.length ≤ 12) (ok : b.ok stages) : Machine.readBinding bs base = b := by
  obtain ⟨number, target⟩ := b
  cases target with
  | latch l mode =>
    obtain ⟨hnumber, kind, hl, hmode⟩ := h.latchBytes ok.1
    unfold Machine.readBinding
    rw [hnumber, if_pos kind, hl, hmode, latchModeOf_code]
    simp
  | param stage id low high =>
    obtain ⟨small, hstage, hid, e, spec, -, named, hlow, hhigh⟩ := Binding.ok_param few ok
    obtain ⟨hnumber, kind, stage', id'⟩ := h.paramBytes small hstage hid
    obtain ⟨low', high'⟩ := h.paramEnds (List.mem_of_getElem? named) hlow hhigh
    unfold Machine.readBinding
    rw [hnumber, if_neg (by rw [kind]; decide), stage', id', low', high']

/-! ## The header and the optional parts (R192) -/

section
variable (r : Record)

/-- The three optional parts one after the other. -/
theorem writeRecord_eq : writeRecord r =
    [1, byteOf r.name.length, r.fade, r.timing.code, presenceFlags r.parts, byteOf r.stages.length, byteOf r.bindings.length] ++
      (r.name ++ ((r.parts.input.map fun i => [i.code]).getD [] ++ ((r.parts.tempo.map fun t => bytesLE 3 t).getD [] ++
        ((r.parts.latches.map fun l => [l.mask, l.values &&& l.mask]).getD [] ++
          (r.stages.flatMap writeStage ++ r.bindings.flatMap writeBinding))))) := by
  simp only [writeRecord, writeParts, List.append_assoc]

theorem presenceFlags_bits (p : Parts) : (presenceFlags p).toNat % 2 = (if p.input.isSome then 1 else 0) ∧
    (presenceFlags p).toNat / 2 % 2 = (if p.tempo.isSome then 1 else 0) ∧
    (presenceFlags p).toNat / 4 % 2 = (if p.latches.isSome then 1 else 0) := by
  unfold presenceFlags
  cases p.input.isSome <;> cases p.tempo.isSome <;> cases p.latches.isSome <;> decide

theorem Record.header : byteAt (writeRecord r) 0 = 1 ∧ byteAt (writeRecord r) 1 = (byteOf r.name.length).toNat ∧
    (writeRecord r).getD 2 0 = r.fade ∧ byteAt (writeRecord r) 3 = r.timing.code.toNat ∧
    byteAt (writeRecord r) 4 = (presenceFlags r.parts).toNat ∧ byteAt (writeRecord r) 5 = (byteOf r.stages.length).toNat ∧
    byteAt (writeRecord r) 6 = (byteOf r.bindings.length).toNat := ⟨rfl, rfl, rfl, rfl, rfl, rfl, rfl⟩

theorem Record.hasInput : hasInput (writeRecord r) = r.parts.input.isSome := by
  obtain ⟨input, -, -⟩ := presenceFlags_bits r.parts
  unfold Machine.hasInput
  rw [r.header.2.2.2.2.1, input]
  cases r.parts.input.isSome <;> rfl

theorem Record.hasTempo : hasTempo (writeRecord r) = r.parts.tempo.isSome := by
  obtain ⟨-, tempo, -⟩ := presenceFlags_bits r.parts
  unfold Machine.hasTempo
  rw [r.header.2.2.2.2.1, tempo]
  cases r.parts.tempo.isSome <;> rfl

theorem Record.hasLatches : hasLatches (writeRecord r) = r.parts.latches.isSome := by
  obtain ⟨-, -, latches⟩ := presenceFlags_bits r.parts
  unfold Machine.hasLatches
  rw [r.header.2.2.2.2.1, latches]
  cases r.parts.latches.isSome <;> rfl
end

end Sys2Proof.Machine
end

section
/-! CORRECTNESS. A record in order passes validation when it is written, and reading gives it back (R67, R109, R192). -/

namespace Sys2Proof.Machine

/-! ## The places of a written record (R192) -/

section
variable {r : Record}

/-- The counts of a record in order, as its header gives them. -/
theorem Record.ok.counts (ok : r.ok) : byteAt (writeRecord r) 1 = r.name.length ∧ byteAt (writeRecord r) 5 = r.stages.length ∧
    byteAt (writeRecord r) 6 = r.bindings.length := by
  obtain ⟨name, -, -, -, stages, -, -, -, -, bindings, -⟩ := ok
  obtain ⟨-, hname, -, -, -, hstages, hbindings⟩ := r.header
  exact ⟨hname.trans (byteOf_small (by omega)), hstages.trans (byteOf_small (by omega)), hbindings.trans (byteOf_small (by omega))⟩

/-- Where the parts of a written record stand. -/
theorem Record.ok.places (ok : r.ok) : let bs := writeRecord r
    Placed bs 7 r.name ∧ Placed bs (inputAt bs) ((r.parts.input.map fun i => [i.code]).getD []) ∧
    Placed bs (tempoAt bs) ((r.parts.tempo.map fun t => bytesLE 3 t).getD []) ∧
    Placed bs (latchesAt bs) ((r.parts.latches.map fun l => [l.mask, l.values &&& l.mask]).getD []) ∧
    Placed bs (stagesAt bs) (r.stages.flatMap writeStage) ∧
    Placed bs (stagesAt bs + 24 * r.stages.length) (r.bindings.flatMap writeBinding) := by
  intro bs
  obtain ⟨name, -, -⟩ := ok.counts
  have whole : Placed bs 0 _ := .of_eq (writeRecord_eq r)
  have atName := whole.right (n := 7) rfl
  have atInput := atName.right (n := inputAt bs) (by rw [inputAt, name])
  have atTempo := atInput.right (n := tempoAt bs) (by rw [tempoAt, r.hasInput]; cases r.parts.input <;> rfl)
  have atLatches := atTempo.right (n := latchesAt bs) (by rw [latchesAt, r.hasTempo]; cases r.parts.tempo <;> rfl)
  have atStages := atLatches.right (n := stagesAt bs) (by rw [stagesAt, r.hasLatches]; cases r.parts.latches <;> rfl)
  exact ⟨atName.left, atInput.left, atTempo.left, atLatches.left, atStages.left,
    atStages.right (by rw [flatMap_length writeStage_length])⟩

theorem Record.ok.stage (ok : r.ok) {i : Nat} {e : StageEntry} (h : r.stages[i]? = some e) :
    Placed (writeRecord r) (stageAt (writeRecord r) i) (writeStage e) := by
  obtain ⟨-, -, -, -, stages, -⟩ := ok.places
  exact stages.entry writeStage_length h

theorem Record.ok.binding (ok : r.ok) {j : Nat} {b : Binding} (h : r.bindings[j]? = some b) :
    Placed (writeRecord r) (bindingAt (writeRecord r) j) (writeBinding b) := by
  obtain ⟨-, -, -, -, -, bindings⟩ := ok.places
  obtain ⟨-, count, -⟩ := ok.counts
  have place := bindings.entry writeBinding_length h
  rwa [bindingAt, stageAt, count]

/-- The length of a written record is the one its header implies, and the record area holds it. -/
theorem Record.ok.length (ok : r.ok) : (writeRecord r).length = impliedLength (writeRecord r) ∧ 7 ≤ (writeRecord r).length ∧
    (writeRecord r).length ≤ 1024 := by
  obtain ⟨hname, hstages, hbindings⟩ := ok.counts
  obtain ⟨name, -, -, -, stages, -, -, -, -, bindings, -⟩ := ok
  have parts (o : Option InputSel) (t : Option Nat) (l : Option LatchField) :
      ((o.map fun i => [i.code]).getD []).length = (if o.isSome then 1 else 0) ∧
      ((t.map fun t => bytesLE 3 t).getD []).length = (if t.isSome then 3 else 0) ∧
      ((l.map fun l => [l.mask, l.values &&& l.mask]).getD []).length = (if l.isSome then 2 else 0) := by
    refine ⟨?_, ?_, ?_⟩
    · cases o <;> rfl
    · cases t <;> rfl
    · cases l <;> rfl
  obtain ⟨input, tempo, latches⟩ := parts r.parts.input r.parts.tempo r.parts.latches
  have length : (writeRecord r).length = 7 + r.name.length + (if r.parts.input.isSome then 1 else 0) +
      (if r.parts.tempo.isSome then 3 else 0) + (if r.parts.latches.isSome then 2 else 0) + 24 * r.stages.length +
      20 * r.bindings.length := by
    rw [writeRecord_eq]
    simp only [List.length_append, input, tempo, latches, flatMap_length writeStage_length, flatMap_length writeBinding_length]
    simp only [List.length_cons, List.length_nil]
    omega
  refine ⟨?_, by omega, ?_⟩
  · rw [length, impliedLength, bindingAt, stageAt, stagesAt, latchesAt, tempoAt, inputAt, hname, hstages, hbindings, r.hasInput,
      r.hasTempo, r.hasLatches]
  · rw [length]
    split_ifs <;> omega

/-! ## Reading gives the record back -/

theorem Record.ok.readParts (ok : r.ok) : readParts (writeRecord r) = r.parts := by
  obtain ⟨-, input, tempo, latches, -, -⟩ := ok.places
  obtain ⟨-, -, beat, field, -⟩ := ok
  have inputEq : (if Machine.hasInput (writeRecord r) then inputOf (byteAt (writeRecord r) (inputAt (writeRecord r))) else none) = r.parts.input := by
    rw [r.hasInput]
    cases h : r.parts.input with
    | none => rfl
    | some i =>
      rw [h] at input
      exact (congrArg inputOf (input.byteAt (i := 0) (by simp))).trans (inputOf_code i)
  have tempoEq : (if Machine.hasTempo (writeRecord r) then some (numAt (writeRecord r) (tempoAt (writeRecord r)) 3) else none) = r.parts.tempo := by
    rw [r.hasTempo]
    cases h : r.parts.tempo with
    | none => rfl
    | some t =>
      obtain ⟨-, most⟩ := beat t h
      rw [h] at tempo
      exact congrArg some (Placed.numAt_bytesLE tempo (by omega))
  have latchesEq : (if Machine.hasLatches (writeRecord r) then some (LatchField.mk ((writeRecord r).getD (latchesAt (writeRecord r)) 0)
      ((writeRecord r).getD (latchesAt (writeRecord r) + 1) 0)) else none) = r.parts.latches := by
    rw [r.hasLatches]
    cases h : r.parts.latches with
    | none => rfl
    | some f =>
      rw [h] at latches
      have values : (writeRecord r).getD (latchesAt (writeRecord r) + 1) 0 = f.values :=
        (latches.getD (i := 1) (by simp)).trans (field f h)
      have mask : (writeRecord r).getD (latchesAt (writeRecord r)) 0 = f.mask := latches.getD (i := 0) (by simp)
      rw [mask, values]
      rfl
  rw [Machine.readParts, inputEq, tempoEq, latchesEq]

/-- Reading each of n entries gives the list that they are written from. -/
theorem map_range_eq {α : Type} {as : List α} {n : Nat} {f : Nat → α} (length : n = as.length) (h : ∀ i a, as[i]? = some a → f i = a) :
    (List.range n).map f = as := by
  refine List.ext_getElem (by simp [length]) fun i _ inside => ?_
  rw [List.getElem_map, List.getElem_range]
  exact h i _ (List.getElem?_eq_getElem inside)

theorem Record.ok.readRecord (ok : r.ok) : readRecord (writeRecord r) = r := by
  obtain ⟨hname, hstages, hbindings⟩ := ok.counts
  obtain ⟨name, -, -, -, -, -⟩ := ok.places
  obtain ⟨-, -, fade, timing, -, -, -⟩ := r.header
  have ⟨_, _, _, _, few, good, _, _, _, _, bound⟩ := ok
  have nameEq : readName (writeRecord r) = r.name := name.take hname.symm
  have stagesEq := map_range_eq (f := fun i => readStage (writeRecord r) (stageAt (writeRecord r) i)) hstages
    fun i e h => (ok.stage h).readStage (good e (List.mem_of_getElem? h))
  have bindingsEq := map_range_eq (f := fun j => readBinding (writeRecord r) (bindingAt (writeRecord r) j)) hbindings
    fun j b h => (ok.binding h).readBinding few (bound b (List.mem_of_getElem? h))
  rw [Machine.readRecord, nameEq, fade, timing, timingOf_code, ok.readParts, stagesEq, bindingsEq]
  rfl
end

end Sys2Proof.Machine
end

section
/-! CORRECTNESS. A record in order passes each of the ten checks of validation (R67..R70). -/

namespace Sys2Proof.Machine

/-! ## The kinds of a written record's stages -/

section
variable {r : Record}

theorem Record.ok.kindAt (ok : r.ok) {i : Nat} {e : StageEntry} (h : r.stages[i]? = some e) :
    kindAt (writeRecord r) i = some e.kind := (ok.stage h).stageBytes.1

/-- A stage that the header counts stands in the list. -/
theorem Record.ok.exists_stage (ok : r.ok) {i : Nat} (h : i ∈ List.range (byteAt (writeRecord r) 5)) :
    ∃ e, r.stages[i]? = some e ∧ e ∈ r.stages := by
  obtain ⟨-, count, -⟩ := ok.counts
  have inside : i < r.stages.length := count ▸ List.mem_range.1 h
  exact ⟨r.stages[i], List.getElem?_eq_getElem inside, List.getElem_mem inside⟩

theorem Record.ok.kinds (ok : r.ok) :
    (List.range (byteAt (writeRecord r) 5)).map (Machine.kindAt (writeRecord r)) = r.stages.map fun e => some e.kind := by
  obtain ⟨-, count, -⟩ := ok.counts
  refine map_range_eq (by rw [count, List.length_map]) fun i k h => ?_
  obtain ⟨e, he, rfl⟩ := Option.map_eq_some_iff.1 ((List.getElem?_map ..).symm.trans h)
  exact ok.kindAt he

/-- The DELAY entries that the bytes show are those of the record (R65). -/
theorem Record.ok.delays (ok : r.ok) :
    (delayPositions (writeRecord r)).length = (r.stages.filter fun e => e.kind == .delay).length := by
  have counted := congrArg (List.countP (· == some StageKind.delay)) ok.kinds
  rw [List.countP_map, List.countP_map, List.countP_eq_length_filter, List.countP_eq_length_filter] at counted
  exact counted

/-- The cost that the bytes show is the record's (R66). -/
theorem Record.ok.cost (ok : r.ok) {n : Nat} (h : n ≤ r.stages.length) :
    costUpTo (writeRecord r) n = ((r.stages.take n).map fun e => e.kind.cost).sum := by
  induction n with
  | zero => rfl
  | succ n ih =>
    have inside : n < r.stages.length := h
    rw [costUpTo, ih (Nat.le_of_lt inside), ok.kindAt (List.getElem?_eq_getElem inside), List.take_add_one,
      List.getElem?_eq_getElem inside, List.map_append, List.sum_append]
    rfl

theorem Record.ok.cost_le (ok : r.ok) {n : Nat} (h : n ≤ r.stages.length) : costUpTo (writeRecord r) n ≤ 96 := by
  have split := congrArg (fun l => (l.map fun e : StageEntry => e.kind.cost).sum) (List.take_append_drop n r.stages)
  simp only [List.map_append, List.sum_append] at split
  rw [ok.cost h]
  have ⟨_, _, _, _, _, _, _, _, budget, _, _⟩ := ok
  omega

/-! ## The checks in order -/

theorem Record.ok.checkLength (ok : r.ok) : checkLength (writeRecord r) = none := by
  obtain ⟨implied, low, high⟩ := ok.length
  rw [Machine.checkLength, if_neg (by omega), if_neg (by omega), if_neg (by omega), if_neg (by omega)]

theorem Record.checkVersion (r : Record) : checkVersion (writeRecord r) = none := if_pos r.header.1

theorem Record.ok.checkName (ok : r.ok) : checkName (writeRecord r) = none := by
  obtain ⟨count, -, -⟩ := ok.counts
  obtain ⟨name, -⟩ := ok.places
  have ⟨short, printable, _, _, _, _, _, _, _, _, _⟩ := ok
  rw [Machine.checkName, count, if_neg (Nat.not_lt.2 short), List.findSome?_eq_none_iff]
  intro i hi
  have inside : i < r.name.length := List.mem_range.1 hi
  have ch : byteAt (writeRecord r) (7 + i) = r.name[i].toNat := by
    rw [name.byteAt inside, byteAt, List.getD_eq_getElem _ _ inside]
  rw [ch]
  exact if_pos (printable _ (List.getElem_mem inside))

theorem Record.ok.checkStageCount (ok : r.ok) : checkStageCount (writeRecord r) = none := by
  obtain ⟨-, count, -⟩ := ok.counts
  have ⟨_, _, _, _, few, _, ⟨init, last, list, _, _⟩, _, _, _, _⟩ := ok
  have some_ : r.stages.length = init.length + 1 := by rw [list, List.length_append, List.length_singleton]
  exact if_neg (by omega)

theorem Record.ok.checkKind (ok : r.ok) : checkKind (writeRecord r) = none := by
  rw [Machine.checkKind, List.findSome?_eq_none_iff]
  intro i hi
  obtain ⟨e, he, -⟩ := ok.exists_stage hi
  rw [ok.kindAt he]
  rfl

theorem Record.ok.checkNoOutput (ok : r.ok) : checkNoOutput (writeRecord r) = none := by
  obtain ⟨-, count, -⟩ := ok.counts
  have ⟨_, _, _, _, _, _, ⟨init, last, list, output, others⟩, _, _, _, _⟩ := ok
  have size : byteAt (writeRecord r) 5 - 1 = init.length := by
    rw [count, list, List.length_append, List.length_singleton, Nat.add_sub_cancel]
  have final : r.stages[init.length]? = some last := by rw [list, List.getElem?_concat_length]
  rw [Machine.checkNoOutput, size, ok.kindAt final, output, if_pos rfl, Option.or_none, List.findSome?_eq_none_iff]
  intro i hi
  have inside : i < init.length := List.mem_range.1 hi
  have here : r.stages[i]? = some init[i] := by rw [list, List.getElem?_append_left inside, List.getElem?_eq_getElem inside]
  rw [ok.kindAt here]
  exact if_neg fun h => others _ (List.getElem_mem inside) (Option.some.inj h)

theorem Record.ok.partsRangeFault (ok : r.ok) : partsRangeFault (writeRecord r) = none := by
  have ⟨_, _, beat, _, _, _, _, _, _, _, _⟩ := ok
  have input : ¬(Machine.hasInput (writeRecord r) = true ∧ 2 < byteAt (writeRecord r) (inputAt (writeRecord r))) := by
    rintro ⟨has, far⟩
    obtain ⟨-, place, -⟩ := ok.places
    rw [r.hasInput] at has
    obtain ⟨i, hi⟩ := Option.isSome_iff_exists.1 has
    rw [hi] at place
    have code : byteAt (writeRecord r) (inputAt (writeRecord r)) = i.code.toNat := place.byteAt (i := 0) (by simp)
    have small : i.code.toNat ≤ 2 := by cases i <;> decide
    omega
  have tempo : ¬(Machine.hasTempo (writeRecord r) = true ∧ (numAt (writeRecord r) (tempoAt (writeRecord r)) 3 < Config.beatMin ∨
      Config.beatMax < numAt (writeRecord r) (tempoAt (writeRecord r)) 3)) := by
    rintro ⟨has, out⟩
    obtain ⟨-, -, place, -⟩ := ok.places
    rw [r.hasTempo] at has
    obtain ⟨t, ht⟩ := Option.isSome_iff_exists.1 has
    obtain ⟨low, high⟩ := beat t ht
    rw [ht] at place
    rw [Placed.numAt_bytesLE place (by omega)] at out
    simp only [Config.beatMin, Config.beatMax] at out
    omega
  rw [Machine.partsRangeFault, if_neg input, if_neg tempo]

/-- A stage entry in order has no fault in its fields (R63, R68). -/
theorem Placed.stageRangeFault {bs : List Byte} {base : Nat} {e : StageEntry} (h : Placed bs base (writeStage e)) (ok : e.ok) :
    stageRangeFault bs base e.kind = none := by
  obtain ⟨-, -, latch, default⟩ := h.stageBytes
  obtain ⟨-, ranges, gate⟩ := ok
  have flag : (flagByte e.default).toNat ≤ 1 := by cases e.default <;> decide
  rw [Machine.stageRangeFault, if_neg (by omega), if_neg (by omega), List.findSome?_eq_none_iff]
  intro id hid
  obtain ⟨spec, named⟩ : ∃ spec, (paramSpecs e.kind)[id]? = some spec := ⟨_, List.getElem?_eq_getElem (List.mem_range.1 hid)⟩
  have inside : inRange spec (Machine.entryParam bs base spec) = true := by
    rw [h.entryParam named (ranges id spec named)]
    exact ranges id spec named
  have closed : ¬(e.kind = .gate ∧ id = 1 ∧ Machine.numAt bs (base + 4) 3 < Machine.numAt bs (base + 7) 3) := by
    rintro ⟨kind, -, wrong⟩
    have specs : paramSpecs e.kind = paramSpecs .gate := congrArg paramSpecs kind
    have openSpec : (paramSpecs e.kind)[0]? = some ⟨0, 8388607, 4, 3, false, false⟩ := by rw [specs]; rfl
    have closeSpec : (paramSpecs e.kind)[1]? = some ⟨0, 8388607, 7, 3, false, false⟩ := by rw [specs]; rfl
    have openRead : (Machine.numAt bs (base + 4) 3 : Int) = e.params.getD 0 0 := h.entryParam openSpec (ranges 0 _ openSpec)
    have closeRead : (Machine.numAt bs (base + 7) 3 : Int) = e.params.getD 1 0 := h.entryParam closeSpec (ranges 1 _ closeSpec)
    have := gate kind
    omega
  simp only [named, inside, Bool.not_true, Bool.false_eq_true, if_false, if_neg closed]

theorem Record.ok.checkRange (ok : r.ok) : checkRange (writeRecord r) = none := by
  obtain ⟨-, -, -, timing, -, -, -⟩ := r.header
  have small : r.timing.code.toNat ≤ 1 := by cases r.timing <;> decide
  have ⟨_, _, _, _, _, good, _, _, _, _, _⟩ := ok
  rw [Machine.checkRange, if_neg (by omega), ok.partsRangeFault, Option.none_or, List.findSome?_eq_none_iff]
  intro i hi
  obtain ⟨e, he, mem⟩ := ok.exists_stage hi
  rw [ok.kindAt he]
  exact (ok.stage he).stageRangeFault (good e mem)

theorem Record.ok.checkDelays (ok : r.ok) : checkDelays (writeRecord r) = none := by
  have ⟨_, _, _, _, _, _, _, few, _, _, _⟩ := ok
  have two : (delayPositions (writeRecord r))[2]? = none := List.getElem?_eq_none (ok.delays ▸ few)
  rw [Machine.checkDelays, two]

/-- A binding entry in order has no fault (R64, R69). -/
theorem Record.ok.bindingFault (ok : r.ok) {base : Nat} {b : Binding} (h : Placed (writeRecord r) base (writeBinding b))
    (good : b.ok r.stages) : bindingFault (writeRecord r) base = none := by
  obtain ⟨-, count, -⟩ := ok.counts
  have ⟨_, _, _, _, few, _, _, _, _, _, _⟩ := ok
  obtain ⟨number, target⟩ := b
  cases target with
  | latch l mode =>
    have small : number ≤ 15 := good.1
    obtain ⟨hnumber, kind, hl, hmode⟩ := h.latchBytes small
    have modes : mode.code.toNat ≤ 4 := by cases mode <;> decide
    rw [Machine.bindingFault, if_neg (by omega), if_pos kind, if_neg (by omega), if_neg (by omega)]
  | param stage id low high =>
    obtain ⟨small, hstage, hid, e, spec, found, named, hlow, hhigh⟩ := Binding.ok_param few good
    obtain ⟨hnumber, kind, stage', id'⟩ := h.paramBytes small hstage hid
    obtain ⟨low', high'⟩ := h.paramEnds (List.mem_of_getElem? named) hlow hhigh
    have inside : stage < r.stages.length := (List.getElem?_eq_some_iff.1 found).1
    rw [Machine.bindingFault, if_neg (by omega), if_neg (by omega), if_pos kind, if_neg (by omega), stage', ok.kindAt found, id',
      Option.bind_some, named]
    simp only [low', high', hlow, hhigh, Bool.not_true, Bool.false_eq_true, if_false]

theorem Record.ok.checkBinding (ok : r.ok) : checkBinding (writeRecord r) = none := by
  obtain ⟨-, -, count⟩ := ok.counts
  have ⟨_, _, _, _, _, _, _, _, _, few, good⟩ := ok
  rw [Machine.checkBinding, count, if_neg (Nat.not_lt.2 few), List.findSome?_eq_none_iff]
  intro j hj
  have inside : j < r.bindings.length := List.mem_range.1 hj
  exact ok.bindingFault (ok.binding (List.getElem?_eq_getElem inside)) (good _ (List.getElem_mem inside))

theorem Record.ok.checkBudget (ok : r.ok) : checkBudget (writeRecord r) = none := by
  obtain ⟨-, count, -⟩ := ok.counts
  rw [Machine.checkBudget, count, List.findSome?_eq_none_iff]
  intro i hi
  exact if_neg (Nat.not_lt.2 (ok.cost_le (List.mem_range.1 hi)))

theorem Record.ok.validate (ok : r.ok) : validate (writeRecord r) =
    .ok (r.stages.map fun e => e.kind.cost).sum (r.stages.filter fun e => e.kind == .delay).length := by
  obtain ⟨-, count, -⟩ := ok.counts
  have passed : (checks.findSome? fun check => check (writeRecord r)) = none := by
    simp only [checks, List.findSome?_cons, ok.checkLength, r.checkVersion, ok.checkName, ok.checkStageCount, ok.checkKind,
      ok.checkNoOutput, ok.checkRange, ok.checkDelays, ok.checkBinding, ok.checkBudget, List.findSome?_nil]
  rw [Machine.validate, passed, count, ok.cost (Nat.le_refl _), List.take_length, ok.delays]
end

/-- Settles O60. -/
theorem recordsInOrderSurviveWritingAndReading : Obligations.RecordsInOrderSurviveWritingAndReading := by
  unfold Obligations.RecordsInOrderSurviveWritingAndReading
  exact fun r ok => ⟨ok.readRecord, ok.validate⟩

end Sys2Proof.Machine
end
